-- ==== Sys2Proof/Word.lean ====
section
/-!
DEFINITION. The byte, which is all the HS240's port and link see as bits; every other quantity of the manual is a
number (00_scope.md section 6.1) and is held as one.
-/

namespace Sys2Proof

/-- A byte on the request port or on the span link (R189, R152). -/
abbrev Byte := BitVec 8

end Sys2Proof
end

