-- ==== Sys2Proof/Syntax.lean ====
section
/-!
DEFINITION. The commands of the HS240: one constructor of `Instr` for each row of spec/opcode_table.json, with the
operands the rule of that row gives it. Parameters that arrive as codes (R193) stay numbers here, so that a value
outside its field can be refused by the owning rule as R6 says.
-/

namespace Sys2Proof

/-- The three stations that may send a request (R190, R191). -/
inductive Station
  | operator | harbour | maintenance
  deriving DecidableEq, Repr

/-- The two track channels (R36): P primary, C check. -/
inductive Channel
  | p | c
  deriving DecidableEq, Repr

/-- A direction of leaf travel (R37). -/
inductive Way
  | up | down
  deriving DecidableEq, Repr

/-- The two road approaches (R84). -/
inductive Ap
  | a | b
  deriving DecidableEq, Repr

/-- One of the twelve gates A0-A5 and B0-B5 (R85). -/
structure GateId where
  ap : Ap
  ix : Fin 6
  deriving DecidableEq, Repr

/-- A direction of shipping (R111). -/
inductive Dir
  | inbound | outbound
  deriving DecidableEq, Repr

/-- The two channel beams (R116). -/
inductive Beam
  | downstream | upstream
  deriving DecidableEq, Repr

/-- The two span locks (R74). -/
inductive LockId
  | tail | toe
  deriving DecidableEq, Repr

/-- The three lamps of a signal head (R111). -/
inductive Colour
  | red | amber | green
  deriving DecidableEq, Repr

/-- A proved road lamp: a gate's lane red lamp or an approach's amber group (R94). -/
inductive RoadLamp
  | lane (g : GateId)
  | amber (ap : Ap)
  deriving DecidableEq, Repr

/-- What a 500 ms proving span showed: current throughout, no current throughout, or neither (R94, R114). -/
inductive Proving
  | current | noCurrent | mixed
  deriving DecidableEq, Repr

/-- Two debounced limit readings of a gate: UP and DOWN (R85). -/
structure GateLimits where
  up : Bool
  down : Bool
  deriving DecidableEq, Repr

/-- Six things of one kind, for the six gates of an approach (R85). -/
structure Six (α : Type) where
  g0 : α
  g1 : α
  g2 : α
  g3 : α
  g4 : α
  g5 : α
  deriving DecidableEq, Repr

/-- Three things of one kind, for the three zone detectors of an approach (R95). -/
structure Three (α : Type) where
  z0 : α
  z1 : α
  z2 : α
  deriving DecidableEq, Repr

/-- An envelope band as carried by WRITE_SETTING (R67); the class is a code, 0 FULL and 1 SLOW (R193). -/
structure RawBand where
  upper : Int
  upLimit : Int
  downLimit : Int
  cls : Nat
  deriving DecidableEq, Repr

/-- The value of a settings item as written or read (R184): a number or code, the whole clearance table, or the
whole set of envelope bands. -/
inductive SettingValue
  | num (v : Int)
  | table (points : List (Int × Int))
  | bands (bs : List RawBand)
  deriving DecidableEq, Repr

/-- The changes an AMEND carries, one field for each bit of its change byte (R9, R190). -/
structure AmendChange where
  draft : Option Int
  priority : Option Nat
  notBefore : Option Nat
  dropNotBefore : Bool
  follows : Option Nat
  dropFollows : Bool
  deriving DecidableEq, Repr

/-- What a LOOKUP names (R12), by its selector byte (R190); `other` is a selector outside 0 and 1. -/
inductive LookupKey
  | number (n : Nat)
  | vessel (r : Nat)
  | other
  deriving DecidableEq, Repr

/-- The optional not-before of a BOOK: its presence flag as received, and the value where one follows (R7, R193). -/
structure NotBeforeParam where
  flag : Nat
  value : Nat
  deriving DecidableEq, Repr

/-- The commands: requests (each with its station), field line events, link events and timer expiries. One
constructor per row of spec/opcode_table.json. -/
inductive Instr
  -- part and port (R188, R189)
  | reset (role1 role0 emergencyStop : Bool)
  | selectionStart
  | selectionEnd (bytes : List Byte)
  -- the passage book (chapter 1)
  | book (st : Station) (vessel dir : Nat) (draft : Int) (priority : Nat) (notBefore : NotBeforeParam) (follows : Nat)
  | amend (st : Station) (num : Nat) (change : AmendChange)
  | cancel (st : Station) (num : Nat)
  | lookup (st : Station) (key : LookupKey)
  | listBook (st : Station) (filter : Nat) (resume : Option Nat)
  | listChanged (st : Station)
  | forget (st : Station) (num : Nat)
  | markPassed (st : Station) (num : Nat)
  | setWater (st : Station) (level : Int)
  -- leaf requests (chapter 4)
  | enterCreep (st : Station)
  | leaveCreep (st : Station)
  | teachSeat (st : Station)
  | teachPress
  | teachLockoutExpiry
  | recoverLower (st : Station)
  | stopSpan (st : Station)
  -- road requests (chapter 5); a gate is a code, 0-5 for A0-A5 and 6-11 for B0-B5
  | retryGate (st : Station) (gate : Nat)
  | reopenRoad (st : Station)
  | closeRoad (st : Station)
  | releaseLane (st : Station) (gate : Nat)
  | holdLane (st : Station) (gate : Nat)
  | releaseAll (st : Station)
  | holdAll (st : Station)
  -- opening requests (chapter 7)
  | openSpan (st : Station)
  | closeNow (st : Station)
  | abortOpening (st : Station)
  | continueOpening (st : Station)
  -- fault requests (chapter 9)
  | setMask (st : Station) (fault value : Nat)
  | ackFaults (st : Station)
  | resumePrepare (st : Station)
  | resume (st : Station)
  -- settings requests (chapter 10)
  | writeSetting (st : Station) (item : Nat) (value : SettingValue)
  | storeSettings (st : Station) (block : Nat)
  | setProtect (st : Station) (value : Nat)
  -- reads (R192)
  | readStatus (st : Station)
  | readLeaf (st : Station)
  | readApproach (st : Station) (ap : Nat)
  | readSignals (st : Station)
  | readFaults (st : Station)
  | readLink (st : Station)
  | readSetting (st : Station) (item copy : Nat)
  -- clock and water events
  | spanClockTick
  | waterStaleExpiry
  -- track, seat and line events (chapters 3 and 4)
  | trackCount (ch : Channel) (way : Way)
  | illegalTransition (ch : Channel)
  | sensorFaultActive (ch : Channel)
  | sensorFaultInactive (ch : Channel) (pair : Fin 4)
  | markEvent (ch : Channel)
  | speedWindowEnd (ch : Channel)
  | seatSwitchEstablished (seated : Bool)
  | seatSwitchChange (seated : Bool)
  | driveReadyChange (active : Bool)
  | driveFaultChange (active : Bool)
  | openLimitChange (active : Bool)
  | emergencyStopChange (active : Bool)
  | keyChange (on : Bool)
  -- lock events (R74, R77)
  | lockLimitsEstablished (l : LockId) (withdrawn driven : Bool)
  | lockLimitChange (l : LockId) (withdrawn driven : Bool)
  | lockTimeExpiry (l : LockId)
  -- road events (chapter 5)
  | gateLimitsEstablished (a b : Six GateLimits)
  | gateLimitChange (g : GateId) (limits : GateLimits)
  | gateTravelExpiry (g : GateId)
  | gateObstruction (g : GateId) (active : Bool)
  | retryWaitExpiry (g : GateId)
  | holdFlashExpiry (g : GateId)
  | prewarnExpiry (ap : Ap)
  | stopTimeExpiry (ap : Ap)
  | clearMinExpiry (ap : Ap)
  | clearAlertExpiry (ap : Ap)
  | zoneDetectorChange (ap : Ap) (ix : Fin 3) (occupied : Bool)
  | flashClockTick
  | lampProvingSpan (lamp : RoadLamp) (proof : Proving)
  -- channel events (chapter 6)
  | signalLampProvingSpan (dir : Dir) (colour : Colour) (proof : Proving)
  | beamEstablished (beam : Beam) (broken : Bool)
  | beamBreak (beam : Beam)
  | beamClear (beam : Beam)
  | gapTimerExpiry (dir : Dir)
  | callTimeExpiry
  -- opening events (chapter 7, R185)
  | lingerExpiry
  | roadIntervalExpiry
  | settleIntervalExpiry
  -- link events (chapter 8); a receive brings the bytes taken from the line
  | leadPeriod
  | replyTimerExpiry
  | receiveStart
  | receiveEnd (bytes : List Byte) (lineActive : Bool)
  | preambleEnd
  | preambleAbandon
  | sendEnd
  | toneRepeat
  | toneEnd
  | haltToneRecognised
  | freshnessExpiry
  | startupWaitEnd
  -- fault and store events
  | resumePrepareLapse
  | storeWriteComplete (verifyPassed : Bool)
  deriving DecidableEq, Repr

end Sys2Proof
end

