-- ==== Sys2Proof/Config.lean ====
section
/-!
DEFINITION. The values the manual leaves open: opaque constants with no body, so that no proof can see one.
The two types they speak of, an opening phase and the end of a store write cut off by a reset, stand here.
-/

namespace Sys2Proof

/-- The phases of an opening (R128), in the order of their codes (R193). -/
inductive Phase
  | idle | pending | closingRoad | unlocking | raising | heldOpen | lowering | locking | reopeningRoad
  deriving DecidableEq, Repr, Inhabited

/-- What a reset in the middle of a store write leaves of the block being written (R186: it "may then be partly
written"). -/
inductive WriteCut
  | untouched | partly | complete
  deriving DecidableEq, Repr, Inhabited

namespace Config

/-- FREE VALUE (R186, entry 11): what the n-th store write cut off by a reset leaves in the store. -/
opaque writeCut : Nat → WriteCut

/-- FREE VALUE (R148, entry 12): the phase a FOLLOW mirrors from a phase byte outside the nine codes. -/
opaque undecodedPhase : Nat → Phase

/-- FREE VALUE (R152, entry 25): whether the first bit of a preamble, 16 bits of alternating value, is 1. -/
opaque preambleHigh : Bool

/-- FREE VALUE (R148, entry 12): the run direction a FOLLOW mirrors from the code 3 of body byte 9. -/
opaque undecodedRunInbound : Bool

end Config

end Sys2Proof
end

