-- ==== Sys2Proof/Machine/Data.lean ====
section
/-!
DEFINITION. The records the manual gives each block, as plain data, with the reset value of each record beside it.
Enumerations keep the manual's order, which is the order of their codes on the port (R193).
-/

namespace Sys2Proof.Machine

open Sys2Proof

/-- A timer (R193): stopped, running with its remaining time in ms, or expired. -/
inductive Timer
  | stopped
  | running (ms : Nat)
  | expired
  deriving DecidableEq, Repr

/-- The role of the part (R188). -/
inductive Role
  | sole | lead | follow
  deriving DecidableEq, Repr

/-! ### Settings (R181) -/

/-- The GEOMETRY block; an item without value is absent (R181, R182). -/
structure Geometry where
  seatCount : Option Int
  scale : Option Int
  fullOpen : Option Int
  minOpen : Option Int
  angleMargin : Option Int
  trackTol : Option Int
  skewSlow : Option Int
  skewHalt : Option Int
  deriving DecidableEq, Repr

/-- The CLEARANCE block; the table may be without value (R23). A breakpoint is an angle and a clear height. -/
structure Clearance where
  table : Option (List (Int × Int))
  margin : Int
  waterHigh : Int
  waterStale : Int
  deriving DecidableEq, Repr

/-- An envelope band in the working copy (R67); `full` tells class FULL from class SLOW. -/
structure Band where
  upper : Int
  upLimit : Int
  downLimit : Int
  full : Bool
  deriving DecidableEq, Repr

/-- The ENVELOPE block (R67). -/
structure Envelope where
  bands : List Band
  overspeedMargin : Int
  creepSpeed : Int
  deriving DecidableEq, Repr

/-- The kind of a gate (R85). -/
inductive GateKind
  | entry | exit | footway | unused
  deriving DecidableEq, Repr

/-- The ROAD block (R181): times in s, the credits, the kinds of the gates and the use of the detectors. -/
structure Road where
  prewarnTime : Int
  stopTime : Int
  gateTime : Int
  clearMin : Int
  clearAlert : Int
  obstructWait : Int
  roadMin : Int
  roadCredits : Int
  lockTime : Int
  kindsA : Six GateKind
  kindsB : Six GateKind
  usedA : Three Bool
  usedB : Three Bool
  deriving DecidableEq, Repr

/-- The CHANNEL block (R181); BEAM_DEBOUNCE is in ms, the others in s. -/
structure ChannelItems where
  callTime : Int
  turnaround : Int
  followGap : Int
  linger : Int
  gatherWindow : Int
  beamDebounce : Int
  deriving DecidableEq, Repr

/-- The LINK block (R165). -/
structure LinkItems where
  bridgeId : Int
  linkTimeout : Int
  deriving DecidableEq, Repr

/-- The nine initial masks of the MASKS block, in the order of the catalogue's WARNING faults (R181, R190). -/
structure Masks where
  lampOut : Bool
  signalLampOut : Bool
  waterStale : Bool
  storeFail : Bool
  clearanceDelay : Bool
  unannouncedVessel : Bool
  clearanceShort : Bool
  pairMismatch : Bool
  partnerStale : Bool
  deriving DecidableEq, Repr

/-- One copy of every settings item (R181): the working copy, or the values held in the store. -/
structure Items where
  geometry : Geometry
  clearance : Clearance
  envelope : Envelope
  road : Road
  channel : ChannelItems
  link : LinkItems
  masks : Masks
  deriving DecidableEq, Repr

/-- The seven settings blocks, in the order of R181. -/
inductive BlockId
  | geometry | clearance | envelope | road | channel | link | masks
  deriving DecidableEq, Repr

/-- Seven things of one kind, one for each settings block. -/
structure Seven (α : Type) where
  geometry : α
  clearance : α
  envelope : α
  road : α
  channel : α
  link : α
  masks : α
  deriving DecidableEq, Repr

/-- The GEOMETRY block with every item without value, as a rejected load leaves it (R182). -/
def Geometry.blank : Geometry :=
  { seatCount := none, scale := none, fullOpen := none, minOpen := none, angleMargin := none, trackTol := none,
    skewSlow := none, skewHalt := none }

/-- The CLEARANCE block after a rejected load: no table, the other items at their defaults (R181, R182). -/
def Clearance.default : Clearance := { table := none, margin := 50, waterHigh := 900, waterStale := 600 }

/-- The default envelope (R67). -/
def Envelope.default : Envelope :=
  { bands := [⟨600, 700, 700, false⟩, ⟨7400, 1500, 1500, true⟩, ⟨8800, 700, 700, false⟩],
    overspeedMargin := 15, creepSpeed := 300 }

/-- The default gate kinds of an approach in use (R92). -/
def defaultKinds : Six GateKind := ⟨.entry, .entry, .exit, .exit, .footway, .unused⟩

/-- The default ROAD block of a part in role `r` (R181, R92): approach B is in use in SOLE role alone (R84), and elsewhere
its gates and detectors are UNUSED by default (entry 56). -/
def Road.default (r : Role) : Road :=
  { prewarnTime := 8, stopTime := 5, gateTime := 14, clearMin := 4, clearAlert := 90, obstructWait := 3,
    roadMin := 240, roadCredits := 2, lockTime := 8,
    kindsA := defaultKinds,
    kindsB := if r = .sole then defaultKinds else ⟨.unused, .unused, .unused, .unused, .unused, .unused⟩,
    usedA := ⟨true, true, true⟩,
    usedB := if r = .sole then ⟨true, true, true⟩ else ⟨false, false, false⟩ }

/-- The default CHANNEL block (R181). -/
def ChannelItems.default : ChannelItems :=
  { callTime := 900, turnaround := 45, followGap := 10, linger := 20, gatherWindow := 300, beamDebounce := 2000 }

/-- The default LINK block (R165, R181). -/
def LinkItems.default : LinkItems := { bridgeId := 0, linkTimeout := 200 }

/-- The default MASKS block: every mask clear (R181). -/
def Masks.default : Masks := ⟨false, false, false, false, false, false, false, false, false⟩

/-- Every item as a load that rejects every block leaves it (R182). -/
def Items.default (r : Role) : Items :=
  { geometry := .blank, clearance := .default, envelope := .default, road := .default r, channel := .default,
    link := .default, masks := .default }

/-- What a store write in progress is writing (R186, R187): a copy of one block's items, or the PROTECT flag. -/
inductive WriteJob
  | block (b : BlockId) (copy : Items)
  | protect (value : Bool)
  deriving DecidableEq, Repr

/-- The block byte of the last store write (R193): a settings block, or PROTECT. -/
inductive StoreTarget
  | block (b : BlockId)
  | protect
  deriving DecidableEq, Repr

/-- The outcome of the last store write (R186). -/
inductive StoreOutcome
  | none | done | failed
  deriving DecidableEq, Repr

/-- The settings store (R181, R186, R187). -/
structure Settings where
  working : Items
  /-- The values held in the store. -/
  stored : Items
  /-- The check value stored with each block. -/
  checks : Seven (BitVec 16)
  /-- The rejection mark of each block (R182). -/
  rejected : Seven Bool
  /-- PROTECT in force. -/
  protect : Bool
  /-- PROTECT as kept in the store, with its check value. -/
  storedProtect : Bool
  protectCheck : BitVec 16
  /-- The store write in progress; store-busy is set while there is one. -/
  writing : Option WriteJob
  /-- A teach's store of GEOMETRY waits for the running write (R186). -/
  teachStoreWaiting : Bool
  lastTarget : Option StoreTarget
  lastOutcome : StoreOutcome
  deriving DecidableEq, Repr

/-! ### The passage book (R1 to R4) -/

/-- The state of a passage record (R2). -/
inductive RecState
  | booked | grouped | called | passing | passed | cancelled | lapsed
  deriving DecidableEq, Repr

/-- The priority of a passage record (R1). -/
inductive Priority
  | routine | urgent
  deriving DecidableEq, Repr

/-- A required angle (R1): an angle in cd, or UNACHIEVABLE. -/
inductive Required
  | angle (cd : Int)
  | unachievable
  deriving DecidableEq, Repr

/-- A passage record (R1). -/
structure Rec where
  number : Nat
  vessel : Nat
  dir : Dir
  draft : Int
  priority : Priority
  notBefore : Option Nat
  follows : Option Nat
  required : Required
  state : RecState
  changed : Bool
  closedAt : Option Nat
  deriving DecidableEq, Repr

/-- The passage book: the records in book order, oldest first (R3), and the passage number counter (R4). -/
structure Book where
  records : List Rec
  counter : Nat
  deriving DecidableEq, Repr

/-- The book after reset (R22). -/
def Book.reset : Book := { records := [], counter := 1 }

/-! ### The water record (R26) -/

/-- The source of the water level (R26). -/
inductive WaterSource
  | none | fresh | stale
  deriving DecidableEq, Repr

/-- The water record (R26). -/
structure Water where
  source : WaterSource
  level : Option Int
  time : Option Nat
  life : Option Nat
  deriving DecidableEq, Repr

/-- The water record after reset (R26). -/
def Water.reset : Water := { source := .none, level := none, time := none, life := none }

/-! ### The position unit (R36) -/

/-- The reference state of a track channel (R36). -/
inductive RefState
  | unreferenced | oneMark | preset | referenced
  deriving DecidableEq, Repr

/-- A first mark: the count and the direction at which it was read (R36, R43). -/
structure FirstMark where
  count : Int
  way : Way
  deriving DecidableEq, Repr

/-- A track channel (R36), with its sensor fault line (R38) and the combination on its quadrature pair (R37). -/
structure Track where
  counter : Int
  travel : Option Way
  ref : RefState
  firstMark : Option FirstMark
  windowStart : Int
  speed : Int
  failed : Bool
  sensorFault : Bool
  /-- 0 low-low, 1 low-high, 2 high-high, 3 high-low: the cycle of R37. -/
  pair : Fin 4
  deriving DecidableEq, Repr

/-- A track channel after reset (R36). -/
def Track.reset : Track :=
  { counter := 0, travel := none, ref := .unreferenced, firstMark := none, windowStart := 0, speed := 0,
    failed := false, sensorFault := false, pair := 0 }

/-- The position unit (R36, R49): the seat reading is absent, SEATED (`true`) or NOT_SEATED (`false`). -/
structure Position where
  p : Track
  c : Track
  source : Channel
  seat : Option Bool
  deriving DecidableEq, Repr

/-- The position unit after reset (R36, R49). -/
def Position.reset : Position := { p := .reset, c := .reset, source := .p, seat := none }

/-! ### The motion supervisor and the locks (R57, R74) -/

/-- The motion state (R57). -/
inductive MotionState
  | seatedLocked | seatedFree | raising | holding | lowering | seatApproach | stopped | halted
  deriving DecidableEq, Repr

/-- The motion kind (R57). -/
inductive MotionKind
  | none | opening | teach | recovery
  deriving DecidableEq, Repr

/-- The teach step (R57). -/
inductive TeachStep
  | none | raising | lowering
  deriving DecidableEq, Repr

/-- The teach result (R57). -/
inductive TeachResult
  | none | done | range | aborted
  deriving DecidableEq, Repr

/-- The speed class (R57), in the order of its codes. -/
inductive SpeedClass
  | zero | creep | slow | full
  deriving DecidableEq, Repr

/-- The motion record (R57) and the TEACH lockout (R78). The target count and the skew are computed (R34, R70). -/
structure Motion where
  state : MotionState
  kind : MotionKind
  correction : Bool
  creep : Bool
  teachStep : TeachStep
  teachResult : TeachResult
  teachCandidate : Option Int
  permit : Bool
  direction : Way
  speedClass : SpeedClass
  brakeRelease : Bool
  teachLockout : Timer
  deriving DecidableEq, Repr

/-- The motion record after reset (R57). -/
def Motion.reset : Motion :=
  { state := .stopped, kind := .none, correction := false, creep := false, teachStep := .none, teachResult := .none,
    teachCandidate := none, permit := false, direction := .up, speedClass := .zero, brakeRelease := false,
    teachLockout := .stopped }

/-- The state of a span lock (R74). -/
inductive LockState
  | driven | withdrawing | withdrawn | driving | jammed
  deriving DecidableEq, Repr

/-- The two debounced limit readings of a lock (R74). -/
structure LockLimits where
  withdrawn : Bool
  driven : Bool
  deriving DecidableEq, Repr

/-- A lock record (R74); `limits` is absent until both readings are established. -/
structure Lock where
  state : LockState
  timer : Timer
  limits : Option LockLimits
  deriving DecidableEq, Repr

/-- The lock unit (R74), with the pending TOE drive of R76. -/
structure Locks where
  tail : Lock
  toe : Lock
  toePending : Bool
  deriving DecidableEq, Repr

/-- The lock unit after reset (R74): an owned record reads JAMMED, a FOLLOW's TOE reads DRIVEN. -/
def Locks.reset (r : Role) : Locks :=
  { tail := { state := .jammed, timer := .stopped, limits := none },
    toe := { state := if r = .follow then .driven else .jammed, timer := .stopped, limits := none },
    toePending := false }

/-! ### The approaches (R84, R85, R95) -/

/-- The health of a proved lamp (R94, R114). -/
inductive Health
  | normal | out | stuck
  deriving DecidableEq, Repr

/-- The state of a gate (R85). -/
inductive GateState
  | up | lowering | down | raising | jammed | unknown
  deriving DecidableEq, Repr

/-- The demand of a gate (R87). -/
inductive Demand
  | none | down | up
  deriving DecidableEq, Repr

/-- The lane lamp aspect of a gate (R93). -/
inductive LaneAspect
  | dark | redFlash | red
  deriving DecidableEq, Repr

/-- A gate record (R85) with its debounced inputs. `reversing` marks a rise that is an obstruction reversal (R89,
R90; entry 16). -/
structure Gate where
  state : GateState
  held : Bool
  demand : Demand
  holdFlash : Timer
  lamp : LaneAspect
  health : Health
  retryCount : Nat
  retryWait : Timer
  travel : Timer
  limits : Option GateLimits
  obstruct : Bool
  reversing : Bool
  deriving DecidableEq, Repr

/-- A gate record after reset (R85, R110); an UNUSED gate has its lamp off. -/
def Gate.reset (k : GateKind) : Gate :=
  { state := .unknown, held := true, demand := .none, holdFlash := .stopped,
    lamp := if k = .unused then .dark else .red, health := .normal,
    retryCount := 0, retryWait := .stopped, travel := .stopped, limits := none, obstruct := false,
    reversing := false }

/-- The closure state of an approach (R84). -/
inductive Closure
  | openRoad | prewarn | stopping | entryLowering | clearing | exitLowering | closed | reopening | restart
  deriving DecidableEq, Repr

/-- The reopen step (R84). -/
inductive ReopenStep
  | exit | entry
  deriving DecidableEq, Repr

/-- An approach record (R84). A zone reading is absent, OCCUPIED (`true`) or CLEAR (`false`). `delayed` is the cause
of CLEARANCE_DELAY: the alert timer has expired in this CLEARING (R100). -/
structure Approach where
  closure : Closure
  reopenStep : Option ReopenStep
  stateTimer : Timer
  alertTimer : Timer
  advancePending : Bool
  amberHealth : Health
  delayed : Bool
  gates : Six Gate
  zones : Three (Option Bool)
  deriving DecidableEq, Repr

/-- The kinds of an approach that is out of service: every gate UNUSED (R84). -/
def unusedKinds : Six GateKind := ⟨.unused, .unused, .unused, .unused, .unused, .unused⟩

/-- An approach after reset, its gates of the kinds given (R110). -/
def Approach.reset (k : Six GateKind) : Approach :=
  { closure := .restart, reopenStep := none, stateTimer := .stopped, alertTimer := .stopped, advancePending := false,
    amberHealth := .normal, delayed := false,
    gates := ⟨.reset k.g0, .reset k.g1, .reset k.g2, .reset k.g3, .reset k.g4, .reset k.g5⟩, zones := ⟨none, none, none⟩ }

/-! ### The channel signal unit (R111, R116, R119) -/

/-- The aspect of a direction (R111). -/
inductive Aspect
  | stop | prepare | go | out
  deriving DecidableEq, Repr

/-- A direction record (R111). -/
structure DirRec where
  aspect : Aspect
  red : Health
  amber : Health
  green : Health
  gap : Timer
  deriving DecidableEq, Repr

/-- The call context (R119). -/
structure CallCtx where
  serving : Option Dir
  called : Option Nat
  callTimer : Timer
  passing : Option Nat
  exitSeen : Bool
  lastEnd : Option Dir
  deriving DecidableEq, Repr

/-- The channel signal unit; a beam reading is absent, BROKEN (`true`) or CLEAR (`false`) (R116). -/
structure Signals where
  inbound : DirRec
  outbound : DirRec
  downstream : Option Bool
  upstream : Option Bool
  call : CallCtx
  deriving DecidableEq, Repr

/-- A direction record after reset (R111). -/
def DirRec.reset : DirRec := { aspect := .stop, red := .normal, amber := .normal, green := .normal, gap := .stopped }

/-- The channel signal unit after reset (R111, R116, R119). -/
def Signals.reset : Signals :=
  { inbound := .reset, outbound := .reset, downstream := none, upstream := none,
    call := { serving := none, called := none, callTimer := .stopped, passing := none, exitSeen := false,
              lastEnd := none } }

/-! ### The opening sequencer (R128, R134) -/

/-- A step of the sequencer that its block has not taken yet (R135): a command to the locks or the leaf, or, in FOLLOW
role while the partner view is stale, the road step of the mirror phase (R148). -/
inductive SeqCmd
  | withdraw | raise | hold | lower | drive | road
  deriving DecidableEq, Repr

/-- The state of the road interval (R134). -/
inductive IntervalState
  | elapsed | running | cut
  deriving DecidableEq, Repr

/-- The opening record (R128), or in FOLLOW role its mirror (R148); the road interval, the credits (R134), the settle
interval (R185), and the command still to be accepted (R135, entry 18). -/
structure Opening where
  number : Nat
  phase : Phase
  group : List Nat
  target : Option Int
  frozen : Bool
  creditUsed : Bool
  runDir : Option Dir
  suspended : Bool
  resumePoint : Option Phase
  closeRequested : Bool
  linger : Timer
  interval : IntervalState
  intervalTimer : Timer
  credits : Nat
  settle : Timer
  command : Option SeqCmd
  deriving DecidableEq, Repr

/-- The opening record after reset, with the credit counter at `credits` (R128, R134, R185). -/
def Opening.reset (credits : Nat) : Opening :=
  { number := 0, phase := .idle, group := [], target := none, frozen := false, creditUsed := false, runDir := none,
    suspended := false, resumePoint := none, closeRequested := false, linger := .stopped, interval := .elapsed,
    intervalTimer := .stopped, credits := credits, settle := .stopped, command := none }

/-! ### The span link (R155, R161, R166) -/

/-- The state of the link's frame buffer (R155). -/
inductive BufferState
  | quiet | receiving | preamble | sending | tone
  deriving DecidableEq, Repr

/-- The fields of a STATUS frame as accepted (R154, R161). Enumerations are kept as the codes received (entry 12). -/
structure PartnerView where
  angle : Int
  speed : Int
  motion : Nat
  closure : Nat
  phase : Nat
  creep : Bool
  closed : Bool
  withdrawn : Bool
  holding : Bool
  seated : Bool
  locked : Bool
  haltActive : Bool
  haltCause : Bool
  seat : Nat
  runDir : Nat
  holdActive : Bool
  target : Option Int
  number : Nat
  deriving DecidableEq, Repr

/-- The span link (R155, R161, R162, R166). -/
structure Link where
  /-- PAIRED, else SEEKING (R162). -/
  paired : Bool
  view : Option PartnerView
  /-- Age of the view in ms, from the end of its receive (R161). -/
  age : Nat
  buffer : BufferState
  /-- The whole frame loaded in the buffer for sending, from its preamble to its CRC (R152). -/
  txFrame : List Byte
  mismatch : Nat
  freshness : Timer
  toneTimer : Timer
  toneLength : Timer
  reply : Timer
  startup : Timer
  period : Timer
  /-- A tone has been recognised in the receive now in progress, and the line has carried no frame bits since (R159). -/
  toneHeard : Bool
  deriving DecidableEq, Repr

/-- The link after reset (R151, R166), with LINK_TIMEOUT `timeout` in ms. -/
def Link.reset (r : Role) (timeout : Nat) : Link :=
  { paired := false, view := none, age := 0, buffer := .quiet, txFrame := [], mismatch := 0, freshness := .stopped,
    toneTimer := .stopped, toneLength := .stopped, reply := .stopped,
    startup := if r = .sole then .stopped else .running timeout,
    period := if r = .lead then .running 50 else .stopped, toneHeard := false }

/-! ### The fault unit (R167) -/

/-- The twenty-nine faults, in the order of the catalogue (section 9.2). -/
inductive FaultId
  | emergencyStop | driveFault | overspeed | overtravel | trackDisagree | referenceMismatch | trackErrorP
  | noPosition | skewLimit | partnerStaleMoving | partnerHalt | zoneIntrusion | seatMissed | seatDisagree
  | operatorStop
  | trackErrorC | gateJammed | lockJammed | driveNotReady | unconfigured
  | lampOut | signalLampOut | waterStale | storeFail | clearanceDelay | unannouncedVessel | clearanceShort
  | pairMismatch | partnerStale
  deriving DecidableEq, Repr

/-- The class of a fault (R167). -/
inductive FaultClass
  | halt | hold | warning
  deriving DecidableEq, Repr

/-- A fault record (R167). -/
structure FaultRec where
  cond : Bool
  latch : Bool
  mask : Bool
  deriving DecidableEq, Repr

/-- The fault unit (R167): the records in catalogue order, the halt state and the resume-prepare flag. -/
structure Faults where
  recs : Vector FaultRec 29
  halted : Bool
  entryFault : Option FaultId
  enteredAt : Option Nat
  prepare : Bool
  lapse : Timer
  deriving DecidableEq, Repr

/-! ### The request port (R189, R192) -/

/-- The port state (R189). -/
inductive PortState
  | empty | working | ready
  deriving DecidableEq, Repr

/-- The result codes, in the order of their numbers (R192). -/
inductive Result
  | ok | badFrame | unknownRequest | notPermitted | badValue | notFound | bookFull | duplicateVessel
  | clearanceExceeded | wrongState | inPassage | notAtRest | protected_ | storeBusy | notLead | noPassages | halted
  | notReferenced | sequence | unconfigured
  deriving DecidableEq, Repr

/-- A response: its result and its data bytes (R192). -/
structure Response where
  result : Result
  data : List Byte
  deriving DecidableEq, Repr

/-- The request port (R189). `selection` is the port state at the fall of SEL while a selection runs, and none while none does; in WORKING
`request` holds the bytes taken and `response` what READY will offer (entry 26). -/
structure Port where
  state : PortState
  selection : Option PortState
  request : List Byte
  response : Option Response
  deriving DecidableEq, Repr

/-- The port after the load of the settings has ended; a reset ends any selection and any request (R189). -/
def Port.reset : Port := { state := .empty, selection := none, request := [], response := none }

/-! ### The field lines without a record of their own -/

/-- The ROLE and EMERGENCY_STOP levels and the debounced DRIVE_READY, DRIVE_FAULT, open-limit and KEY readings
(R58, R169, R187, R194). -/
structure Lines where
  role1 : Bool
  role0 : Bool
  emergencyStop : Bool
  driveReady : Bool
  driveFault : Bool
  openLimit : Bool
  key : Option Bool
  deriving DecidableEq, Repr

/-- The lines after a reset at which the ROLE and EMERGENCY_STOP lines stand as given (R58, R187). -/
def Lines.reset (role1 role0 emergencyStop : Bool) : Lines :=
  { role1 := role1, role0 := role0, emergencyStop := emergencyStop, driveReady := false, driveFault := false,
    openLimit := false, key := none }

end Sys2Proof.Machine
end

