-- ==== Sys2Proof/Machine/State.lean ====
section
/-!
DEFINITION. The whole state of one HS240 as plain data, its value after power-on, and the (empty) reasons a step can
stop. The records of the blocks stand in Machine/Data.lean.
-/

namespace Sys2Proof.Machine

open Sys2Proof

/-- The faults of the MODEL's step. The part never stops: its own faults are state (R167). No step raises one, so
there is none (safe). -/
inductive Fault
  deriving DecidableEq, Repr

/-- The refusals of the model's step. -/
inductive Refusal
  /-- A command with no meaning yet; no arm of `exec` answers it (safe). -/
  | notModelled (mnemonic : String)
  deriving DecidableEq, Repr

/-- The state of one part. -/
structure State where
  role : Role
  /-- The ROLE lines named a role at reset (R183, R188). -/
  roleValid : Bool
  /-- The span clock (R5). -/
  clock : Nat
  /-- The half of the flash clock: lit or dark (R93). -/
  flashOn : Bool
  lines : Lines
  book : Book
  water : Water
  pos : Position
  motion : Motion
  locks : Locks
  apA : Approach
  apB : Approach
  signals : Signals
  opening : Opening
  link : Link
  faults : Faults
  settings : Settings
  port : Port
  /-- No event has been taken since reset (R168, R169; entry 7). -/
  justReset : Bool
  /-- MODEL's own: the lowest end that the gathering window has had since the last step of the clock (R130, R139; entry
41). -/
  horizon : Int
  /-- MODEL's own: how many store writes resets have cut off (entry 11). -/
  cutCount : Nat
  /-- MODEL's own: the commands waiting, first in, first out. -/
  pending : List Instr
  deriving DecidableEq, Repr

/-- A store never written: zero items, check values that do not match them, every block rejected (entry 5). -/
def Settings.powerOn : Settings :=
  { working := Items.default .sole, stored := Items.default .sole, checks := ⟨0, 0, 0, 0, 0, 0, 0⟩,
    rejected := ⟨true, true, true, true, true, true, true⟩, protect := true, storedProtect := true,
    protectCheck := 0, writing := none, teachStoreWaiting := false, lastTarget := none, lastOutcome := .none }

/-- The fault records after power-on with a store never written: STORE_FAIL and UNCONFIGURED latched at the load,
UNCONFIGURED true (R182, R183, R187). -/
def Faults.powerOn : Faults :=
  { recs := ((Vector.replicate 29 ⟨false, false, false⟩).set 19 ⟨true, true, false⟩).set 23 ⟨false, true, false⟩,
    halted := false, entryFault := none, enteredAt := none, prepare := false, lapse := .stopped }

/-- The part right after power-on: every state at the reset value its rule gives (R22, R26, R36, R57, R74, R85, R110,
R111, R119, R128, R134, R166, R167, R186, R188, R189), the ROLE lines naming SOLE, no line active (entry 6), and a
store that holds nothing valid (entry 5). -/
def State.reset : State :=
  { role := .sole, roleValid := true, clock := 0, flashOn := true, lines := Lines.reset false false false,
    book := .reset, water := .reset, pos := .reset, motion := .reset, locks := Locks.reset .sole,
    apA := .reset defaultKinds, apB := .reset defaultKinds, signals := .reset, opening := Opening.reset 2, link := Link.reset .sole 200,
    faults := .powerOn, settings := .powerOn, port := .reset, justReset := true, horizon := 300, cutCount := 0, pending := [] }

end Sys2Proof.Machine
end

