-- ==== Sys2Proof/Machine/Operands.lean ====
section
/-!
DEFINITION. The value encodings of the port (R193), the codes of every enumeration, the settings items and their
ranges (R181), and the accessors of the six gates, the three detectors and the seven blocks.
-/

namespace Sys2Proof

/-! ### Accessors and codes of the operand types (R193) -/

/-- The element at an index. -/
def Six.at {α : Type} (x : Six α) (i : Fin 6) : α :=
  match i with
  | 0 => x.g0 | 1 => x.g1 | 2 => x.g2 | 3 => x.g3 | 4 => x.g4 | 5 => x.g5

/-- The six with the element at an index replaced. -/
def Six.put {α : Type} (x : Six α) (i : Fin 6) (v : α) : Six α :=
  match i with
  | 0 => { x with g0 := v } | 1 => { x with g1 := v } | 2 => { x with g2 := v }
  | 3 => { x with g3 := v } | 4 => { x with g4 := v } | 5 => { x with g5 := v }

/-- The six elements in order. -/
def Six.list {α : Type} (x : Six α) : List α := [x.g0, x.g1, x.g2, x.g3, x.g4, x.g5]

/-- Two sixes combined element by element. -/
def Six.zip {α β γ : Type} (f : α → β → γ) (x : Six α) (y : Six β) : Six γ :=
  ⟨f x.g0 y.g0, f x.g1 y.g1, f x.g2 y.g2, f x.g3 y.g3, f x.g4 y.g4, f x.g5 y.g5⟩

/-- Whether a test holds of all six pairs. -/
def Six.allZip {α β : Type} (f : α → β → Bool) (x : Six α) (y : Six β) : Bool :=
  f x.g0 y.g0 && f x.g1 y.g1 && f x.g2 y.g2 && f x.g3 y.g3 && f x.g4 y.g4 && f x.g5 y.g5

/-- The element at an index. -/
def Three.at {α : Type} (x : Three α) (i : Fin 3) : α :=
  match i with
  | 0 => x.z0 | 1 => x.z1 | 2 => x.z2

/-- The three with the element at an index replaced. -/
def Three.put {α : Type} (x : Three α) (i : Fin 3) (v : α) : Three α :=
  match i with
  | 0 => { x with z0 := v } | 1 => { x with z1 := v } | 2 => { x with z2 := v }

/-- The three elements in order. -/
def Three.list {α : Type} (x : Three α) : List α := [x.z0, x.z1, x.z2]

def Dir.code : Dir → Nat | .inbound => 0 | .outbound => 1
def Dir.other : Dir → Dir | .inbound => .outbound | .outbound => .inbound
def Dir.ofCode? : Nat → Option Dir | 0 => some .inbound | 1 => some .outbound | _ => none
def Channel.code : Channel → Nat | .p => 0 | .c => 1
def Way.code : Way → Nat | .up => 0 | .down => 1
def Phase.code : Phase → Nat
  | .idle => 0 | .pending => 1 | .closingRoad => 2 | .unlocking => 3 | .raising => 4 | .heldOpen => 5
  | .lowering => 6 | .locking => 7 | .reopeningRoad => 8
def Phase.ofCode? : Nat → Option Phase
  | 0 => some .idle | 1 => some .pending | 2 => some .closingRoad | 3 => some .unlocking | 4 => some .raising
  | 5 => some .heldOpen | 6 => some .lowering | 7 => some .locking | 8 => some .reopeningRoad | _ => none
/-- The gates of a part by their codes, A0-A5 then B0-B5 (R85, R193). -/
def GateId.ofCode? (n : Nat) : Option GateId :=
  if h : n < 6 then some ⟨.a, ⟨n, h⟩⟩
  else if h' : n - 6 < 6 then some ⟨.b, ⟨n - 6, h'⟩⟩ else none

/-- The code of a gate. -/
def GateId.code (g : GateId) : Nat := match g.ap with | .a => g.ix.val | .b => 6 + g.ix.val

/-- The number a value carries (0 for a table or bands, which no numeric item takes). -/
def SettingValue.int : SettingValue → Int
  | .num v => v
  | _ => 0


end Sys2Proof

namespace Sys2Proof.Machine

open Sys2Proof

/-! ### Six gates, three detectors, seven blocks -/

/-- The element of a block. -/
def Seven.at {α : Type} (x : Seven α) : BlockId → α
  | .geometry => x.geometry | .clearance => x.clearance | .envelope => x.envelope | .road => x.road
  | .channel => x.channel | .link => x.link | .masks => x.masks

/-- The seven with one block's element replaced. -/
def Seven.put {α : Type} (x : Seven α) (b : BlockId) (v : α) : Seven α :=
  match b with
  | .geometry => { x with geometry := v } | .clearance => { x with clearance := v }
  | .envelope => { x with envelope := v } | .road => { x with road := v }
  | .channel => { x with channel := v } | .link => { x with link := v } | .masks => { x with masks := v }

/-! ### Bytes (R193) -/

/-- One byte holding a number. -/
def u8 (n : Nat) : List Byte := [BitVec.ofNat 8 n]

/-- Two bytes, high byte first, two's complement. -/
def be16 (v : Int) : List Byte := [BitVec.ofInt 8 (v / 256), BitVec.ofInt 8 v]

/-- Four bytes, high byte first, two's complement. -/
def be32 (v : Int) : List Byte :=
  [BitVec.ofInt 8 (v / 16777216), BitVec.ofInt 8 (v / 65536), BitVec.ofInt 8 (v / 256), BitVec.ofInt 8 v]

/-- The unsigned value of bytes, high byte first. -/
def beNat (bs : List Byte) : Nat := bs.foldl (fun n b => n * 256 + b.toNat) 0

/-- The two's complement value of two bytes. -/
def beInt16 (bs : List Byte) : Int := if beNat bs < 32768 then (beNat bs : Int) else (beNat bs : Int) - 65536

/-- The two's complement value of four bytes. -/
def beInt32 (bs : List Byte) : Int :=
  if beNat bs < 2147483648 then (beNat bs : Int) else (beNat bs : Int) - 4294967296

/-- A flag: 0 clear, 1 set. -/
def flagByte (b : Bool) : List Byte := u8 (if b then 1 else 0)

/-- An optional enumeration: its code, or 0xFF when absent. -/
def optCode (c : Option Nat) : List Byte := u8 (c.getD 0xFF)

/-- An optional angle or height: 0x8000 when absent. -/
def optAngle (v : Option Int) : List Byte := be16 (v.getD 0x8000)

/-- An optional count: 0x80000000 when absent. -/
def optCount (v : Option Int) : List Byte := be32 (v.getD 0x80000000)

/-- An optional span clock value or water age: a presence flag, then four bytes where present. -/
def optClock : Option Nat → List Byte
  | none => flagByte false
  | some v => flagByte true ++ be32 v

/-- An optional passage number: 0 when absent. -/
def optNumber (v : Option Nat) : List Byte := be16 ((v.getD 0 : Nat) : Int)

/-- A timer: its state byte, then the remaining ms, 0 unless running. -/
def timerBytes : Timer → List Byte
  | .stopped => u8 0 ++ be32 0
  | .running ms => u8 1 ++ be32 ms
  | .expired => u8 2 ++ be32 0

/-- The CRC-16 of R152: polynomial 0x1021, start 0xFFFF, most significant bit first, no inversion. -/
def crc16 (bs : List Byte) : BitVec 16 :=
  let bit := fun (c : BitVec 16) => if c.msb then (c <<< 1) ^^^ 0x1021#16 else c <<< 1
  bs.foldl (fun c b => bit (bit (bit (bit (bit (bit (bit (bit (c ^^^ ((BitVec.setWidth 16 b) <<< 8))))))))))
    0xFFFF#16

/-! ### Codes of the enumerations: positions in the lists of their rules (R193) -/

def Role.code : Role → Nat | .sole => 0 | .lead => 1 | .follow => 2
def Priority.code : Priority → Nat | .routine => 0 | .urgent => 1
def Priority.ofCode? : Nat → Option Priority | 0 => some .routine | 1 => some .urgent | _ => none
def RecState.code : RecState → Nat
  | .booked => 0 | .grouped => 1 | .called => 2 | .passing => 3 | .passed => 4 | .cancelled => 5 | .lapsed => 6
def WaterSource.code : WaterSource → Nat | .none => 0 | .fresh => 1 | .stale => 2
/-- The travel direction NONE, UP, DOWN of R36. -/
def travelCode : Option Way → Nat | none => 0 | some .up => 1 | some .down => 2
def RefState.code : RefState → Nat | .unreferenced => 0 | .oneMark => 1 | .preset => 2 | .referenced => 3
def MotionState.code : MotionState → Nat
  | .seatedLocked => 0 | .seatedFree => 1 | .raising => 2 | .holding => 3 | .lowering => 4 | .seatApproach => 5
  | .stopped => 6 | .halted => 7
def MotionKind.code : MotionKind → Nat | .none => 0 | .opening => 1 | .teach => 2 | .recovery => 3
def TeachStep.code : TeachStep → Nat | .none => 0 | .raising => 1 | .lowering => 2
def TeachResult.code : TeachResult → Nat | .none => 0 | .done => 1 | .range => 2 | .aborted => 3
def SpeedClass.code : SpeedClass → Nat | .zero => 0 | .creep => 1 | .slow => 2 | .full => 3
def LockState.code : LockState → Nat
  | .driven => 0 | .withdrawing => 1 | .withdrawn => 2 | .driving => 3 | .jammed => 4
def Health.code : Health → Nat | .normal => 0 | .out => 1 | .stuck => 2
def GateKind.code : GateKind → Nat | .entry => 0 | .exit => 1 | .footway => 2 | .unused => 3
def GateKind.ofCode? : Int → Option GateKind
  | 0 => some .entry | 1 => some .exit | 2 => some .footway | 3 => some .unused | _ => none
def GateState.code : GateState → Nat
  | .up => 0 | .lowering => 1 | .down => 2 | .raising => 3 | .jammed => 4 | .unknown => 5
def Demand.code : Demand → Nat | .none => 0 | .down => 1 | .up => 2
def LaneAspect.code : LaneAspect → Nat | .dark => 0 | .redFlash => 1 | .red => 2
def Closure.code : Closure → Nat
  | .openRoad => 0 | .prewarn => 1 | .stopping => 2 | .entryLowering => 3 | .clearing => 4 | .exitLowering => 5
  | .closed => 6 | .reopening => 7 | .restart => 8
def ReopenStep.code : ReopenStep → Nat | .exit => 0 | .entry => 1
def Aspect.code : Aspect → Nat | .stop => 0 | .prepare => 1 | .go => 2 | .out => 3
def IntervalState.code : IntervalState → Nat | .elapsed => 0 | .running => 1 | .cut => 2
def BufferState.code : BufferState → Nat
  | .quiet => 0 | .receiving => 1 | .preamble => 2 | .sending => 3 | .tone => 4
def StoreOutcome.code : StoreOutcome → Nat | .none => 0 | .done => 1 | .failed => 2
def BlockId.code : BlockId → Nat
  | .geometry => 0 | .clearance => 1 | .envelope => 2 | .road => 3 | .channel => 4 | .link => 5 | .masks => 6
def BlockId.ofCode? : Nat → Option BlockId
  | 0 => some .geometry | 1 => some .clearance | 2 => some .envelope | 3 => some .road | 4 => some .channel
  | 5 => some .link | 6 => some .masks | _ => none
def StoreTarget.code : StoreTarget → Nat | .block b => b.code | .protect => 7

/-- The number of a result code (R192). -/
def Result.code : Result → Nat
  | .ok => 0x00 | .badFrame => 0x01 | .unknownRequest => 0x02 | .notPermitted => 0x03 | .badValue => 0x04
  | .notFound => 0x05 | .bookFull => 0x06 | .duplicateVessel => 0x07 | .clearanceExceeded => 0x08
  | .wrongState => 0x09 | .inPassage => 0x0A | .notAtRest => 0x0B | .protected_ => 0x0C | .storeBusy => 0x0D
  | .notLead => 0x0E | .noPassages => 0x0F | .halted => 0x10 | .notReferenced => 0x11 | .sequence => 0x12
  | .unconfigured => 0x13

/-- A required angle on the port: UNACHIEVABLE is 0x7FFF (R193). -/
def Required.bytes : Required → List Byte
  | .angle v => be16 v
  | .unachievable => be16 0x7FFF

/-! ### The fault catalogue (section 9.2) -/

/-- The position of a fault in the catalogue. -/
def FaultId.index : FaultId → Fin 29
  | .emergencyStop => 0 | .driveFault => 1 | .overspeed => 2 | .overtravel => 3 | .trackDisagree => 4
  | .referenceMismatch => 5 | .trackErrorP => 6 | .noPosition => 7 | .skewLimit => 8 | .partnerStaleMoving => 9
  | .partnerHalt => 10 | .zoneIntrusion => 11 | .seatMissed => 12 | .seatDisagree => 13 | .operatorStop => 14
  | .trackErrorC => 15 | .gateJammed => 16 | .lockJammed => 17 | .driveNotReady => 18 | .unconfigured => 19
  | .lampOut => 20 | .signalLampOut => 21 | .waterStale => 22 | .storeFail => 23 | .clearanceDelay => 24
  | .unannouncedVessel => 25 | .clearanceShort => 26 | .pairMismatch => 27 | .partnerStale => 28

/-- The class of a fault (section 9.2). -/
def FaultId.cls : FaultId → FaultClass
  | .trackErrorC | .gateJammed | .lockJammed | .driveNotReady | .unconfigured => .hold
  | .lampOut | .signalLampOut | .waterStale | .storeFail | .clearanceDelay | .unannouncedVessel | .clearanceShort
  | .pairMismatch | .partnerStale => .warning
  | _ => .halt

/-- The fifteen HALT-class faults in catalogue order. -/
def haltFaults : List FaultId :=
  [.emergencyStop, .driveFault, .overspeed, .overtravel, .trackDisagree, .referenceMismatch, .trackErrorP,
   .noPosition, .skewLimit, .partnerStaleMoving, .partnerHalt, .zoneIntrusion, .seatMissed, .seatDisagree,
   .operatorStop]

/-- The five HOLD-class faults in catalogue order. -/
def holdFaults : List FaultId := [.trackErrorC, .gateJammed, .lockJammed, .driveNotReady, .unconfigured]

/-- The nine WARNING-class faults in catalogue order. -/
def warningFaults : List FaultId :=
  [.lampOut, .signalLampOut, .waterStale, .storeFail, .clearanceDelay, .unannouncedVessel, .clearanceShort,
   .pairMismatch, .partnerStale]

/-- The whole catalogue in order. -/
def allFaults : List FaultId := haltFaults ++ (holdFaults ++ warningFaults)

/-- The fault of a code (R171, R193). -/
def FaultId.ofCode? (n : Nat) : Option FaultId := allFaults[n]?

/-! ### Settings items (R181, R190) -/

/-- The settings items in the order of R181. -/
inductive Item
  | seatCount | scale | fullOpen | minOpen | angleMargin | trackTol | skewSlow | skewHalt
  | table | clearanceMargin | waterHigh | waterStale
  | bands | overspeedMargin | creepSpeed
  | prewarnTime | stopTime | gateTime | clearMin | clearAlert | obstructWait | roadMin | roadCredits | lockTime
  | gateKind (g : GateId)
  | zoneUse (ap : Ap) (ix : Fin 3)
  | callTime | turnaround | followGap | linger | gatherWindow | beamDebounce
  | bridgeId | linkTimeout
  | mask (f : FaultId)
  deriving DecidableEq, Repr

/-- The items of a block, in the order of R181. -/
def BlockId.items : BlockId → List Item
  | .geometry => [.seatCount, .scale, .fullOpen, .minOpen, .angleMargin, .trackTol, .skewSlow, .skewHalt]
  | .clearance => [.table, .clearanceMargin, .waterHigh, .waterStale]
  | .envelope => [.bands, .overspeedMargin, .creepSpeed]
  | .road =>
    [.prewarnTime, .stopTime, .gateTime, .clearMin, .clearAlert, .obstructWait, .roadMin, .roadCredits, .lockTime] ++
    ([0, 1, 2, 3, 4, 5].map fun i => .gateKind ⟨.a, i⟩) ++ ([0, 1, 2, 3, 4, 5].map fun i => .gateKind ⟨.b, i⟩) ++
    ([0, 1, 2].map fun i => .zoneUse .a i) ++ ([0, 1, 2].map fun i => .zoneUse .b i)
  | .channel => [.callTime, .turnaround, .followGap, .linger, .gatherWindow, .beamDebounce]
  | .link => [.bridgeId, .linkTimeout]
  | .masks => warningFaults.map .mask

/-- The seven blocks in order. -/
def allBlocks : List BlockId := [.geometry, .clearance, .envelope, .road, .channel, .link, .masks]

/-- Every item in the order of its number (R190). -/
def allItems : List Item := allBlocks.flatMap BlockId.items

/-- The item of a number (R190). -/
def Item.ofNumber? (n : Nat) : Option Item := allItems[n]?

/-- The block of an item. -/
def Item.block : Item → BlockId
  | .seatCount | .scale | .fullOpen | .minOpen | .angleMargin | .trackTol | .skewSlow | .skewHalt => .geometry
  | .table | .clearanceMargin | .waterHigh | .waterStale => .clearance
  | .bands | .overspeedMargin | .creepSpeed => .envelope
  | .prewarnTime | .stopTime | .gateTime | .clearMin | .clearAlert | .obstructWait | .roadMin | .roadCredits
  | .lockTime | .gateKind _ | .zoneUse _ _ => .road
  | .callTime | .turnaround | .followGap | .linger | .gatherWindow | .beamDebounce => .channel
  | .bridgeId | .linkTimeout => .link
  | .mask _ => .masks

/-- The own range of a numeric item (R181); MIN_OPEN's upper bound FULL_OPEN is checked beside it. -/
def Item.range : Item → Int × Int
  | .seatCount => (0, 96000) | .scale => (1, 65535) | .fullOpen => (2000, 8500) | .minOpen => (0, 8500)
  | .angleMargin => (0, 500) | .trackTol => (4, 200) | .skewSlow => (10, 500) | .skewHalt => (20, 1000)
  | .clearanceMargin => (0, 300) | .waterHigh => (-500, 1500) | .waterStale => (60, 3600)
  | .overspeedMargin => (5, 50) | .creepSpeed => (50, 2000)
  | .prewarnTime => (2, 60) | .stopTime => (2, 30) | .gateTime => (5, 30) | .clearMin => (1, 60)
  | .clearAlert => (10, 600) | .obstructWait => (1, 30) | .roadMin => (0, 1800) | .roadCredits => (0, 4)
  | .lockTime => (2, 30) | .gateKind _ => (0, 3) | .zoneUse _ _ => (0, 1)
  | .callTime => (60, 3600) | .turnaround => (0, 600) | .followGap => (0, 300) | .linger => (0, 600)
  | .gatherWindow => (0, 3600) | .beamDebounce => (500, 10000)
  | .bridgeId => (0, 65535) | .linkTimeout => (100, 1000) | .mask _ => (0, 1)
  | .table | .bands => (0, 0)

/-- A mask of the MASKS block; faults outside the WARNING class have none. -/
def Masks.at (m : Masks) : FaultId → Bool
  | .lampOut => m.lampOut | .signalLampOut => m.signalLampOut | .waterStale => m.waterStale
  | .storeFail => m.storeFail | .clearanceDelay => m.clearanceDelay | .unannouncedVessel => m.unannouncedVessel
  | .clearanceShort => m.clearanceShort | .pairMismatch => m.pairMismatch | .partnerStale => m.partnerStale
  | _ => false

/-- The MASKS block with one mask replaced. -/
def Masks.put (m : Masks) (f : FaultId) (v : Bool) : Masks :=
  match f with
  | .lampOut => { m with lampOut := v } | .signalLampOut => { m with signalLampOut := v }
  | .waterStale => { m with waterStale := v } | .storeFail => { m with storeFail := v }
  | .clearanceDelay => { m with clearanceDelay := v } | .unannouncedVessel => { m with unannouncedVessel := v }
  | .clearanceShort => { m with clearanceShort := v } | .pairMismatch => { m with pairMismatch := v }
  | .partnerStale => { m with partnerStale := v } | _ => m

/-- The kinds of an approach's gates in the ROAD block. -/
def Road.kinds (r : Road) : Ap → Six GateKind | .a => r.kindsA | .b => r.kindsB

/-- The use of an approach's detectors in the ROAD block. -/
def Road.used (r : Road) : Ap → Three Bool | .a => r.usedA | .b => r.usedB

/-- A band as carried on the port. -/
def Band.raw (b : Band) : RawBand :=
  { upper := b.upper, upLimit := b.upLimit, downLimit := b.downLimit, cls := if b.full then 0 else 1 }

/-- A carried band as held; the class codes are checked before (R67). -/
def Band.ofRaw (b : RawBand) : Band :=
  { upper := b.upper, upLimit := b.upLimit, downLimit := b.downLimit, full := b.cls == 0 }

/-- The code of a Boolean setting: USED and UNUSED of a detector are 0 and 1, a mask is a flag (R181, R193). -/
def boolCode (b : Bool) : Int := if b then 1 else 0

/-- The value of an item in a copy; `none` is "without value" (R181). -/
def Items.get (x : Items) : Item → Option SettingValue
  | .seatCount => x.geometry.seatCount.map .num
  | .scale => x.geometry.scale.map .num
  | .fullOpen => x.geometry.fullOpen.map .num
  | .minOpen => x.geometry.minOpen.map .num
  | .angleMargin => x.geometry.angleMargin.map .num
  | .trackTol => x.geometry.trackTol.map .num
  | .skewSlow => x.geometry.skewSlow.map .num
  | .skewHalt => x.geometry.skewHalt.map .num
  | .table => x.clearance.table.map .table
  | .clearanceMargin => some (.num x.clearance.margin)
  | .waterHigh => some (.num x.clearance.waterHigh)
  | .waterStale => some (.num x.clearance.waterStale)
  | .bands => some (.bands (x.envelope.bands.map Band.raw))
  | .overspeedMargin => some (.num x.envelope.overspeedMargin)
  | .creepSpeed => some (.num x.envelope.creepSpeed)
  | .prewarnTime => some (.num x.road.prewarnTime)
  | .stopTime => some (.num x.road.stopTime)
  | .gateTime => some (.num x.road.gateTime)
  | .clearMin => some (.num x.road.clearMin)
  | .clearAlert => some (.num x.road.clearAlert)
  | .obstructWait => some (.num x.road.obstructWait)
  | .roadMin => some (.num x.road.roadMin)
  | .roadCredits => some (.num x.road.roadCredits)
  | .lockTime => some (.num x.road.lockTime)
  | .gateKind g => some (.num ((x.road.kinds g.ap).at g.ix).code)
  | .zoneUse ap i => some (.num (boolCode (!(x.road.used ap).at i)))
  | .callTime => some (.num x.channel.callTime)
  | .turnaround => some (.num x.channel.turnaround)
  | .followGap => some (.num x.channel.followGap)
  | .linger => some (.num x.channel.linger)
  | .gatherWindow => some (.num x.channel.gatherWindow)
  | .beamDebounce => some (.num x.channel.beamDebounce)
  | .bridgeId => some (.num x.link.bridgeId)
  | .linkTimeout => some (.num x.link.linkTimeout)
  | .mask f => some (.num (boolCode (x.masks.at f)))

/-- A copy with one item written. A value of the wrong shape is refused before (R184). -/
def Items.put (x : Items) (i : Item) (v : SettingValue) : Items :=
  match i with
  | .seatCount => { x with geometry := { x.geometry with seatCount := some v.int } }
  | .scale => { x with geometry := { x.geometry with scale := some v.int } }
  | .fullOpen => { x with geometry := { x.geometry with fullOpen := some v.int } }
  | .minOpen => { x with geometry := { x.geometry with minOpen := some v.int } }
  | .angleMargin => { x with geometry := { x.geometry with angleMargin := some v.int } }
  | .trackTol => { x with geometry := { x.geometry with trackTol := some v.int } }
  | .skewSlow => { x with geometry := { x.geometry with skewSlow := some v.int } }
  | .skewHalt => { x with geometry := { x.geometry with skewHalt := some v.int } }
  | .table =>
    match v with
    | .table t => { x with clearance := { x.clearance with table := some t } }
    | _ => x
  | .clearanceMargin => { x with clearance := { x.clearance with margin := v.int } }
  | .waterHigh => { x with clearance := { x.clearance with waterHigh := v.int } }
  | .waterStale => { x with clearance := { x.clearance with waterStale := v.int } }
  | .bands =>
    match v with
    | .bands bs => { x with envelope := { x.envelope with bands := bs.map Band.ofRaw } }
    | _ => x
  | .overspeedMargin => { x with envelope := { x.envelope with overspeedMargin := v.int } }
  | .creepSpeed => { x with envelope := { x.envelope with creepSpeed := v.int } }
  | .prewarnTime => { x with road := { x.road with prewarnTime := v.int } }
  | .stopTime => { x with road := { x.road with stopTime := v.int } }
  | .gateTime => { x with road := { x.road with gateTime := v.int } }
  | .clearMin => { x with road := { x.road with clearMin := v.int } }
  | .clearAlert => { x with road := { x.road with clearAlert := v.int } }
  | .obstructWait => { x with road := { x.road with obstructWait := v.int } }
  | .roadMin => { x with road := { x.road with roadMin := v.int } }
  | .roadCredits => { x with road := { x.road with roadCredits := v.int } }
  | .lockTime => { x with road := { x.road with lockTime := v.int } }
  | .gateKind g =>
    let k := (GateKind.ofCode? v.int).getD .unused
    match g.ap with
    | .a => { x with road := { x.road with kindsA := x.road.kindsA.put g.ix k } }
    | .b => { x with road := { x.road with kindsB := x.road.kindsB.put g.ix k } }
  | .zoneUse ap i =>
    match ap with
    | .a => { x with road := { x.road with usedA := x.road.usedA.put i (v.int == 0) } }
    | .b => { x with road := { x.road with usedB := x.road.usedB.put i (v.int == 0) } }
  | .callTime => { x with channel := { x.channel with callTime := v.int } }
  | .turnaround => { x with channel := { x.channel with turnaround := v.int } }
  | .followGap => { x with channel := { x.channel with followGap := v.int } }
  | .linger => { x with channel := { x.channel with linger := v.int } }
  | .gatherWindow => { x with channel := { x.channel with gatherWindow := v.int } }
  | .beamDebounce => { x with channel := { x.channel with beamDebounce := v.int } }
  | .bridgeId => { x with link := { x.link with bridgeId := v.int } }
  | .linkTimeout => { x with link := { x.link with linkTimeout := v.int } }
  | .mask f => { x with masks := x.masks.put f (v.int == 1) }

/-- A copy with one whole block taken from another. -/
def Items.takeBlock (x : Items) (b : BlockId) (src : Items) : Items :=
  match b with
  | .geometry => { x with geometry := src.geometry } | .clearance => { x with clearance := src.clearance }
  | .envelope => { x with envelope := src.envelope } | .road => { x with road := src.road }
  | .channel => { x with channel := src.channel } | .link => { x with link := src.link }
  | .masks => { x with masks := src.masks }

/-- Whether every item of a block has a value (R186). -/
def Items.blockHasValues (x : Items) (b : BlockId) : Bool := b.items.all fun i => (x.get i).isSome

/-- How many bytes a numeric item takes on the port (R193). -/
def Item.width : Item → Nat
  | .seatCount | .trackTol | .creepSpeed => 4
  | .overspeedMargin | .roadCredits | .gateKind _ | .zoneUse _ _ | .mask _ => 1
  | _ => 2

/-- Whether a two-byte item is signed on the port: an angle, a height or a water level (R193). -/
def Item.signed : Item → Bool
  | .fullOpen | .minOpen | .angleMargin | .skewSlow | .skewHalt | .clearanceMargin | .waterHigh => true
  | _ => false

/-- A number in a given count of bytes. -/
def numBytes (width : Nat) (v : Int) : List Byte :=
  match width with
  | 1 => [BitVec.ofInt 8 v]
  | 2 => be16 v
  | _ => be32 v

/-- The bytes of an item's value (R193). -/
def Item.valueBytes (i : Item) : SettingValue → List Byte
  | .num v => numBytes i.width v
  | .table t => u8 t.length ++ t.flatMap fun p => be16 p.1 ++ be16 p.2
  | .bands bs => u8 bs.length ++ bs.flatMap fun b => be16 b.upper ++ be16 b.upLimit ++ be16 b.downLimit ++ u8 b.cls

/-- The bytes a block's check value is computed over: its items in order, each as on the port (R182; entry 10). -/
def Items.blockBytes (x : Items) (b : BlockId) : List Byte :=
  b.items.flatMap fun i =>
    match x.get i with
    | some v => i.valueBytes v
    | none => []

/-! ### Small shared pieces -/

/-- A timer started at a duration in s. -/
def Timer.startS (s : Int) : Timer := .running (s * 1000).toNat

/-- Whether a timer runs. -/
def Timer.isRunning : Timer → Bool
  | .running _ => true
  | _ => false

/-- A value saturated to [lo, hi] (00_scope.md section 6.2). -/
def saturate (lo hi v : Int) : Int := if v < lo then lo else if v > hi then hi else v

/-- A signed whole number wrapped to 32 bits (R37). -/
def wrap32 (v : Int) : Int := (v + 2147483648) % 4294967296 - 2147483648

/-- A quotient rounded up, for a positive divisor (R29, R34). -/
def ceilDiv (n d : Int) : Int := (n + d - 1) / d

/-- Insert into a list sorted by `le`, after its equals: stable. -/
def insertBy {α : Type} (le : α → α → Bool) (x : α) : List α → List α
  | [] => [x]
  | y :: ys => if le y x then y :: insertBy le x ys else x :: y :: ys

/-- A list sorted by `le`, keeping the order of equals. -/
def sortBy {α : Type} (le : α → α → Bool) (xs : List α) : List α := xs.foldl (fun acc x => insertBy le x acc) []

end Sys2Proof.Machine
end

