-- ==== Sys2Proof/Machine/Flags.lean ====
section
/-!
DEFINITION. What the rules compute from the state: the working settings with their fallbacks, the leaf angle, the
required and target angles, the permit conditions, the speed class and its limits, the GO conditions, and the lasting
fault conditions.
-/

namespace Sys2Proof.Machine

open Sys2Proof

namespace State

/-! ### Working settings with their fallbacks (R181) -/

/-- The working copy of the settings. -/
def items (s : State) : Items := s.settings.working

def seatCount (s : State) : Int := s.items.geometry.seatCount.getD 1200
def scale (s : State) : Int := s.items.geometry.scale.getD 5800
def fullOpen (s : State) : Int := s.items.geometry.fullOpen.getD 8500
def minOpen (s : State) : Int := s.items.geometry.minOpen.getD 1500
def angleMargin (s : State) : Int := s.items.geometry.angleMargin.getD 100
def trackTol (s : State) : Int := s.items.geometry.trackTol.getD 24
def skewSlow (s : State) : Int := s.items.geometry.skewSlow.getD 60
def skewHalt (s : State) : Int := s.items.geometry.skewHalt.getD 150

/-- The water age (R26): the span clock less the water time, as the clock counts them, modulo 2^32 (entry 33). -/
def waterAge (s : State) : Option Nat := s.water.time.map fun t => (s.clock + 4294967296 - t) % 4294967296

/-- Store-busy (R186). -/
def storeBusy (s : State) : Bool := s.settings.writing.isSome

/-- The debounced KEY reading is on; an absent reading is not (R187). -/
def keyOn (s : State) : Bool := s.lines.key == some true

/-- PROTECT is set and KEY is not on (R184, R186). -/
def isProtected (s : State) : Bool := s.settings.protect && !s.keyOn

/-! ### Roles and the partner (R84, R162) -/

/-- LEAD or FOLLOW role: the link is in service (R151). -/
def twin (s : State) : Bool := s.role != .sole

/-- The partner view while it is fresh (R162). -/
def freshView (s : State) : Option PartnerView := if s.twin && s.link.paired then s.link.view else none

/-- The freshness condition of the permit, the start test and the advances: it holds in SOLE role (R59, R133). -/
def freshOrSole (s : State) : Bool := !s.twin || s.link.paired

/-- A partner's motion state code is SEATED_LOCKED or SEATED_FREE (R76). -/
def partnerSeated (v : PartnerView) : Bool := v.motion == 0 || v.motion == 1

/-- The phase that a FOLLOW's or own request rule tests is IDLE: a stale view of a FOLLOW counts as not IDLE (R92,
R105, R106, R185). -/
def phaseIdle (s : State) : Bool := s.opening.phase == .idle && (s.role != .follow || s.link.paired)

/-! ### Approaches (R84, R85, R95) -/

/-- Whether the part uses an approach (R84). -/
def usesAp (s : State) : Ap → Bool
  | .a => true
  | .b => s.role == .sole

/-- An approach record. -/
def ap (s : State) : Ap → Approach
  | .a => s.apA
  | .b => s.apB

/-- The state with an approach record replaced. -/
def setAp (s : State) (x : Ap) (v : Approach) : State :=
  match x with
  | .a => { s with apA := v }
  | .b => { s with apB := v }

/-- The kinds of an approach's gates, UNUSED where the approach is out of service (R84). -/
def kinds (s : State) (x : Ap) : Six GateKind := if s.usesAp x then s.items.road.kinds x else unusedKinds

/-- The use of an approach's detectors, unused where the approach is out of service (R84). -/
def zoneUse (s : State) (x : Ap) : Three Bool :=
  if s.usesAp x then s.items.road.used x else ⟨false, false, false⟩

/-- A gate is used (R85). -/
def gateUsed (s : State) (g : GateId) : Bool := (s.kinds g.ap).at g.ix != .unused

end State

/-- Every used detector reads CLEAR; an absent reading does not (R95). -/
def zonesClear (use : Three Bool) (z : Three (Option Bool)) : Bool :=
  (!use.z0 || z.z0 == some false) && (!use.z1 || z.z1 == some false) && (!use.z2 || z.z2 == some false)

/-- Some used detector reads OCCUPIED (R96). -/
def zonesOccupied (use : Three Bool) (z : Three (Option Bool)) : Bool :=
  (use.z0 && z.z0 == some true) || (use.z1 && z.z1 == some true) || (use.z2 && z.z2 == some true)

namespace State

/-- An approach holds the permit: it is CLOSED and its used detectors read CLEAR (R59); an unused one does not count. -/
def apPermits (s : State) (x : Ap) : Bool :=
  !s.usesAp x || ((s.ap x).closure == .closed && zonesClear (s.zoneUse x) (s.ap x).zones)

/-- The drive permit conditions of R59. -/
def permitOK (s : State) : Bool := !s.faults.halted && s.apPermits .a && s.apPermits .b && s.freshOrSole

/-- Every used approach is in a closure state satisfying a test. -/
def allUsedAps (s : State) (f : Closure → Bool) : Bool :=
  (!s.usesAp .a || f s.apA.closure) && (!s.usesAp .b || f s.apB.closure)

/-! ### Locks (R74) -/

/-- Both owned locks are in a state; a FOLLOW owns the TAIL alone (R74). -/
def ownedLocksAre (s : State) (l : LockState) : Bool :=
  s.locks.tail.state == l && (s.role == .follow || s.locks.toe.state == l)

/-- The seated motion state: SEATED_LOCKED if every owned lock is DRIVEN, else SEATED_FREE (R62). -/
def seatedState (s : State) : MotionState := if s.ownedLocksAre .driven then .seatedLocked else .seatedFree

/-- The motion state is SEATED_LOCKED or SEATED_FREE. -/
def isSeated (s : State) : Bool := s.motion.state == .seatedLocked || s.motion.state == .seatedFree

/-- The leaf is stationary (R57). -/
def stationary (s : State) : Bool :=
  match s.motion.state with
  | .seatedLocked | .seatedFree | .stopped => true
  | .holding => !s.motion.correction
  | _ => false

/-! ### Position and angle (R32, R36, R56) -/

/-- A track channel. -/
def track (s : State) : Channel → Track
  | .p => s.pos.p
  | .c => s.pos.c

/-- The state with a track channel replaced. -/
def setTrack (s : State) (ch : Channel) (t : Track) : State :=
  match ch with
  | .p => { s with pos := { s.pos with p := t } }
  | .c => { s with pos := { s.pos with c := t } }

/-- The channel of the position source (R36). -/
def source (s : State) : Track := s.track s.pos.source

end State

/-- A channel holds a position (R36). -/
def Track.holds (t : Track) : Bool := t.ref == .preset || t.ref == .referenced

namespace State

/-- The position source holds a position. -/
def sourceHolds (s : State) : Bool := s.source.holds

/-- The raw angle of R32: the count less SEAT_COUNT, by SCALE, over 65536, rounded toward zero. -/
def rawAngle (s : State) : Int := ((s.source.counter - s.seatCount) * s.scale).tdiv 65536

/-- The reported leaf angle (R32). -/
def angle (s : State) : Int := saturate (-300) (s.fullOpen + 300) s.rawAngle

/-- The reported speed (R56). -/
def speed (s : State) : Int := s.source.speed

/-- The target the motion supervisor uses: a FOLLOW reduces the LEAD's to its own FULL_OPEN (R31, R57). -/
def target (s : State) : Option Int :=
  s.opening.target.map fun t => if s.role == .follow && t > s.fullOpen then s.fullOpen else t

/-- The target count (R34). -/
def targetCount (s : State) : Option Int := s.target.map fun t => ceilDiv (t * 65536) s.scale + s.seatCount

/-! ### Water and required angles (R26, R29, R31) -/

/-- The effective water level (R26). -/
def effectiveWater (s : State) : Int :=
  match s.water.source with
  | .fresh => s.water.level.getD s.items.clearance.waterHigh
  | _ => s.items.clearance.waterHigh

end State

/-- The angle on the table for a needed height above the first and not above the last height (R29, step 4). -/
def tableAngle (need : Int) : List (Int × Int) → Option Int
  | [] => none
  | (t0, h0) :: rest =>
    match rest with
    | [] => none
    | (t1, h1) :: _ =>
      if need ≤ h1 then some (t0 + ceilDiv ((need - h0) * (t1 - t0)) (h1 - h0)) else tableAngle need rest

/-- The required angle for a needed height on a table (R29, steps 2 to 4). -/
def requiredOn (table : List (Int × Int)) (need : Int) : Required :=
  match table with
  | [] => .unachievable
  | (_, h0) :: _ =>
    if need ≤ h0 then .angle 0
    else
      match tableAngle need table with
      | some a => .angle a
      | none => .unachievable

namespace State

/-- The required angle for an air draft at the effective water level (R29). With no working table there is nothing to
compute (R23; entry 29). -/
def requiredFor (s : State) (draft : Int) : Required :=
  requiredOn (s.items.clearance.table.getD []) (draft + s.items.clearance.margin + s.effectiveWater)

/-- The record of a passage number (R12). -/
def findRec (s : State) (n : Nat) : Option Rec := s.book.records.find? fun r => r.number == n

end State

/-- A record is live (R2). -/
def Rec.live (r : Rec) : Bool :=
  match r.state with
  | .booked | .grouped | .called | .passing => true
  | _ => false

/-- The angle of a required angle, 0 for UNACHIEVABLE (which no grouped record has, R31). -/
def Required.cd : Required → Int
  | .angle v => v
  | .unachievable => 0

/-- A required angle is above an angle; UNACHIEVABLE is above every one. -/
def Required.above (r : Required) (a : Int) : Bool :=
  match r with
  | .angle v => decide (v > a)
  | .unachievable => true

/-- The required angle asks for an opening: above 0 and not UNACHIEVABLE (R130, R140). -/
def Required.needsOpening : Required → Bool
  | .angle v => decide (v > 0)
  | .unachievable => false

namespace State

/-- The target angle for the records on the group list (R31). -/
def targetFor (s : State) : Int :=
  let angles := s.opening.group.filterMap fun n => (s.findRec n).map fun r => r.required.cd
  match angles with
  | [] => s.minOpen
  | _ =>
    let t := max (angles.foldl max 0 + s.angleMargin) s.minOpen
    if t > s.fullOpen then s.fullOpen else t

/-! ### Envelope, speed and skew (R67 to R71) -/

/-- The band in force (R67). -/
def band (s : State) : Option Band :=
  match s.items.envelope.bands.find? fun b => decide (s.angle ≤ b.upper) with
  | some b => some b
  | none => s.items.envelope.bands.getLast?

/-- The skew, absent in SOLE role and while the view is stale (R70). -/
def skew (s : State) : Option Int := s.freshView.map fun v => s.angle - v.angle

/-- The own leaf is ahead (R70); RAISING has DIRECTION UP and LOWERING DOWN, with the brake released (R60). -/
def ahead (s : State) : Bool :=
  match s.motion.state, s.skew with
  | .raising, some k => decide (k > 0)
  | .lowering, some k => decide (k < 0)
  | _, _ => false

end State

/-- One class lower, down to CREEP (R70). -/
def SpeedClass.lower : SpeedClass → SpeedClass
  | .full => .slow
  | .slow => .creep
  | c => c

namespace State

/-- The motion kind is TEACH or RECOVERY (R68, R69). -/
def loneKind (s : State) : Bool := s.motion.kind == .teach || s.motion.kind == .recovery

/-- The speed class in RAISING and LOWERING (R68). -/
def runClass (s : State) : SpeedClass :=
  if s.motion.creep || s.loneKind then .creep
  else if s.freshView.any (·.creep) then .creep
  else
    let byBand : SpeedClass := if s.band.any (·.full) then .full else .slow
    let byTarget : SpeedClass :=
      if s.motion.state == .raising && s.target.any (fun t => decide (s.angle ≥ t - 300)) && byBand == .full then .slow
      else byBand
    if s.ahead && s.motion.kind == .opening && s.skew.any (fun k => decide ((k.natAbs : Int) > s.skewSlow)) then
      byTarget.lower
    else byTarget

/-- The speed limit of R69 for the present direction of travel. -/
def speedLimit (s : State) : Option Int :=
  if s.motion.creep || s.loneKind || !s.sourceHolds then some s.items.envelope.creepSpeed
  else s.band.map fun b => if s.speed > 0 then b.upLimit else b.downLimit

/-- The OVERSPEED threshold of R69. -/
def speedThreshold (s : State) : Option Int :=
  s.speedLimit.map fun l => l * (100 + s.items.envelope.overspeedMargin) / 100

/-! ### GO and calls (R113, R120) -/

/-- A direction record. -/
def dirRec (s : State) : Dir → DirRec
  | .inbound => s.signals.inbound
  | .outbound => s.signals.outbound

/-- The state with a direction record replaced. -/
def setDirRec (s : State) (d : Dir) (v : DirRec) : State :=
  match d with
  | .inbound => { s with signals := { s.signals with inbound := v } }
  | .outbound => { s with signals := { s.signals with outbound := v } }

end State

/-- A direction is in service (R111). -/
def DirRec.inService (r : DirRec) : Bool := r.red == .normal && r.green == .normal

namespace State

/-- The GO angle (R113). -/
def goAngle (s : State) : Option Int :=
  if s.twin then s.freshView.map fun v => min s.angle v.angle else some s.angle

/-- In LEAD role the partner's motion state in the freshest accepted frame is HOLDING; SOLE role has no partner (R113,
R120). -/
def partnerHolds (s : State) : Bool := !s.twin || s.link.view.any fun v => v.motion == 3

/-- The GO conditions for a CALLED record (R113). -/
def goConditions (s : State) (r : Rec) : Bool :=
  !s.faults.halted && s.motion.state == .holding && s.freshOrSole && s.partnerHolds &&
    s.goAngle.any (fun a => !r.required.above a) && (s.dirRec r.dir).inService

/-- The CALLED record of the call context. -/
def calledRec (s : State) : Option Rec :=
  match s.signals.call.called with
  | some n => (s.findRec n).filter fun r => r.state == .called
  | none => none

/-- The group list holds a GROUPED record of a direction (R112). -/
def groupedOf (s : State) (d : Dir) : Bool :=
  s.opening.group.any fun n => (s.findRec n).any fun r => r.state == .grouped && r.dir == d

/-- The aspect of a direction (R112); STOP in FOLLOW role (R127). -/
def aspectOf (s : State) (d : Dir) : Aspect :=
  if s.role == .follow || s.faults.halted then .stop
  else if !(s.dirRec d).inService then .out
  else if s.calledRec.any fun r => r.dir == d && s.goConditions r then .go
  else if (s.opening.phase == .unlocking || s.opening.phase == .raising || s.opening.phase == .heldOpen) &&
      s.groupedOf d then .prepare
  else .stop

/-- A record of the book is in a state. -/
def anyRec (s : State) (st : RecState) : Bool := s.book.records.any fun r => r.state == st

/-- A call is due (R120). -/
def callDue (s : State) : Bool :=
  s.opening.phase == .heldOpen && !s.opening.suspended && !s.faults.halted && !s.anyRec .called && !s.anyRec .passing &&
    s.motion.state == .holding && s.partnerHolds

/-- The first candidate of a direction in group list order (R120). -/
def candidate (s : State) (d : Dir) : Option Nat :=
  if (s.dirRec d).inService then
    s.opening.group.find? fun n =>
      (s.findRec n).any fun r =>
        r.state == .grouped && r.dir == d && r.follows.isNone && s.goAngle.any fun a => !r.required.above a
  else none

/-! ### The fault conditions (section 9.2) -/

/-- A fault record. -/
def fault (s : State) (f : FaultId) : FaultRec := s.faults.recs[f.index]

/-- A fault's latch. -/
def latched (s : State) (f : FaultId) : Bool := (s.fault f).latch

/-- The HOLD summary (R170). -/
def holdSummary (s : State) : Bool := holdFaults.any s.latched

/-- The gates of an approach that are used and satisfy a test. -/
def anyUsedGate (s : State) (x : Ap) (f : Gate → Bool) : Bool :=
  !Six.allZip (fun k g => !(k != GateKind.unused && f g)) (s.kinds x) (s.ap x).gates

/-- An owned lock that has been established is JAMMED (R74). -/
def lockJammed (s : State) : Bool :=
  (s.locks.tail.limits.isSome && s.locks.tail.state == .jammed) ||
    (s.role != .follow && s.locks.toe.limits.isSome && s.locks.toe.state == .jammed)

/-- A GEOMETRY item or the clearance table is without value, or no role was named (R183). -/
def unconfiguredCause (s : State) : Bool :=
  !(s.items.blockHasValues .geometry && s.items.clearance.table.isSome && s.roleValid)

/-- A judged lamp of an approach is OUT or STUCK (R94). -/
def lampFailed (s : State) (x : Ap) : Bool :=
  s.usesAp x && (s.anyUsedGate x (fun g => g.health != .normal) || (s.ap x).amberHealth != .normal)

/-- A signal lamp of a direction is OUT or STUCK (R114). -/
def signalFailed (s : State) (d : Dir) : Bool :=
  (s.dirRec d).red != .normal || (s.dirRec d).amber != .normal || (s.dirRec d).green != .normal

/-- The lasting cause of a fault's condition as the state stands; an event condition has none (section 9.2). -/
def cause (s : State) : FaultId → Bool
  | .emergencyStop => s.lines.emergencyStop
  | .driveFault => s.lines.driveFault
  | .overspeed => s.speed != 0 && s.speedThreshold.any fun t => decide ((s.speed.natAbs : Int) > t)
  | .overtravel =>
    (s.sourceHolds &&
      ((decide (s.rawAngle > s.fullOpen + 150) && decide (s.speed > 0)) ||
        (decide (s.rawAngle < -300) && decide (s.speed < 0)))) ||
      (s.lines.openLimit && decide (s.speed > 0))
  | .trackErrorP => s.pos.p.sensorFault
  | .noPosition => s.pos.p.sensorFault && s.pos.c.sensorFault
  | .skewLimit => s.motion.kind == .opening && s.skew.any fun k => decide ((k.natAbs : Int) > s.skewHalt)
  | .partnerHalt => s.freshView.any fun v => v.haltCause
  | .zoneIntrusion =>
    (zonesOccupied (s.zoneUse .a) s.apA.zones || zonesOccupied (s.zoneUse .b) s.apB.zones) &&
      (s.pos.seat == some false || s.motion.permit)
  | .seatMissed => s.sourceHolds && decide (s.angle ≤ -100) && decide (s.speed < 0) && s.pos.seat == some false
  | .seatDisagree => s.sourceHolds && s.pos.seat == some true && decide (s.angle > 500)
  | .trackErrorC => s.pos.c.sensorFault
  | .gateJammed => s.anyUsedGate .a (fun g => g.state == .jammed) || s.anyUsedGate .b (fun g => g.state == .jammed)
  | .lockJammed => s.lockJammed
  | .driveNotReady => !s.lines.driveReady
  | .unconfigured => s.unconfiguredCause
  | .lampOut => s.lampFailed .a || s.lampFailed .b
  | .signalLampOut => s.role != .follow && (s.signalFailed .inbound || s.signalFailed .outbound)
  | .waterStale => s.water.source == .stale
  | .clearanceDelay => (s.usesAp .a && s.apA.delayed) || (s.usesAp .b && s.apB.delayed)
  | .pairMismatch => s.twin && s.link.mismatch == 3
  | .partnerStale => s.twin && s.link.startup == .expired && !s.link.paired
  | .trackDisagree | .referenceMismatch | .partnerStaleMoving | .operatorStop | .storeFail | .unannouncedVessel
  | .clearanceShort => false

/-! ### Attention and outputs -/

/-- The passage book's attention request (R21). -/
def bookAttention (s : State) : Bool := s.book.records.any (·.changed)

/-- The ATTN line (R180). -/
def attn (s : State) : Bool := allFaults.any s.latched || s.bookAttention

/-- The RDY line (R189). -/
def rdy (s : State) : Bool := s.port.state != .working

end State

/-- A gate's LOWER output (R88). -/
def Gate.lowerOn (g : Gate) : Bool := g.state == .lowering

/-- A gate's RAISE output (R88). -/
def Gate.raiseOn (g : Gate) : Bool := g.state == .raising

/-- A gate is at rest (R86). -/
def Gate.atRest (g : Gate) : Bool := g.state == .up || g.state == .down || g.state == .unknown

/-- A lock's WITHDRAW output (R75). -/
def Lock.withdrawOn (l : Lock) : Bool := l.state == .withdrawing

/-- A lock's DRIVE output (R76). -/
def Lock.driveOn (l : Lock) : Bool := l.state == .driving

/-- The amber group of an approach is on in every closure state but OPEN_ROAD (R93). -/
def Approach.amberOn (a : Approach) : Bool := a.closure != .openRoad

/-- The bell of an approach rings from PREWARN to EXIT_LOWERING (R93). -/
def Approach.bellOn (a : Approach) : Bool :=
  match a.closure with
  | .prewarn | .stopping | .entryLowering | .clearing | .exitLowering => true
  | _ => false

/-- A lane lamp is meant to be lit, in the half of the flash clock given (R93). -/
def LaneAspect.lit (l : LaneAspect) (flashOn : Bool) : Bool :=
  match l with
  | .dark => false
  | .red => true
  | .redFlash => flashOn

/-- A signal lamp is meant to be lit in an aspect (R111). -/
def Aspect.lit : Aspect → Colour → Bool
  | .stop, .red => true
  | .prepare, .red => true
  | .prepare, .amber => true
  | .go, .green => true
  | .out, .red => true
  | _, _ => false

/-- The amber output of an approach; an approach out of service has its outputs off (R84, R93). -/
def State.amberOut (s : State) (x : Ap) : Bool := s.usesAp x && (s.ap x).amberOn

/-- The bell output of an approach (R84, R93). -/
def State.bellOut (s : State) (x : Ap) : Bool := s.usesAp x && (s.ap x).bellOn

/-- The lane lamp output of a gate, in the present half of the flash clock (R84, R85, R93). -/
def State.laneLampOut (s : State) (g : GateId) : Bool :=
  s.gateUsed g && (((s.ap g.ap).gates.at g.ix).lamp.lit s.flashOn)

/-- A signal lamp output; a FOLLOW's six stay off (R111, R127). -/
def State.signalLamp (s : State) (d : Dir) (c : Colour) : Bool :=
  s.role != .follow && (s.dirRec d).aspect.lit c

/-- The response frame: length, result code, data, check byte (R192). -/
def Response.frame (r : Response) : List Byte :=
  let body := u8 (r.data.length + 3) ++ u8 r.result.code ++ r.data
  body ++ [BitVec.ofInt 8 (-(body.foldl (fun n b => n + b.toNat) 0 : Nat))]

/-- What MISO shows during a selection: the response frame where the port was READY, else nothing but 0x00 (R189). -/
def State.miso (s : State) : List Byte :=
  if s.port.selection == some .ready then (s.port.response.map Response.frame).getD [] else []

end Sys2Proof.Machine
end

