-- ==== Sys2Proof/Machine/Ops.lean ====
section
/-!
DEFINITION. The shared operations of the blocks: record changes of the book and the group list, call ends and
revocations, the latching of faults and the entry to span halt, grouping and joins, presets and track errors.
-/

namespace Sys2Proof.Machine

open Sys2Proof

namespace State

/-! ### The book and the group list (R17, R129) -/

/-- The state with the record of a passage number changed. -/
def modRec (s : State) (n : Nat) (f : Rec → Rec) : State :=
  { s with book := { s.book with records := s.book.records.map fun r => if r.number == n then f r else r } }

/-- A record takes a state, and its changed flag is set (R17, R21). -/
def setRecState (s : State) (n : Nat) (st : RecState) : State :=
  s.modRec n fun r => { r with state := st, changed := true }

/-- The state with its opening record changed. -/
def modOpening (s : State) (f : Opening → Opening) : State := { s with opening := f s.opening }

/-- The target is held by the sequencer and still recomputed: from grouping to the freeze (R138). -/
def targetOpen (s : State) : Bool :=
  s.role != .follow && !s.opening.frozen &&
    (s.opening.phase == .pending || s.opening.phase == .closingRoad || s.opening.phase == .unlocking)

/-- Before the freeze the sequencer asks for the target again (R138). -/
def recomputeTarget (s : State) : State :=
  if s.targetOpen then s.modOpening fun o => { o with target := some s.targetFor } else s

/-- The linger timer starts at LINGER; a value of 0 expires at once (R141). -/
def startLinger (s : State) : State :=
  s.modOpening fun o =>
    { o with linger := if s.items.channel.linger = 0 then .expired else Timer.startS s.items.channel.linger }

/-- An opening in PENDING whose list empties ends (R129). -/
def endPending (s : State) : State :=
  s.modOpening fun o =>
    { o with phase := .idle, target := none, runDir := none, resumePoint := none, frozen := false, suspended := false,
             closeRequested := false, linger := .stopped, command := none }

/-- A record leaves the group list; an emptied list ends PENDING or starts the linger wait (R129, R141). -/
def leaveGroup (s : State) (n : Nat) : State :=
  if s.opening.group.contains n then
    let t := (s.modOpening fun o => { o with group := o.group.filter (· != n) }).recomputeTarget
    if t.opening.group.isEmpty then
      match t.opening.phase with
      | .pending => t.endPending
      | .heldOpen => t.startLinger
      | _ => t
    else t
  else s

/-! ### Call ends (R119, R122) -/

/-- A gap timer started at a duration in s; 0 leaves it stopped, so the call is made at the call end (R122). -/
def gapStart (secs : Int) : Timer := if secs = 0 then .stopped else Timer.startS secs

/-- The state with a direction's gap timer set. -/
def setGap (s : State) (d : Dir) (t : Timer) : State := s.setDirRec d { s.dirRec d with gap := t }

/-- The state with its call context changed. -/
def modCall (s : State) (f : CallCtx → CallCtx) : State :=
  { s with signals := { s.signals with call := f s.signals.call } }

/-- A call end of a direction: the context's records become absent and both gap timers start (R119, R122). -/
def callEnd (s : State) (d : Dir) : State :=
  let t := s.modCall fun c =>
    { c with called := none, passing := none, exitSeen := false, callTimer := .stopped, lastEnd := some d }
  (t.setGap d (gapStart s.items.channel.followGap)).setGap d.other (gapStart s.items.channel.turnaround)

/-- A CALLED record is revoked to GROUPED, keeping its place on the list (R124). -/
def revoke (s : State) (r : Rec) : State := (s.setRecState r.number .grouped).callEnd r.dir

/-- The called record, if there is one, is revoked to GROUPED (R124, R125). -/
def revokeCalled (s : State) : State :=
  match s.calledRec with
  | some r => s.revoke r
  | none => s

/-- A GROUPED or CALLED record is returned to BOOKED, a call being revoked first (R17, R124). -/
def returnToBooked (s : State) (n : Nat) : State :=
  match s.findRec n with
  | some r =>
    match r.state with
    | .grouped => (s.setRecState n .booked).leaveGroup n
    | .called => ((s.revoke r).setRecState n .booked).leaveGroup n
    | _ => s
  | none => s

/-- Every GROUPED and CALLED record of the group list is returned to BOOKED (R142, R143, R147). -/
def returnAll (s : State) : State := s.opening.group.foldl returnToBooked s

/-! ### Span halt and fault latches (R168, R173) -/

/-- The fault unit's own part of the entry to span halt (R173). -/
def setHalted (s : State) (f : FaultId) : State :=
  { s with faults := { s.faults with halted := true, entryFault := some f, enteredAt := some s.clock } }

/-- The motion supervisor at the entry to span halt (R82). -/
def haltMotion (s : State) : State :=
  let m := s.motion
  { s with motion :=
      { m with state := .halted, permit := false, brakeRelease := false, speedClass := .zero, correction := false,
               kind := .none,
               teachResult := if m.kind == .teach then .aborted else m.teachResult,
               teachStep := if m.kind == .teach then .none else m.teachStep } }

/-- The lock unit at the entry to span halt: a pending TOE drive is cancelled (R76, R82). -/
def haltLocks (s : State) : State := { s with locks := { s.locks with toePending := false } }

/-- The opening sequencer at the entry to span halt (R144, R149). -/
def haltOpening (s : State) : State :=
  if s.opening.phase == .idle then s
  else s.modOpening fun o => { o with suspended := true, resumePoint := some o.phase }

/-- A halt tone starts, whatever the buffer holds; the tone timer counts from its start (R158). -/
def startTone (s : State) : State :=
  if s.twin then
    { s with link := { s.link with buffer := .tone, txFrame := [], toneLength := .running 20, toneTimer := .running 250,
                                   toneHeard := false } }
  else s

/-- The entry to span halt, with each block's effect (R173). -/
def enterHalt (s : State) (f : FaultId) : State :=
  ((((s.setHalted f).haltMotion).haltLocks).revokeCalled.haltOpening).startTone

/-- The state with a fault record replaced. -/
def setFault (s : State) (f : FaultId) (r : FaultRec) : State :=
  { s with faults := { s.faults with recs := s.faults.recs.set f.index r } }

/-- An event condition is live for one event: its latch is set unless it is masked, and a HALT latch set while not
halted brings the entry to span halt (R168, R173). -/
def raise (s : State) (f : FaultId) : State :=
  if (s.fault f).mask then s
  else
    let t := s.setFault f { s.fault f with latch := true }
    if f.cls == .halt && !s.faults.halted then t.enterHalt f else t

/-- A fault record after its lasting cause is reported: the condition follows the cause unless masked, and a condition
becoming true sets the latch (R168, R171). -/
def reported (s : State) (f : FaultId) : FaultRec :=
  let r := s.fault f
  let now := s.cause f && !r.mask
  { cond := now, latch := r.latch || (now && !r.cond), mask := r.mask }

/-- Every record as reported, in catalogue order. -/
def reportedRecs (s : State) : Vector FaultRec 29 := ⟨(allFaults.map s.reported).toArray, by rfl⟩

/-- Every block reports its lasting conditions; the first HALT latch set by it while not halted brings the entry to
span halt (R168, R173). It is done at every event, so that OVERSPEED is tested at each, not only at those R69 lists (entry
36), and the angle part of OVERTRAVEL at each, not only at those R33 lists (entry 49). -/
def reportAll (s : State) : State :=
  let t := { s with faults := { s.faults with recs := s.reportedRecs } }
  if s.faults.halted then t
  else
    match haltFaults.find? fun f => t.latched f with
    | some f => t.enterHalt f
    | none => t

/-! ### Eligibility, grouping and joins (R130, R131, R139) -/

end State

/-- A record may be taken as far as its own fields go: BOOKED, asking for an opening, its not-before within the
gathering window, and, after the freeze, its required angle not above the target (R130, R139). -/
def Rec.takeable (r : Rec) (horizon : Int) (limit : Option Int) : Bool :=
  r.state == .booked && r.required.needsOpening && (r.notBefore.all fun t => decide ((t : Int) ≤ horizon)) &&
    limit.all fun a => !r.required.above a

/-- The takeable records whose follows is absent, on the list, or itself among those taken; a follows names a record
earlier in book order, so one pass in book order finds them (R130). -/
def eligibleRecs (horizon : Int) (limit : Option Int) (onList : List Nat) (rs : List Rec) : List Rec :=
  rs.foldl
    (fun acc r =>
      if r.takeable horizon limit &&
          (r.follows.all fun f => onList.contains f || acc.any fun q => q.number == f) then acc ++ [r]
      else acc)
    []

/-- Grouping order: URGENT first, then by not-before with an absent one as 0; book order is kept by the stable sort
(R131). -/
def Rec.before (x y : Rec) : Bool :=
  if x.priority == y.priority then decide (x.notBefore.getD 0 ≤ y.notBefore.getD 0) else x.priority == .urgent

/-- Place a record and, directly after it, those set aside for it, each followed by its own followers, while there is
room (R131). Of several set aside for one record, the first in grouping order comes first, with its followers (entry 39).
`fuel` bounds the depth of a chain of follows. -/
def placeChain : Nat → Nat → List Rec → List Nat → Rec → List Nat
  | 0, _, _, acc, _ => acc
  | fuel + 1, room, aside, acc, r =>
    if acc.length < room && !acc.contains r.number then
      (aside.filter fun q => q.follows == some r.number).foldl (placeChain fuel room aside) (acc ++ [r.number])
    else acc

/-- Walk the eligible records in grouping order, setting aside a record whose follows is eligible and not yet placed
(R131). -/
def placeAll (room : Nat) (onList : List Nat) : List Rec → List Rec → List Nat → List Nat
  | [], _, acc => acc
  | r :: rest, aside, acc =>
    if r.follows.all fun f => onList.contains f || acc.contains f then
      placeAll room onList rest aside (placeChain 25 room aside acc r)
    else placeAll room onList rest (aside ++ [r]) acc

namespace State

/-- The passage numbers to be taken into the group, in grouping order (R130, R131). -/
def taken (s : State) (limit : Option Int) : List Nat :=
  let elig :=
    eligibleRecs ((s.clock : Int) + s.items.channel.gatherWindow) limit s.opening.group s.book.records
  placeAll (6 - s.opening.group.length) s.opening.group (sortBy Rec.before elig) [] []

/-- The records of the numbers are made GROUPED and placed at the end of the list (R129). -/
def groupThem (s : State) (ns : List Nat) : State :=
  (ns.foldl (fun t n => t.setRecState n .grouped) s).modOpening fun o => { o with group := o.group ++ ns }

/-- The phase lets records join (R139). -/
def joinPhase (s : State) : Bool :=
  match s.opening.phase with
  | .pending | .closingRoad | .unlocking | .raising | .heldOpen => true
  | _ => false

/-- The sequencer examines the book for records that join (R139). A join stops the linger timer, which may also stand
running or expired in an opening that went back from HELD_OPEN to RAISING (R141, R145). -/
def examineJoins (s : State) : State :=
  if s.role != .follow && s.joinPhase && !s.opening.closeRequested then
    let ns := s.taken (if s.opening.frozen then s.opening.target else none)
    if ns.isEmpty then s
    else
      (s.groupThem ns).recomputeTarget.modOpening fun o => { o with linger := .stopped }
  else s

/-- The follows fields naming a closed record are removed from the live records (R18). -/
def freeFollowers (s : State) (n : Nat) : State :=
  { s with book := { s.book with records := s.book.records.map fun r =>
      if r.live && r.follows == some n then { r with follows := none, changed := true } else r } }

/-- A record enters a closed state (R18): its closed-at is written, it leaves the group list, its followers are freed
and offered. -/
def closeRec (s : State) (n : Nat) (st : RecState) : State :=
  let t := s.modRec n fun r => { r with state := st, closedAt := some s.clock, changed := true }
  ((t.leaveGroup n).freeFollowers n).examineJoins

/-! ### Re-evaluation and ejection (R30, R140) -/

/-- What the sequencer does with a group record's new required angle (R140). -/
def testGrouped (s : State) (n : Nat) : State :=
  match s.findRec n with
  | some r =>
    let exceeds := s.opening.target.any fun t => r.required.above t
    match r.state with
    | .grouped | .called =>
      if !r.required.needsOpening || (s.opening.frozen && exceeds) then s.returnToBooked n else s
    | .passing => if exceeds then s.raise .clearanceShort else s
    | _ => s
  | none => s

/-- The group records of the numbers are tested together, and the target is then recomputed before the freeze
(R140). -/
def testGroup (s : State) (ns : List Nat) : State := (ns.foldl testGrouped s).recomputeTarget

/-- The required angles of the live records are computed afresh and written as one change (R19, R30). -/
def rewriteAngles (s : State) : State :=
  { s with book := { s.book with records := s.book.records.map fun r =>
      if r.live then
        let v := s.requiredFor r.draft
        { r with required := v, changed := r.changed || v != r.required }
      else r } }

/-- A re-evaluation (R30), with the returns and ejections of R140 and the joins of R139. -/
def reevaluate (s : State) : State :=
  let t := s.rewriteAngles
  (t.testGroup t.opening.group).examineJoins

/-! ### The position unit (R38, R50 to R55) -/

end State

/-- A channel's counter is set and its window start moved by the same amount (R39), with no wrap of its own (entry 43). -/
def Track.setCounter (t : Track) (v : Int) : Track :=
  { t with counter := v, windowStart := t.windowStart + (v - t.counter) }

/-- A channel is preset at a count (R50). -/
def Track.preset (t : Track) (seat : Int) : Track :=
  { t.setCounter seat with ref := .preset, firstMark := none, failed := false }

/-- A channel loses its reference and its first mark; the counter and the failed flag stay (R47, R48, R52). -/
def Track.unref (t : Track) : Track := { t with ref := .unreferenced, firstMark := none }

namespace State

/-- The position source returns to P once P's failed flag is cleared (R55). -/
def fixSource (s : State) : State :=
  if s.pos.source == .c && !s.pos.p.failed then { s with pos := { s.pos with source := .p } } else s

/-- The comparison of the two counters while both channels hold a position (R52). -/
def compareTracks (s : State) : State :=
  if s.pos.p.holds && s.pos.c.holds && decide (((s.pos.p.counter - s.pos.c.counter).natAbs : Int) > s.trackTol) then
    ({ s with pos := { s.pos with p := s.pos.p.unref, c := s.pos.c.unref } }).raise .trackDisagree
  else s

/-- The channels satisfying a test, with their sensor fault lines inactive, are preset at SEAT_COUNT where it has a
value, and the counters are then compared (R50, R51). -/
def presetWhere (s : State) (f : Track → Bool) : State :=
  match s.items.geometry.seatCount with
  | none => s
  | some v =>
    let takes := fun (t : Track) => f t && !t.sensorFault
    let one := fun (t : Track) => if takes t then t.preset v else t
    let u := ({ s with pos := { s.pos with p := one s.pos.p, c := one s.pos.c } }).fixSource
    if takes s.pos.p || takes s.pos.c then u.compareTracks else u

/-- The preset of a seating, and of a change of SEAT_COUNT on a seated leaf: every channel that is not REFERENCED
(R51). -/
def presetUnreferenced (s : State) : State := s.presetWhere fun t => t.ref != .referenced

/-- The creep flag is set (R72). -/
def setCreep (s : State) (v : Bool) : State := { s with motion := { s.motion with creep := v } }

/-- Once both channels are failed, both are UNREFERENCED (R54), and so hold no first mark (R44). -/
def losePosition (s : State) : State :=
  if s.pos.p.failed && s.pos.c.failed then { s with pos := { s.pos with p := s.pos.p.unref, c := s.pos.c.unref } }
  else s

/-- A track error on a channel (R38, R53, R54): the channel is failed, the source may switch to C with the creep flag,
and both channels failed is NO_POSITION. -/
def trackError (s : State) (ch : Channel) : State :=
  let t := (s.setTrack ch { (s.track ch).unref with failed := true }).losePosition
  let u :=
    if ch == .p && s.pos.source == .p && !s.pos.c.failed then
      ({ t with pos := { t.pos with source := .c } }).setCreep true
    else t
  let v := u.raise (match ch with | .p => .trackErrorP | .c => .trackErrorC)
  if v.pos.p.failed && v.pos.c.failed then v.raise .noPosition else v

/-! ### The settings store (R186) -/

/-- A store write of a block starts: store-busy is set and the working items are copied (R186). -/
def startBlockWrite (s : State) (b : BlockId) : State :=
  { s with settings :=
      { s.settings with writing := some (.block b s.settings.working), lastTarget := some (.block b) } }

/-- The settle interval of 2 s starts (R185). -/
def startSettle (s : State) : State := s.modOpening fun o => { o with settle := .running 2000 }

/-! ### Motion (R62, R65, R79) -/

/-- The state with its motion record changed. -/
def modMotion (s : State) (f : Motion → Motion) : State := { s with motion := f s.motion }

/-- The candidate of a teach is judged against SEAT_COUNT (R79). -/
def judgeTeach (s : State) : State :=
  let cand := s.pos.p.counter
  let t := s.modMotion fun m => { m with teachStep := .none, teachCandidate := some cand }
  if ((cand - s.seatCount).natAbs : Int) > 400 then t.modMotion fun m => { m with teachResult := .range }
  else
    let u := { t with settings := { t.settings with working := t.settings.working.put .seatCount (.num cand) } }
    let v := (u.modMotion fun m => { m with teachResult := .done }).startSettle.presetUnreferenced
    if !v.items.blockHasValues .geometry then v
    else if v.storeBusy then { v with settings := { v.settings with teachStoreWaiting := true } }
    else v.startBlockWrite .geometry

/-- A motion ends on the seat (R65); a teach in its lowering is then judged (R79). -/
def endAtSeat (s : State) : State :=
  let t := s.modMotion fun m => { m with state := s.seatedState, kind := .none, correction := false }
  if s.motion.kind == .teach && s.motion.teachStep == .lowering then t.judgeTeach else t

/-- The leaf starts down in a kind of motion: LOWERING, SEAT_APPROACH at 300 cd or less, or the end of the motion where
the seat reading is already SEATED (R65, R80). A motion that ends so leaves DIRECTION as last set before it (R60; entry
51). -/
def startDown (s : State) (k : MotionKind) : State :=
  let t := s.modMotion fun m =>
    { m with kind := k, correction := false, state := if s.angle ≤ 300 then .seatApproach else .lowering }
  if s.pos.seat == some true then t.endAtSeat else t

end State

end Sys2Proof.Machine
end

