-- ==== Sys2Proof/Machine/RoadOps.lean ====
section
/-!
DEFINITION. The approach controller (chapter 5) as functions of one approach record and of what it reads from the rest
of the part: the demand table, the pursuit of a demand, travel ends, obstructions, hold flashes, and the closure and
reopening sequences.
-/

namespace Sys2Proof.Machine

open Sys2Proof

/-- What an approach controller reads from the rest of the part. -/
structure RoadCtx where
  /-- The motion state is SEATED_LOCKED: a RELEASED gate may rise (R88). -/
  locked : Bool
  halted : Bool
  kinds : Six GateKind
  zones : Three Bool
  gateTime : Int
  obstructWait : Int
  stopTime : Int
  prewarnTime : Int
  clearMin : Int
  clearAlert : Int
  deriving DecidableEq, Repr

/-- The context of an approach. -/
def State.roadCtx (s : State) (x : Ap) : RoadCtx :=
  { locked := s.motion.state == .seatedLocked, halted := s.faults.halted, kinds := s.kinds x, zones := s.zoneUse x,
    gateTime := s.items.road.gateTime, obstructWait := s.items.road.obstructWait,
    stopTime := s.items.road.stopTime, prewarnTime := s.items.road.prewarnTime,
    clearMin := s.items.road.clearMin, clearAlert := s.items.road.clearAlert }

/-- An ENTRY or FOOTWAY gate. -/
def GateKind.bars : GateKind → Bool
  | .entry | .footway => true
  | _ => false

/-- The demand table of R87; a held gate's DOWN marked † waits for its hold flash. -/
def demandOf (c : Closure) (step : Option ReopenStep) (k : GateKind) (g : Gate) : Demand :=
  let heldDown : Demand := if g.holdFlash.isRunning then .none else .down
  match k with
  | .unused => .none
  | _ =>
    match c with
    | .restart => .none
    | .openRoad => if g.held then heldDown else .up
    | .prewarn | .stopping => if g.held then heldDown else .none
    | .entryLowering | .clearing => if k.bars then .down else if g.held then heldDown else .none
    | .exitLowering | .closed => .down
    | .reopening =>
      if g.held then heldDown
      else
        match step with
        | some .entry => .up
        | _ => if k == .exit then .up else .none

/-- Both limits of a gate are active. -/
def Gate.bothLimits (g : Gate) : Bool := g.limits.any fun l => l.up && l.down

/-- The DOWN limit alone is active. -/
def Gate.downAlone (g : Gate) : Bool := g.limits.any fun l => !l.up && l.down

/-- The UP limit alone is active. -/
def Gate.upAlone (g : Gate) : Bool := g.limits.any fun l => l.up && !l.down

/-- The state a gate takes from its limits (R86): UNKNOWN with neither or both active. -/
def Gate.stateFromLimits (g : Gate) : GateState :=
  if g.upAlone then .up else if g.downAlone then .down else .unknown

/-- A gate is set lowering or raising, with its travel timer started at GATE_TIME (R88). -/
def Gate.move (g : Gate) (st : GateState) (gateTime : Int) : Gate :=
  { g with state := st, travel := Timer.startS gateTime, reversing := false }

/-- A gate's demand is formed afresh (R87). A demand that becomes UP clears the retry count (R90); one that becomes
DOWN ends an obstruction reversal (R88; entry 16). -/
def Gate.demandTo (g : Gate) (d : Demand) : Gate :=
  if d == g.demand then g
  else
    match d with
    | .up => { g with demand := .up, retryCount := 0 }
    | .down => { g with demand := .down, reversing := false }
    | .none => { g with demand := .none }

/-- A gate's demand is pursued (R88); until its limits are established its outputs are off (R86). -/
def Gate.pursue (c : RoadCtx) (g : Gate) : Gate :=
  let mayRise := !g.held && c.locked
  match g.state with
  | .jammed => g
  | .raising =>
    if !mayRise || (g.demand == .down && !g.reversing) then g.move .lowering c.gateTime else g
  | .lowering => if g.demand == .up && mayRise then g.move .raising c.gateTime else g
  | st =>
    if g.limits.isNone || g.retryWait.isRunning || g.bothLimits then g
    else
      match g.demand with
      | .down => if st == .down then g else g.move .lowering c.gateTime
      | .up => if st == .up || !mayRise then g else g.move .raising c.gateTime
      | .none => g

/-- The closure states in which a held gate of a kind begins a hold flash (R108). -/
def flashes (c : Closure) (k : GateKind) : Bool :=
  match c with
  | .openRoad | .prewarn | .reopening => true
  | .entryLowering | .clearing => k == .exit
  | _ => false

/-- A hold flash begins where R108 asks for one. -/
def Gate.maybeFlash (stopTime : Int) (c : Closure) (k : GateKind) (g : Gate) : Gate :=
  if k != .unused && g.held && flashes c k && (g.state == .up || g.state == .unknown) && !g.retryWait.isRunning &&
      !g.holdFlash.isRunning then
    { g with holdFlash := Timer.startS stopTime }
  else g

/-- A moving gate ends its travel at a limit (R89). A gate that comes to rest may begin a hold flash (R108). -/
def Gate.endTravel (x : RoadCtx) (c : Closure) (k : GateKind) (g : Gate) : Gate :=
  let moving := g.state == .lowering || g.state == .raising
  if moving && g.bothLimits then
    { g with state := .unknown, travel := .stopped, reversing := false }.maybeFlash x.stopTime c k
  else if g.state == .lowering && g.downAlone then
    { g with state := .down, travel := .stopped, retryCount := 0, reversing := false }
  else if g.state == .raising && g.upAlone then
    { g with state := .up, travel := .stopped, reversing := false,
             retryWait := if g.reversing then Timer.startS x.obstructWait else g.retryWait }.maybeFlash x.stopTime c k
  else g

/-- An obstruction of a lowering gate (R90). -/
def Gate.meetObstruct (x : RoadCtx) (g : Gate) : Gate :=
  if g.state == .lowering && g.obstruct then
    if g.retryCount ≥ 3 then { g with state := .jammed, travel := .stopped, reversing := false }
    else if !g.held && x.locked then { g.move .raising x.gateTime with reversing := true }
    else
      { g with state := .unknown, travel := .stopped, reversing := false, retryWait := Timer.startS x.obstructWait }
  else g

/-- The lane lamp aspect of a gate (R93); an UNUSED gate's lamp is off (R85). -/
def laneAspect (c : Closure) (k : GateKind) (g : Gate) : LaneAspect :=
  if k == .unused then .dark
  else
    match c with
    | .openRoad | .prewarn =>
      if g.held then (if g.holdFlash.isRunning then .redFlash else .red) else if g.state == .up then .dark else .red
    | .stopping | .entryLowering | .clearing | .exitLowering => .redFlash
    | .closed | .reopening | .restart => .red

/-- One round of an approach's gate: demand, pursuit, travel end, obstruction. UNUSED gates are left out (R85). -/
def Gate.round (x : RoadCtx) (c : Closure) (step : Option ReopenStep) (k : GateKind) (g : Gate) : Gate :=
  if k == .unused then g
  else (((g.demandTo (demandOf c step k g)).pursue x).endTravel x c k).meetObstruct x

/-- A gate at the entry to a closure state: a flash ends where the demand is plain DOWN (R99, R101, R108), and may begin
elsewhere. -/
def Gate.enterClosure (stopTime : Int) (c : Closure) (k : GateKind) (g : Gate) : Gate :=
  if k == .unused then g
  else
    match c with
    | .exitLowering | .closed => { g with holdFlash := .stopped }
    | .entryLowering | .clearing =>
      if k.bars then { g with holdFlash := .stopped } else g.maybeFlash stopTime c k
    | _ => g.maybeFlash stopTime c k

/-- An approach takes a closure state, with its reopen step and state timer. Leaving CLEARING stops the alert timer and
ends CLEARANCE_DELAY; entering it starts the alert timer (R100, R102). An advance pending of the state left is cleared also
where a start takes the approach out of it in span halt (R109; entry 52). -/
def Approach.enter (x : RoadCtx) (a : Approach) (c : Closure) (step : Option ReopenStep) (t : Timer) : Approach :=
  { a with closure := c, reopenStep := step, stateTimer := t,
           alertTimer := if c == .clearing then Timer.startS x.clearAlert else .stopped,
           delayed := false, advancePending := false,
           gates := Six.zip (fun k g => Gate.enterClosure x.stopTime c k g) x.kinds a.gates }

/-- A closure start (R97). -/
def Approach.closureStart (x : RoadCtx) (a : Approach) : Approach :=
  match a.closure with
  | .openRoad | .restart | .reopening => a.enter x .prewarn none (Timer.startS x.prewarnTime)
  | _ => a

/-- A closure abort (R102), taken whenever it is given, also in span halt (entry 38). -/
def Approach.closureAbort (x : RoadCtx) (a : Approach) : Approach :=
  match a.closure with
  | .prewarn | .stopping | .entryLowering | .clearing | .exitLowering => a.enter x .reopening (some .exit) .stopped
  | _ => a

/-- A reopening start (R103), taken whenever it is given, also in span halt (entry 38). -/
def Approach.reopeningStart (x : RoadCtx) (a : Approach) : Approach :=
  match a.closure with
  | .closed | .restart => a.enter x .reopening (some .exit) .stopped
  | _ => a

/-- Every used detector of the approach reads CLEAR. -/
def Approach.allClear (x : RoadCtx) (a : Approach) : Bool := zonesClear x.zones a.zones

/-- Every used ENTRY and FOOTWAY gate is DOWN (R99). -/
def Approach.entryDown (x : RoadCtx) (a : Approach) : Bool :=
  Six.allZip (fun k g => !k.bars || g.state == GateState.down) x.kinds a.gates

/-- Every used EXIT gate is DOWN (R101). -/
def Approach.exitDown (x : RoadCtx) (a : Approach) : Bool :=
  Six.allZip (fun k g => k != GateKind.exit || g.state == GateState.down) x.kinds a.gates

/-- Every released used EXIT gate is UP (R103, step EXIT). -/
def Approach.exitUp (x : RoadCtx) (a : Approach) : Bool :=
  Six.allZip (fun k g => k != GateKind.exit || g.held || g.state == GateState.up) x.kinds a.gates

/-- Every released used gate is UP (R103, step ENTRY). -/
def Approach.allUp (x : RoadCtx) (a : Approach) : Bool :=
  Six.allZip (fun k g => k == GateKind.unused || g.held || g.state == GateState.up) x.kinds a.gates

/-- CLEARING is entered: the state timer starts if the zone reads clear (R100). -/
def Approach.toClearing (x : RoadCtx) (a : Approach) : Approach :=
  a.enter x .clearing none (if a.allClear x then Timer.startS x.clearMin else .stopped)

/-- The test of a gate-driven closure state, and the approach after it (R99, R101, R103). -/
def Approach.gateAdvance (x : RoadCtx) (a : Approach) : Option Approach :=
  match a.closure with
  | .entryLowering => if a.entryDown x then some (a.toClearing x) else none
  | .exitLowering => if a.exitDown x then some (a.enter x .closed none .stopped) else none
  | .reopening =>
    match a.reopenStep with
    | some .entry => if a.allUp x then some (a.enter x .openRoad none .stopped) else none
    | _ => if a.exitUp x then some { a with reopenStep := some .entry } else none
  | _ => none

/-- An approach advances where its gates let it; in span halt it sets advance pending instead (R109). -/
def Approach.advance (x : RoadCtx) (a : Approach) : Approach :=
  match a.gateAdvance x with
  | some b => if x.halted then { a with advancePending := true } else b
  | none => a

/-- In CLEARING the state timer follows the detectors (R100); an advance left pending by a halt keeps it stopped
(R109). -/
def Approach.followZones (x : RoadCtx) (a : Approach) : Approach :=
  if a.closure == .clearing && !a.advancePending then
    if !a.allClear x then { a with stateTimer := .stopped }
    else if a.stateTimer.isRunning then a
    else { a with stateTimer := Timer.startS x.clearMin }
  else a

/-- The state timer of an approach expires in one of its timed states (R98, R100); in span halt the advance is left
pending (R109). -/
def Approach.timerExpiry (x : RoadCtx) (a : Approach) : Approach :=
  if x.halted then { a with stateTimer := .stopped, advancePending := true }
  else
    match a.closure with
    | .prewarn => a.enter x .stopping none (Timer.startS x.stopTime)
    | .stopping => a.enter x .entryLowering none .stopped
    | .clearing => a.enter x .exitLowering none .stopped
    | _ => a

/-- The end of a span halt makes the test of an advance left pending again (R109). -/
def Approach.resume (x : RoadCtx) (a : Approach) : Approach :=
  if a.advancePending then
    let b := { a with advancePending := false }
    match b.closure with
    | .prewarn | .stopping => b.timerExpiry { x with halted := false }
    | .clearing => if b.allClear x then b.timerExpiry { x with halted := false } else b
    | _ => b
  else a

/-- One round of an approach controller: its gates, its zones, its sequence. -/
def Approach.round (x : RoadCtx) (a : Approach) : Approach :=
  let b := { a with gates := Six.zip (fun k g => Gate.round x a.closure a.reopenStep k g) x.kinds a.gates }
  (b.followZones x).advance x

/-- The lane lamps follow the closure state, the gates, the holds and the flashes (R93). -/
def Approach.setLamps (x : RoadCtx) (a : Approach) : Approach :=
  { a with gates := Six.zip (fun k g => { g with lamp := laneAspect a.closure k g }) x.kinds a.gates }

/-- A gate takes a hold (R107): a release ends its flash, a hold may begin one (R108). -/
def Gate.setHold (x : RoadCtx) (c : Closure) (k : GateKind) (held : Bool) (g : Gate) : Gate :=
  if g.held == held then g
  else if held then { g with held := true }.maybeFlash x.stopTime c k
  else { g with held := false, holdFlash := .stopped }

/-- A gate is set at rest and takes its state from its limits (R86, R91). -/
def Gate.restFromLimits (g : Gate) : Gate :=
  { g with state := g.stateFromLimits, travel := .stopped, reversing := false }

/-- A gate's debounced limits change (R86, R89): a gate at rest follows them, a moving gate is judged in its round, and
a JAMMED gate does not follow. -/
def Gate.limitChange (x : RoadCtx) (l : GateLimits) (g : Gate) : Gate :=
  let h := { g with limits := some l }
  if h.atRest then
    if h.bothLimits then { h with state := .unknown, travel := .stopped }
    else if h.upAlone then { h with state := .up, travel := .stopped }
    else if h.downAlone then { h with state := .down, travel := .stopped, retryCount := 0 }
    else if h.state == .unknown || h.travel.isRunning then h
    else { h with travel := Timer.startS x.gateTime }
  else h

/-- A gate's limits are established (R86). -/
def Gate.establish (l : GateLimits) (g : Gate) : Gate :=
  let h := { g with limits := some l }
  if h.atRest then h.restFromLimits else h

/-- A gate's travel timer expires (R86, R89). -/
def Gate.travelExpiry (g : Gate) : Gate :=
  if !g.travel.isRunning then g
  else if g.atRest then { g with state := .unknown, travel := .stopped }
  else { g with state := .jammed, travel := .stopped, reversing := false }

/-- A gate's retry wait expires (R90). -/
def Gate.retryExpiry (g : Gate) : Gate :=
  if !g.retryWait.isRunning then g
  else { g with retryWait := .stopped,
                retryCount := if g.demand == .down then g.retryCount + 1 else g.retryCount }

/-- RETRY_GATE on a gate (R91). The gate so put at rest begins no hold flash (R108; entry 24). -/
def Gate.retry (g : Gate) : Gate := { g with retryCount := 0, retryWait := .stopped }.restFromLimits

/-- A gate whose kind is written (R92): made UNUSED it is put out of every condition, made used it starts as after
reset, and begins no hold flash (R108; entry 24). -/
def Gate.rekind (old new : GateKind) (g : Gate) : Gate :=
  if old == new then g
  else if new == .unused then
    { Gate.reset .unused with limits := g.limits, obstruct := g.obstruct }
  else if old == .unused then
    { Gate.reset new with limits := g.limits, obstruct := g.obstruct }.restFromLimits
  else g

/-- A lamp's health after a proving span, for what the lamp is meant to show (R94, R114). An OUT lamp is made NORMAL by
current while meant on, a STUCK lamp by no current while meant off (entry 22). -/
def Health.judge (h : Health) (meantOn : Bool) (p : Proving) : Health :=
  match p, meantOn with
  | .noCurrent, true => .out
  | .current, false => .stuck
  | .current, true => if h == .stuck then .stuck else .normal
  | .noCurrent, false => if h == .out then .out else .normal
  | .mixed, _ => h

namespace State

/-- An approach record changed by a function of its context. -/
def onAp (s : State) (x : Ap) (f : RoadCtx → Approach → Approach) : State := s.setAp x (f (s.roadCtx x) (s.ap x))

/-- Every approach the part uses is changed. -/
def onUsedAps (s : State) (f : RoadCtx → Approach → Approach) : State :=
  let t := s.onAp .a f
  if t.usesAp .b then t.onAp .b f else t

/-- A gate is changed by a function of its context, its closure state and its kind. -/
def onGate (s : State) (g : GateId) (f : RoadCtx → Closure → GateKind → Gate → Gate) : State :=
  s.onAp g.ap fun x a => { a with gates := a.gates.put g.ix (f x a.closure (x.kinds.at g.ix) (a.gates.at g.ix)) }

end State

end Sys2Proof.Machine
end

