-- ==== Sys2Proof/Machine/CycleOps.lean ====
section
/-!
DEFINITION. The opening cycle (chapter 7), the commands it gives to the leaf and the locks (R63 to R65, R75, R76), the
calls (R120, R121), and the settling of one event: every block reacts until nothing more follows (entry 1).
-/

namespace Sys2Proof.Machine

open Sys2Proof

/-- A withdraw command on a lock (R75); until its limits are established the record reads JAMMED with its outputs off
(R74; entry 23). -/
def Lock.withdraw (l : Lock) (lockTime : Int) : Lock :=
  if l.limits.isNone then l
  else
    match l.state with
    | .driven | .driving | .jammed => { l with state := .withdrawing, timer := Timer.startS lockTime }
    | _ => l

/-- A drive command on a lock (R76); until its limits are established the record reads JAMMED with its outputs off
(R74; entry 23). -/
def Lock.drive (l : Lock) (lockTime : Int) : Lock :=
  if l.limits.isNone then l
  else
    match l.state with
    | .withdrawn | .withdrawing | .jammed => { l with state := .driving, timer := Timer.startS lockTime }
    | _ => l

/-- A lock after a change of its debounced limits (R77). -/
def Lock.limitChange (l : Lock) (lim : LockLimits) : Lock :=
  let m := { l with limits := some lim }
  let jam : Lock := { m with state := .jammed, timer := .stopped }
  if lim.withdrawn && lim.driven then jam
  else
    match l.state with
    | .withdrawing => if lim.withdrawn then { m with state := .withdrawn, timer := .stopped } else m
    | .driving => if lim.driven then { m with state := .driven, timer := .stopped } else m
    | .driven => if lim.driven && !lim.withdrawn then m else jam
    | .withdrawn => if lim.withdrawn && !lim.driven then m else jam
    | .jammed =>
      if lim.driven then { m with state := .driven } else if lim.withdrawn then { m with state := .withdrawn } else m

/-- A lock's state at the establishment of its limits (R74). -/
def Lock.establish (l : Lock) (lim : LockLimits) : Lock :=
  { l with limits := some lim,
           state := if lim.driven && !lim.withdrawn then .driven
                    else if lim.withdrawn && !lim.driven then .withdrawn else .jammed }

namespace State

/-- The state with its lock unit changed. -/
def modLocks (s : State) (f : Locks → Locks) : State := { s with locks := f s.locks }

/-- Whether the part owns a lock (R74). -/
def ownsLock (s : State) : LockId → Bool
  | .tail => true
  | .toe => s.role != .follow

/-- A lock record changed. -/
def modLock (s : State) (l : LockId) (f : Lock → Lock) : State :=
  match l with
  | .tail => s.modLocks fun k => { k with tail := f k.tail }
  | .toe => s.modLocks fun k => { k with toe := f k.toe }

/-- The partner's motion state in the freshest accepted frame is seated (R76). -/
def partnerIsSeated (s : State) : Bool := s.link.view.any partnerSeated

/-! ### The commands of the sequencer (R63, R64, R65, R75, R76) -/

/-- The withdraw command is taken by the owned locks; it cancels a pending TOE drive (R75, R76). -/
def withdrawLocks (s : State) : State :=
  let t := s.items.road.lockTime
  s.modLocks fun k =>
    { tail := k.tail.withdraw t, toe := if s.role == .follow then k.toe else k.toe.withdraw t, toePending := false }

/-- The drive command is taken by the owned locks; a LEAD's TOE waits for a seated partner (R76). -/
def driveLocks (s : State) : State :=
  let t := s.items.road.lockTime
  let toeNow := s.role == .sole || (s.role == .lead && s.partnerIsSeated)
  s.modLocks fun k =>
    { tail := k.tail.drive t, toe := if toeNow then k.toe.drive t else k.toe,
      toePending := s.role == .lead && !s.partnerIsSeated }

/-- The raise command is accepted (R63). -/
def raiseOK (s : State) : Bool :=
  (s.motion.state == .stopped || (s.motion.state == .seatedFree && s.ownedLocksAre .withdrawn)) && s.target.isSome &&
    s.sourceHolds && s.permitOK && (s.role != .follow || s.freshView.any (·.withdrawn))

/-- The hold command is accepted (R64). -/
def holdOK (s : State) : Bool := s.motion.state == .stopped && s.target.isSome && s.sourceHolds && s.permitOK

/-- The lower command is accepted (R65). -/
def lowerOK (s : State) : Bool :=
  (s.motion.state == .holding || s.motion.state == .stopped) && s.sourceHolds && s.permitOK

/-- The reported angle is at or above the target less 30 cd (R63, R64). -/
def nearTarget (s : State) : Bool := s.target.any fun t => decide (s.angle ≥ t - 30)

/-- The outstanding command is done with. -/
def clearCommand (s : State) : State := s.modOpening fun o => { o with command := none }

/-- Each green signal lamp whose health is OUT is made NORMAL (R114). -/
def renewGreens (s : State) : State :=
  let f := fun (r : DirRec) => if r.green == .out then { r with green := .normal } else r
  { s with signals := { s.signals with inbound := f s.signals.inbound, outbound := f s.signals.outbound } }

/-- The road step of CLOSING_ROAD (R97, R114) or of REOPENING_ROAD (R102, R103). -/
def roadStep (s : State) : State :=
  match s.opening.phase with
  | .closingRoad => (s.onUsedAps fun x a => a.closureStart x).renewGreens
  | .reopeningRoad => s.onUsedAps fun x a => (a.closureAbort x).reopeningStart x
  | _ => s

/-- A command is given to its block: the new state where it is taken, none where it is refused. -/
def giveCommand (s : State) : SeqCmd → Option State
  | .withdraw => if s.isSeated then some s.withdrawLocks else none
  | .drive => if s.motion.state == .seatedFree then some s.driveLocks else none
  | .raise =>
    if s.raiseOK then
      some (s.modMotion fun m => { m with kind := .opening, state := if s.nearTarget then .holding else .raising })
    else none
  | .hold =>
    if s.holdOK then some (s.modMotion fun m => { m with kind := .opening, state := .holding, correction := false })
    else none
  | .lower => if s.lowerOK then some (s.startDown .opening) else none
  | .road => some s.roadStep

/-- The outstanding command is given, while the opening is not suspended and, in FOLLOW role, the view is fresh; a
refused one stays outstanding (R135, R148). -/
def tryCommand (s : State) : State :=
  match s.opening.command with
  | none => s
  | some c =>
    if s.opening.suspended || (s.role == .follow && !s.link.paired) then s
    else
      match s.giveCommand c with
      | some t => t.clearCommand
      | none => s

/-! ### Phases (R135 to R137, R148) -/

/-- The phase changes. No command of the former phase is given again, and at the exit from HELD_OPEN the serving
direction becomes absent (R119), while the run direction stays until IDLE (R128, R137; entry 53). -/
def setPhase (s : State) (p : Phase) : State :=
  let t := s.modOpening fun o => { o with phase := p, command := none }
  if s.role != .follow && s.opening.phase == .heldOpen && p != .heldOpen then t.modCall fun c => { c with serving := none }
  else t

/-- A command is outstanding. -/
def order (s : State) (c : SeqCmd) : State := s.modOpening fun o => { o with command := some c }

/-- The step of the phase the part now holds (R135; in FOLLOW role R148, where a
stale view gives no step and the road step waits). -/
def giveStep (s : State) : State :=
  match s.opening.phase with
  | .idle | .pending => s
  | .closingRoad | .reopeningRoad =>
    if s.role == .follow && !s.link.paired then s.order .road else s.roadStep
  | .unlocking => s.order .withdraw
  | .raising =>
    (if s.role == .follow then s else s.modOpening fun o => { o with frozen := true }).order .raise
  | .heldOpen =>
    if s.role == .follow then s
    else
      let t := s.modCall fun c => { c with serving := s.opening.runDir }
      if t.opening.group.isEmpty then t.startLinger else t
  | .lowering =>
    (if s.role == .follow then s else s.modOpening fun o => { o with linger := .stopped }).order .lower
  | .locking => s.order .drive

/-- The opening enters a phase (R135). -/
def enterPhase (s : State) (p : Phase) : State := (s.setPhase p).giveStep

/-- A road credit is restored, below ROAD_CREDITS (R134). -/
def restoreCredit (s : State) : State :=
  s.modOpening fun o =>
    { o with credits := if (o.credits : Int) < s.items.road.roadCredits then o.credits + 1 else o.credits }

/-- The road interval elapses (R134); its timer is then stopped (entry 48). -/
def intervalElapses (s : State) : State :=
  (s.modOpening fun o => { o with interval := .elapsed, intervalTimer := .stopped }).restoreCredit

/-- The road interval starts at ROAD_MIN; 0 elapses at once (R134). -/
def startInterval (s : State) : State :=
  if s.items.road.roadMin = 0 then s.intervalElapses
  else s.modOpening fun o => { o with interval := .running, intervalTimer := Timer.startS s.items.road.roadMin }

/-- The opening returns to IDLE (R137). -/
def toIdle (s : State) : State :=
  ((s.setPhase .idle).modOpening fun o =>
    { o with target := none, runDir := none, resumePoint := none, frozen := false, suspended := false,
             closeRequested := false, linger := .stopped }).startInterval

/-- The conditions common to the start test and every advance (R133, R136). -/
def advanceAllowed (s : State) : Bool :=
  !s.opening.suspended && !s.holdSummary && s.freshOrSole && !(s.freshView.any (·.holdActive))

/-- A grouped record is URGENT (R133). -/
def groupUrgent (s : State) : Bool :=
  s.opening.group.any fun n => (s.findRec n).any fun r => r.priority == .urgent

/-- The start test is made in PENDING (R133); a start on a credit spends it and cuts a running interval (R134). -/
def startTest (s : State) : State :=
  if s.role != .follow && s.opening.phase == .pending && s.advanceAllowed && !s.opening.settle.isRunning then
    if s.opening.interval == .elapsed then s.enterPhase .closingRoad
    else if s.groupUrgent && s.opening.credits > 0 then
      (s.modOpening fun o =>
        { o with credits := o.credits - 1, creditUsed := true, interval := .cut, intervalTimer := .stopped }).enterPhase
          .closingRoad
    else s
  else s

/-- A FOLLOW's step-done flag in the freshest frame; SOLE role has no FOLLOW (R136). -/
def followDone (s : State) (f : PartnerView → Bool) : Bool := !s.twin || s.freshView.any f

/-- The phase that follows where the condition of the present phase holds (R136). -/
def nextPhase (s : State) : Option Phase :=
  match s.opening.phase with
  | .closingRoad =>
    if s.allUsedAps (· == .closed) && s.followDone (·.closed) then some .unlocking else none
  | .unlocking => if s.ownedLocksAre .withdrawn && s.followDone (·.withdrawn) then some .raising else none
  | .raising => if s.motion.state == .holding && s.followDone (·.holding) then some .heldOpen else none
  | .heldOpen =>
    if s.opening.linger == .expired || (s.opening.closeRequested && !s.anyRec .passing) then some .lowering else none
  | .lowering => if s.isSeated && s.followDone (·.seated) then some .locking else none
  | .locking =>
    if s.motion.state == .seatedLocked && s.followDone (·.locked) then some .reopeningRoad else none
  | .reopeningRoad =>
    if s.allUsedAps (· == .openRoad) && s.followDone (fun v => v.closure == 0) then some .idle else none
  | .idle | .pending => none

/-- A phase advances where it may (R136). -/
def advancePhase (s : State) : State :=
  if s.role != .follow && s.advanceAllowed then
    match s.nextPhase with
    | some .idle => s.toIdle
    | some p => s.enterPhase p
    | none => s
  else s

/-- The suspension is over (R145, R149). -/
def clearSuspension (s : State) : State :=
  s.modOpening fun o => { o with suspended := false, resumePoint := none }

/-- A suspension ends once the leaf is seated and no halt is active: RAISING and HELD_OPEN go back to RAISING with a
raise command, every other phase gives its step again (R145); a FOLLOW gives the step of its mirror phase (R149). -/
def endSuspension (s : State) : State :=
  if s.opening.suspended && !s.faults.halted && s.isSeated then
    let t := s.clearSuspension
    if s.role != .follow && (s.opening.phase == .raising || s.opening.phase == .heldOpen) then t.enterPhase .raising
    else t.giveStep
  else s

/-! ### The stages of a round -/

/-- A failed permit condition stops a moving leaf (R61). An OPENING motion's command is given again while its phase
lasts (R135). -/
def permitStage (s : State) : State :=
  if s.permitOK then s
  else
    match s.motion.state with
    | .raising | .lowering | .seatApproach =>
      let t := s.modMotion fun m =>
        { m with state := .stopped, kind := .none,
                 teachResult := if m.kind == .teach then .aborted else m.teachResult,
                 teachStep := if m.kind == .teach then .none else m.teachStep }
      if s.motion.kind == .opening then
        match s.opening.phase with
        | .raising => t.order .raise
        | .lowering => t.order .lower
        | _ => t
      else t
    | .holding => s.modMotion fun m => { m with correction := false }
    | _ => s

/-- The motion follows the reported angle (R63, R64, R65, R79). Where the target becomes absent, a rise or a correction goes
on (entry 35). A teach accepted at 150 cd or above goes to SEAT_APPROACH at its acceptance (entry 44). -/
def angleStage (s : State) : State :=
  match s.motion.state with
  | .raising =>
    if s.motion.kind == .teach then
      if s.angle ≥ 150 then s.modMotion fun m => { m with state := .seatApproach, teachStep := .lowering } else s
    else if s.nearTarget then s.modMotion fun m => { m with state := .holding }
    else s
  | .holding =>
    if s.motion.correction then
      if s.nearTarget then s.modMotion fun m => { m with correction := false } else s
    else if s.permitOK && s.target.any (fun t => decide (s.angle < t - 80)) then
      s.modMotion fun m => { m with correction := true }
    else s
  | .lowering => if s.angle ≤ 300 then s.modMotion fun m => { m with state := .seatApproach } else s
  | _ => s

/-- The seated states follow the locks (R62). -/
def seatLockStage (s : State) : State :=
  if s.isSeated then s.modMotion fun m => { m with state := s.seatedState } else s

/-- A pending TOE drive starts on a seated partner, and is cancelled outside SEATED_FREE (R76). -/
def toeStage (s : State) : State :=
  if s.locks.toePending then
    if s.motion.state != .seatedFree then s.haltLocks
    else if s.partnerIsSeated then
      s.modLocks fun k => { k with toe := k.toe.drive s.items.road.lockTime, toePending := false }
    else s
  else s

/-- One round of each used approach's controller (chapter 5). -/
def roadStage (s : State) : State := s.onUsedAps fun x a => a.round x

/-- A call whose record lost its angle or its direction is revoked (R115, R124). The drift test is made at every event, not
only at the changes R124 lists (entry 46). -/
def driftStage (s : State) : State :=
  match s.calledRec with
  | some r =>
    if r.required.above (s.goAngle.getD s.angle) || !(s.dirRec r.dir).inService then s.revoke r else s
  | none => s

/-- A record is made CALLED (R121). -/
def call (s : State) (n : Nat) : State :=
  (s.setRecState n .called).modCall fun c =>
    { c with called := some n, callTimer := Timer.startS s.items.channel.callTime }

/-- The serving direction changes, and with it the run direction of the opening record (R119, R120). -/
def serve (s : State) (d : Dir) : State :=
  (s.modCall fun c => { c with serving := some d }).modOpening fun o => { o with runDir := some d }

/-- The candidate of a direction is called at once if that direction's gap timer is stopped (R120). -/
def callIfReady (s : State) (d : Dir) (n : Nat) : State :=
  if (s.dirRec d).gap == .stopped then s.call n else s

/-- The group list is examined for a call (R120). -/
def callStage (s : State) : State :=
  if s.callDue then
    let d := s.signals.call.serving.getD .inbound
    match s.candidate d with
    | some n => s.callIfReady d n
    | none =>
      match s.candidate d.other with
      | some n => (s.serve d.other).callIfReady d.other n
      | none => s
  else s

/-- The channel signal unit's stage; in FOLLOW role it is out of service (R127). -/
def channelStage (s : State) : State := if s.role == .follow then s else s.driftStage.callStage

/-- The aspects are formed afresh (R112). -/
def aspectStage (s : State) : State :=
  { s with signals :=
      { s.signals with inbound := { s.signals.inbound with aspect := s.aspectOf .inbound },
                       outbound := { s.signals.outbound with aspect := s.aspectOf .outbound } } }

/-- The lane lamps of the used approaches follow (R93). -/
def lampStage (s : State) : State := s.onUsedAps fun x a => a.setLamps x

/-- The four drive outputs follow the motion state and the permit conditions (R59, R60). -/
def outputStage (s : State) : State :=
  let on := s.permitOK
  let m := s.motion
  let moves : Bool × Way × SpeedClass :=
    match m.state with
    | .raising => (true, .up, s.runClass)
    | .lowering => (true, .down, s.runClass)
    | .seatApproach => (true, .down, .creep)
    | .holding => if m.correction then (true, .up, .creep) else (false, m.direction, .zero)
    | _ => (false, m.direction, .zero)
  let permitState :=
    match m.state with
    | .raising | .holding | .lowering | .seatApproach => true
    | _ => false
  { s with motion :=
      { m with permit := on && permitState, brakeRelease := on && moves.1, direction := moves.2.1,
               speedClass := if on then moves.2.2 else .zero } }

/-- One round of the reactions to an event, in the order of entry 8: the fault conditions, the permit, the leaf, the
sequencer, the road, the calls. -/
def react (s : State) : State :=
  s.reportAll.permitStage.angleStage.endSuspension.tryCommand.seatLockStage.toeStage.roadStage.startTest.advancePhase
    |>.channelStage

/-- What every round ends with: the outputs that follow the state. -/
def outputs (s : State) : State := s.aspectStage.lampStage.outputStage

/-- One round with its outputs. -/
def round (s : State) : State := s.react.outputs

/-- A number of rounds. -/
def rounds : Nat → State → State
  | 0, s => s
  | n + 1, s => rounds n s.round

/-- The settling of an event: the blocks react, each to the others' changes, in eight rounds (entry 1). -/
def settle (s : State) : State := rounds 8 s

/-- The first event after reset: a latch taken at reset brings its halt, and the blocks report for the first time (R168,
R169; entry 7). -/
def wake (s : State) : State := if s.justReset then { s with justReset := false }.settle else s

/-- A field line event, link event or timer expiry: its own change, then what follows from it. -/
def event (s : State) (f : State → State) : Host.Outcome State Fault Refusal := .next (f s.wake).settle

/-! ### Requests (R176, R191, R192) -/

/-- The response is formed and the port becomes READY; a result other than OK carries no data (R189, R192). -/
def respond (s : State) (r : Result) (data : List Byte) : State :=
  { s with port :=
      { s.port with state := .ready, request := [],
                    response := some { result := r, data := if r == .ok then data else [] } } }

/-- The resume-prepare flag is cleared and its lapse timer stopped (R176). -/
def clearPrepare (s : State) : State := { s with faults := { s.faults with prepare := false, lapse := .stopped } }

end State

/-- How a block answers a request: a refusal, or the changed state with the data of its response, which is read from
the state as it stands when the event has settled. -/
inductive Answer
  | refuse (r : Result)
  | accept (s : State) (data : State → List Byte)

namespace State

/-- Accepted with no data. -/
def ok (s : State) : Answer := .accept s fun _ => []

/-- An answer is given: a refused request changes nothing but the port (R6, R192). -/
def answer (s : State) : Answer → State
  | .refuse r => s.respond r []
  | .accept t data => t.settle.respond .ok (data t.settle)

/-- A non-read request: the resume-prepare flag is cleared whatever the outcome, the station is checked, and the owning
block answers (R176, R191). -/
def request (s : State) (st : Station) (who : List Station) (f : State → Answer) :
    Host.Outcome State Fault Refusal :=
  let t := s.wake.clearPrepare
  .next (if who.contains st then t.answer (f t) else t.respond .notPermitted [])

/-- A read: any station may send it, and it changes nothing but the port (R191). -/
def read (s : State) (f : State → Except Result (List Byte)) : Host.Outcome State Fault Refusal :=
  let t := s.wake
  .next (match f t with
    | .ok data => t.respond .ok data
    | .error r => t.respond r [])

end State

end Sys2Proof.Machine
end

