-- ==== Sys2Proof/Machine/Book.lean ====
section
/-!
DEFINITION. Commands of the passage book and of the clearance unit (chapters 1 and 2): bookings, amendments, the listings,
the water level and the span clock.
-/

namespace Sys2Proof.Machine

open Sys2Proof

/-! ### Numbering and overwrite (R4, R8) -/

/-- The passage number after one, wrapping from 65535 to 1 (R4). -/
def nextNumber (n : Nat) : Nat := if n ≥ 65535 then 1 else n + 1

/-- The first number from `n` on that no record holds (R4); `fuel` need be no more than the number of records. -/
def freeNumber (rs : List Rec) : Nat → Nat → Nat
  | 0, n => n
  | fuel + 1, n => if rs.any fun r => r.number == n then freeNumber rs fuel (nextNumber n) else n

/-- The closed record with the earliest closed-at, the earliest in book order among equals (R8). The values are compared as
plain numbers, also across a wrap of the clock (entry 42). -/
def oldestClosed (rs : List Rec) : Option Rec :=
  (rs.filter fun r => !r.live).foldl
    (fun acc r =>
      match acc with
      | none => some r
      | some q => if r.closedAt.getD 0 < q.closedAt.getD 0 then some r else some q)
    none

/-- The records after the overwrite that a booking makes on a full book (R8). A book with room loses none, also after the
FORGET of which the last sentence of R20 speaks (entry 32). -/
def makeRoom (rs : List Rec) : List Rec :=
  if rs.length < 24 then rs
  else
    match oldestClosed rs with
    | some q => rs.filter fun r => r.number != q.number
    | none => rs

/-- An air draft in the range of R1. -/
def draftInRange (d : Int) : Bool := decide (100 ≤ d) && decide (d ≤ 6000)

/-! ### BOOK (R7, R8) -/

/-- A BOOK whose codes have been read. -/
structure Booking where
  vessel : Nat
  dir : Dir
  draft : Int
  priority : Priority
  notBefore : Option Nat
  follows : Option Nat
  required : Required
  deriving DecidableEq, Repr

/-- The checks of R7 in their order, giving the booking with the required angle of check 6. A not-before presence flag
other than 0 and 1 (R193) is refused with check 3 (entry 31). -/
def State.judgeBooking (s : State) (vessel dir : Nat) (draft : Int) (priority : Nat) (nb : NotBeforeParam)
    (follows : Nat) : Except Result Booking :=
  if s.role == .follow then .error .notLead
  else if (s.fault .unconfigured).cond then .error .unconfigured
  else
    match draftInRange draft && decide (nb.flag ≤ 1), Dir.ofCode? dir, Priority.ofCode? priority with
    | true, some d, some p =>
      if follows != 0 && !(s.findRec follows).any (fun r => r.live && r.dir == d) then .error .badValue
      else if s.book.records.any fun r => r.live && r.vessel == vessel then .error .duplicateVessel
      else
        let req := s.requiredFor draft
        if req == .unachievable then .error .clearanceExceeded
        else if decide (24 ≤ s.book.records.length) && s.book.records.all Rec.live then .error .bookFull
        else
          .ok { vessel := vessel, dir := d, draft := draft, priority := p,
                notBefore := if nb.flag = 1 then some nb.value else none,
                follows := if follows = 0 then none else some follows, required := req }
    | _, _, _ => .error .badValue

/-- The number a booking takes (R4). -/
def State.bookingNumber (s : State) : Nat := freeNumber s.book.records s.book.records.length s.book.counter

/-- The record of an accepted booking (R8). -/
def Booking.toRec (b : Booking) (n : Nat) : Rec :=
  { number := n, vessel := b.vessel, dir := b.dir, draft := b.draft, priority := b.priority,
    notBefore := b.notBefore, follows := b.follows, required := b.required, state := .booked, changed := true,
    closedAt := none }

/-- The book after an accepted booking (R8). -/
def State.placeBooking (s : State) (b : Booking) : State :=
  let n := s.bookingNumber
  { s with book := { records := makeRoom s.book.records ++ [b.toRec n], counter := nextNumber n } }

/-- BOOK (R7, R8). -/
def execBook (st : Station) (vessel dir : Nat) (draft : Int) (priority : Nat) (notBefore : NotBeforeParam)
    (follows : Nat) (s : State) : Host.Outcome State Fault Refusal :=
  s.request st [.harbour] fun t =>
    match t.judgeBooking vessel dir draft priority notBefore follows with
    | .error r => .refuse r
    | .ok b => .accept (t.placeBooking b).examineJoins fun _ => be16 t.bookingNumber ++ b.required.bytes

/-! ### AMEND (R9, R10) -/

/-- A change byte that marks a value and its removal together (R190). -/
def contradicts (c : AmendChange) : Bool :=
  (c.notBefore.isSome && c.dropNotBefore) || (c.follows.isSome && c.dropFollows)

/-- The amended record, with the required angle of check 7 where a draft is carried (R10). -/
def amended (c : AmendChange) (req : Required) (r : Rec) : Rec :=
  { r with draft := c.draft.getD r.draft, required := if c.draft.isSome then req else r.required,
           priority := (c.priority.bind Priority.ofCode?).getD r.priority,
           notBefore := if c.dropNotBefore then none else if c.notBefore.isSome then c.notBefore else r.notBefore,
           follows := if c.dropFollows then none else if c.follows.isSome then c.follows else r.follows }

/-- The records that stand earlier in book order than the record of a number (R9). -/
def State.earlierThan (s : State) (n : Nat) : List Rec := s.book.records.takeWhile fun r => r.number != n

/-- The checks of R9 in their order, giving the record found and the required angle for a new draft. A change byte that
contradicts itself (R190) is refused with check 2 (entry 31). -/
def State.judgeAmend (s : State) (n : Nat) (c : AmendChange) : Except Result (Rec × Required) :=
  if s.role == .follow then .error .notLead
  else if !c.draft.all draftInRange || !c.priority.all (fun p => (Priority.ofCode? p).isSome) || contradicts c then
    .error .badValue
  else
    match s.findRec n with
    | none => .error .notFound
    | some r =>
      if !r.live then .error .wrongState
      else if r.state == .called || r.state == .passing then .error .inPassage
      else if !c.follows.all (fun f => (s.earlierThan n).any fun q => q.number == f && q.live && q.dir == r.dir) then
        .error .badValue
      else
        let req := match c.draft with | some d => s.requiredFor d | none => r.required
        if c.draft.isSome && req == .unachievable then .error .clearanceExceeded else .ok (r, req)

/-- An accepted AMEND: the record written, its changed flag set where a field differs, and the opening's part (R10). -/
def State.amendRec (s : State) (n : Nat) (c : AmendChange) (req : Required) : State :=
  s.modRec n fun r => let a := amended c req r; { a with changed := r.changed || a != r }

/-- A change byte with none of its bits set: an AMEND that carries no change (R9, R190). -/
def carriesNone (c : AmendChange) : Bool :=
  c.draft.isNone && c.priority.isNone && c.notBefore.isNone && !c.dropNotBefore && c.follows.isNone && !c.dropFollows

/-- What an accepted AMEND brings to the opening (R10): a BOOKED record is offered, a GROUPED one with a new draft is
tested. One that carries no change has no effect (R9). -/
def State.afterAmend (s : State) (n : Nat) (c : AmendChange) (old : RecState) : State :=
  if carriesNone c then s
  else if old == .booked then s.examineJoins
  else if c.draft.isSome then (s.testGroup [n]).examineJoins
  else s

/-- AMEND (R9, R10). -/
def execAmend (st : Station) (num : Nat) (change : AmendChange) (s : State) : Host.Outcome State Fault Refusal :=
  s.request st [.harbour] fun t =>
    match t.judgeAmend num change with
    | .error r => .refuse r
    | .ok (r, req) => .accept ((t.amendRec num change req).afterAmend num change r.state) fun _ => req.bytes

/-! ### CANCEL, FORGET, MARK_PASSED (R11, R15, R16) -/

/-- A request on one record: NOT_LEAD in FOLLOW role, NOT_FOUND where no record holds the number (R6). -/
def State.onRecord (s : State) (n : Nat) (f : Rec → Answer) : Answer :=
  if s.role == .follow then .refuse .notLead
  else
    match s.findRec n with
    | none => .refuse .notFound
    | some r => f r

/-- CANCEL (R11). -/
def execCancel (st : Station) (num : Nat) (s : State) : Host.Outcome State Fault Refusal :=
  s.request st [.harbour] fun t =>
    t.onRecord num fun r =>
      match r.state with
      | .booked | .grouped => State.ok (t.closeRec num .cancelled)
      | .called => State.ok ((t.callEnd r.dir).closeRec num .cancelled)
      | .passing => .refuse .inPassage
      | .passed | .cancelled | .lapsed => .refuse .wrongState

/-- FORGET (R15). -/
def execForget (st : Station) (num : Nat) (s : State) : Host.Outcome State Fault Refusal :=
  s.request st [.harbour] fun t =>
    t.onRecord num fun r =>
      if r.live then .refuse .wrongState
      else
        State.ok { t with book := { t.book with records := t.book.records.filter fun q => q.number != num } }

/-- MARK_PASSED (R16). -/
def execMarkPassed (st : Station) (num : Nat) (s : State) : Host.Outcome State Fault Refusal :=
  s.request st [.operator] fun t =>
    t.onRecord num fun r =>
      if r.state == .passing then State.ok ((t.callEnd r.dir).closeRec num .passed) else .refuse .wrongState

/-! ### LOOKUP, LIST_BOOK, LIST_CHANGED (R12 to R14) -/

/-- The closed record with the latest closed-at, the latest in book order among equals (R12), the values compared as plain
numbers (entry 42). -/
def latestClosed (rs : List Rec) : Option Rec :=
  (rs.filter fun r => !r.live).foldl
    (fun acc r =>
      match acc with
      | none => some r
      | some q => if r.closedAt.getD 0 ≥ q.closedAt.getD 0 then some r else some q)
    none

/-- The record a vessel reference names (R12). -/
def State.findVessel (s : State) (v : Nat) : Option Rec :=
  let rs := s.book.records.filter fun r => r.vessel == v
  match rs.find? Rec.live with
  | some r => some r
  | none => latestClosed rs

/-- The presence byte of a passage record (section 11.5). -/
def Rec.presence (r : Rec) : Nat :=
  (if r.notBefore.isSome then 1 else 0) + (if r.follows.isSome then 2 else 0) + (if r.closedAt.isSome then 4 else 0)

/-- The 25 bytes of a passage record (section 11.5). -/
def Rec.bytes (r : Rec) : List Byte :=
  be16 r.number ++ be32 r.vessel ++ u8 r.dir.code ++ be16 r.draft ++ u8 r.priority.code ++ u8 r.presence ++
    be32 (r.notBefore.getD 0 : Nat) ++ optNumber r.follows ++ r.required.bytes ++ u8 r.state.code ++
    flagByte r.changed ++ be32 (r.closedAt.getD 0 : Nat)

/-- LOOKUP (R12). -/
def execLookup (_st : Station) (key : LookupKey) (s : State) : Host.Outcome State Fault Refusal :=
  s.read fun t =>
    if t.role == .follow then .error .notLead
    else
      let found :=
        match key with
        | .number n => some (t.findRec n)
        | .vessel v => some (t.findVessel v)
        | .other => none
      match found with
      | none => .error .badValue
      | some none => .error .notFound
      | some (some r) => .ok r.bytes

/-- The records from which a listing is drawn (R13): the whole book, or what follows the resume number. -/
def State.listFrom (s : State) : Option Nat → List Rec
  | none => s.book.records
  | some n => (s.book.records.dropWhile fun r => r.number != n).drop 1

/-- LIST_BOOK (R13): bit n of the filter names the n-th state of R2. -/
def execListBook (_st : Station) (filter : Nat) (resume : Option Nat) (s : State) :
    Host.Outcome State Fault Refusal :=
  s.read fun t =>
    if t.role == .follow then .error .notLead
    else if filter % 128 = 0 then .error .badValue
    else if resume.any fun n => (t.findRec n).isNone then .error .notFound
    else
      let rs := (t.listFrom resume).filter fun r => filter.testBit r.state.code
      let page := rs.take 16
      .ok (u8 page.length ++ (page.flatMap fun r => be16 r.number ++ u8 r.state.code) ++
        flagByte (decide (16 < rs.length)))

/-- The numbers that a LIST_CHANGED reports (R14). -/
def State.changedPage (s : State) : List Nat := ((s.book.records.filter (·.changed)).take 16).map (·.number)

/-- The book with the changed flags of the reported records cleared (R14). -/
def State.clearChanged (s : State) : State :=
  let clear := fun (r : Rec) => if s.changedPage.contains r.number then { r with changed := false } else r
  { s with book := { s.book with records := s.book.records.map clear } }

/-- LIST_CHANGED (R14). -/
def execListChanged (st : Station) (s : State) : Host.Outcome State Fault Refusal :=
  s.request st [.harbour] fun t =>
    if t.role == .follow then .refuse .notLead
    else
      .accept t.clearChanged fun _ =>
        u8 t.changedPage.length ++ (t.changedPage.flatMap fun n => be16 n) ++ flagByte t.clearChanged.bookAttention

/-! ### The water level and the span clock (R5, R27, R28) -/

/-- SET_WATER (R27). -/
def execSetWater (st : Station) (level : Int) (s : State) : Host.Outcome State Fault Refusal :=
  s.request st [.operator, .harbour] fun t =>
    if t.role == .follow then .refuse .notLead
    else if level < -500 || level > 1500 then .refuse .badValue
    else
      let u := { t with water := { source := .fresh, level := some level, time := some t.clock,
                                   life := some t.items.clearance.waterStale.toNat } }
      .accept (if u.effectiveWater = t.effectiveWater then u else u.reevaluate) fun v => be16 v.effectiveWater

/-- The age of a FRESH level has reached its life (R28). -/
def State.waterExpires (s : State) : Bool :=
  s.water.source == .fresh && s.waterAge.any fun a => s.water.life.any fun l => decide (l ≤ a)

/-- WATER_STALE_EXPIRY (R28); before the age has reached the life nothing expires (entry 33). -/
def execWaterStaleExpiry (s : State) : Host.Outcome State Fault Refusal :=
  s.event fun t =>
    if t.waterExpires then
      let u := { t with water := { t.water with source := .stale } }
      if u.effectiveWater = t.effectiveWater then u else u.reevaluate
    else t

/-- A BOOKED record's not-before is within the gathering window now and was outside it at some moment since the last step
of the clock (R130, R139; entry 41). -/
def State.entersWindow (s : State) (now : Int) : Bool :=
  s.book.records.any fun r =>
    r.state == .booked && r.notBefore.any fun t => decide ((t : Int) ≤ now) && !decide ((t : Int) ≤ s.horizon)

/-- SPAN_CLOCK_TICK (R5, R130, R139): the window is tested at each step of the clock. -/
def execSpanClockTick (s : State) : Host.Outcome State Fault Refusal :=
  s.event fun t =>
    let c := (t.clock + 1) % 4294967296
    let now := (c : Int) + t.items.channel.gatherWindow
    let u := { t with clock := c, horizon := now }
    if t.entersWindow now then u.examineJoins else u

end Sys2Proof.Machine
end

