-- ==== Sys2Proof/Machine/Channel.lean ====
section
/-!
DEFINITION. Events of the channel signal unit (chapter 6): signal lamp proving, the beams, the gap timers and CALL_TIME.
In FOLLOW role its heads and beams are out of service (R127).
-/

namespace Sys2Proof.Machine

open Sys2Proof

/-- The entry beam of a direction (R116). -/
def entryBeam : Dir → Beam
  | .inbound => .downstream
  | .outbound => .upstream

/-- The exit beam of a direction (R116). -/
def exitBeam : Dir → Beam
  | .inbound => .upstream
  | .outbound => .downstream

/-- A beam reading. -/
def State.beam (s : State) : Beam → Option Bool
  | .downstream => s.signals.downstream
  | .upstream => s.signals.upstream

/-- The state with a beam reading set. -/
def State.setBeam (s : State) (b : Beam) (broken : Bool) : State :=
  match b with
  | .downstream => { s with signals := { s.signals with downstream := some broken } }
  | .upstream => { s with signals := { s.signals with upstream := some broken } }

/-- The passing record of the call context, while the book holds it in PASSING. -/
def State.passingRec (s : State) : Option Rec :=
  match s.signals.call.passing with
  | some n => (s.findRec n).filter fun r => r.state == .passing
  | none => none

/-- The called vessel enters (R117). -/
def State.enterVessel (s : State) (r : Rec) : State :=
  (s.setRecState r.number .passing).modCall fun c =>
    { c with called := none, callTimer := .stopped, passing := some r.number, exitSeen := false }

/-- A break is attributed (R117): the entry of the called vessel, the exit of the passing one, or an unannounced
vessel. -/
def State.attributeBreak (s : State) (b : Beam) : State :=
  match s.calledRec.filter (fun r => entryBeam r.dir == b), s.passingRec.filter (fun r => exitBeam r.dir == b) with
  | some r, _ => s.enterVessel r
  | none, some _ => s.modCall fun c => { c with exitSeen := true }
  | none, none => s.raise .unannouncedVessel

/-- A passage completes (R118). -/
def State.completePassage (s : State) : State :=
  match s.passingRec with
  | some r =>
    if s.signals.call.exitSeen && s.signals.downstream == some false && s.signals.upstream == some false then
      (s.callEnd r.dir).closeRec r.number .passed
    else s
  | none => s

/-- BEAM_ESTABLISHED (R116): neither a break nor a clear. -/
def execBeamEstablished (beam : Beam) (broken : Bool) (s : State) : Host.Outcome State Fault Refusal :=
  s.event fun t => if t.role != .follow && (t.beam beam).isNone then t.setBeam beam broken else t

/-- BEAM_BREAK (R117). -/
def execBeamBreak (beam : Beam) (s : State) : Host.Outcome State Fault Refusal :=
  s.event fun t =>
    if t.role != .follow && t.beam beam == some false then (t.setBeam beam true).attributeBreak beam else t

/-- BEAM_CLEAR (R118). -/
def execBeamClear (beam : Beam) (s : State) : Host.Outcome State Fault Refusal :=
  s.event fun t =>
    if t.role != .follow && t.beam beam == some true then (t.setBeam beam false).completePassage else t

/-- A direction record with one lamp judged for its aspect (R114). -/
def DirRec.judge (r : DirRec) (c : Colour) (p : Proving) : DirRec :=
  match c with
  | .red => { r with red := r.red.judge (r.aspect.lit .red) p }
  | .amber => { r with amber := r.amber.judge (r.aspect.lit .amber) p }
  | .green => { r with green := r.green.judge (r.aspect.lit .green) p }

/-- SIGNAL_LAMP_PROVING_SPAN (R114, R115). -/
def execSignalLampProvingSpan (dir : Dir) (colour : Colour) (proof : Proving) (s : State) :
    Host.Outcome State Fault Refusal :=
  s.event fun t => if t.role == .follow then t else t.setDirRec dir ((t.dirRec dir).judge colour proof)

/-- GAP_TIMER_EXPIRY (R122); the group list is then examined for a call (R120). -/
def execGapTimerExpiry (dir : Dir) (s : State) : Host.Outcome State Fault Refusal :=
  s.event fun t => t.setGap dir .stopped

/-- CALL_TIME_EXPIRY (R123). -/
def execCallTimeExpiry (s : State) : Host.Outcome State Fault Refusal :=
  s.event fun t =>
    if t.signals.call.callTimer.isRunning then
      match t.calledRec with
      | some r => (t.callEnd r.dir).closeRec r.number .lapsed
      | none => t
    else t

end Sys2Proof.Machine
end

