-- ==== Sys2Proof/Machine/FaultCmds.lean ====
section
/-!
DEFINITION. Commands of the fault unit (chapter 9): SET_MASK, ACK_FAULTS, RESUME_PREPARE, RESUME and the lapse of the
resume-prepare flag.
-/

namespace Sys2Proof.Machine

open Sys2Proof

/-- An accepted SET_MASK (R171). A mask that is set clears the latch, and the condition reads false; a mask that is
cleared lets the settling report the standing cause. -/
def State.setMask (s : State) (f : FaultId) (on : Bool) : State :=
  if on then s.setFault f { cond := false, latch := false, mask := true }
  else s.setFault f { s.fault f with mask := false }

/-- SET_MASK (R171). -/
def execSetMask (st : Station) (fault value : Nat) (s : State) : Host.Outcome State Fault Refusal :=
  s.request st [.maintenance] fun t =>
    match FaultId.ofCode? fault with
    | none => .refuse .badValue
    | some f =>
      if f.cls != .warning || decide (1 < value) then .refuse .badValue else State.ok (t.setMask f (value == 1))

/-- The records with every latch cleared whose condition is false (R172). -/
def State.ackFaults (s : State) : State :=
  { s with faults := { s.faults with recs := s.faults.recs.map fun r => { r with latch := r.latch && r.cond } } }

/-- The number of latches set. -/
def State.latchCount (s : State) : Nat := allFaults.countP s.latched

/-- ACK_FAULTS (R172). -/
def execAckFaults (st : Station) (s : State) : Host.Outcome State Fault Refusal :=
  s.request st [.operator] fun t => .accept t.ackFaults fun _ => be32 t.ackFaults.latchCount

/-- RESUME_PREPARE (R175). It alone of the permitted non-read requests does not clear the flag (R176). -/
def execResumePrepare (st : Station) (s : State) : Host.Outcome State Fault Refusal :=
  let t := s.wake
  .next
    (if st == .operator then
      t.answer
        (if t.faults.halted then State.ok { t with faults := { t.faults with prepare := true, lapse := .running 5000 } }
         else .refuse .wrongState)
    else t.clearPrepare.respond .notPermitted [])

/-- The checks of R177 in their order, on the state as the request finds it. -/
def State.resumeRefusal (s : State) : Option Result :=
  if !s.faults.halted then some .wrongState
  else if !s.faults.prepare then some .sequence
  else if haltFaults.any fun f => (s.fault f).latch || (s.fault f).cond then some .halted
  else none

/-- The motion supervisor at the end of a span halt (R83); with no seat reading the leaf is taken as off its seat (entry
20). -/
def State.resumeMotion (s : State) : State :=
  s.modMotion fun m => { m with state := if s.pos.seat == some true then s.seatedState else .stopped }

/-- The end of a span halt, with each block's effect (R178); the suspension ends in the settling (R145). -/
def State.endHalt (s : State) : State :=
  let t := { s with faults := { s.faults with halted := false } }
  let u := t.resumeMotion.onUsedAps fun x a => a.resume x
  { u with link := { u.link with toneTimer := .stopped } }

/-- RESUME (R177, R178): the flag is judged as the request finds it, and cleared whatever the outcome. -/
def execResume (st : Station) (s : State) : Host.Outcome State Fault Refusal :=
  let t := s.wake
  let u := t.clearPrepare
  .next
    (if st == .operator then
      u.answer (match t.resumeRefusal with
        | some r => .refuse r
        | none => State.ok u.endHalt)
    else u.respond .notPermitted [])

/-- RESUME_PREPARE_LAPSE (R176). -/
def execResumePrepareLapse (s : State) : Host.Outcome State Fault Refusal :=
  s.event fun t => if t.faults.lapse.isRunning then t.clearPrepare else t

end Sys2Proof.Machine
end

