-- ==== Sys2Proof/Machine/Leaf.lean ====
section
/-!
DEFINITION. Commands of the position unit, the motion supervisor and the lock unit (chapters 3 and 4): track, mark, speed
and seat events, the drive lines, creep, teach, recovery, stop, and the locks.
-/

namespace Sys2Proof.Machine

open Sys2Proof

/-! ### Distance-coded marks (R40, R41) -/

/-- The position of even mark 2j (R40). -/
def evenMark (j : Nat) : Int := 4000 * j

/-- The position of odd mark 2j+1 (R40). -/
def oddMark (j : Nat) : Int := 4000 * j + 1000 + 40 * j

/-- A gap decodes as type A (`true`) or type B of some j, within 8 counts (R41). -/
def decodeGap (g : Int) : Option (Bool × Nat) :=
  match (List.range 24).find? fun (j : Nat) => decide ((g - (1000 + 40 * (j : Int))).natAbs ≤ 8) with
  | some j => some (true, j)
  | none => ((List.range 24).find? fun (j : Nat) => decide ((g - (3000 - 40 * (j : Int))).natAbs ≤ 8)).map fun j => (false, j)

/-- The decoded position of a pair (R41). -/
def decodedPosition (way : Way) (typeA : Bool) (j : Nat) : Int :=
  match way, typeA with
  | .up, true => oddMark j
  | .up, false => evenMark (j + 1)
  | .down, true => evenMark j
  | .down, false => oddMark j

/-- A coded position lies within 16 counts (R48). A count up to 16 outside the scale passes at 0 and at 96000, against the
rule's later sentence (entry 50). -/
def nearMark (count : Int) : Bool :=
  ((List.range 25).any fun (j : Nat) => decide ((count - evenMark j).natAbs ≤ 16)) ||
    (List.range 24).any fun (j : Nat) => decide ((count - oddMark j).natAbs ≤ 16)

/-- A counted change of the quadrature pair (R37); a reversal forgets the first mark (R44). -/
def Track.count (t : Track) (way : Way) : Track :=
  let reversal := t.travel.any (· != way)
  let u : Track :=
    if reversal then
      { t with firstMark := none, ref := if t.ref == .oneMark then .unreferenced else t.ref }
    else t
  match way with
  | .up => { u with counter := wrap32 (t.counter + 1), travel := some .up, pair := t.pair + 1 }
  | .down => { u with counter := wrap32 (t.counter - 1), travel := some .down, pair := t.pair - 1 }

/-- What a mark event does to a channel whose sensor fault line is inactive (R43, R45 to R48): the channel after it, and
whether REFERENCE_MISMATCH is live. -/
def Track.mark (t : Track) (way : Way) : Track × Bool :=
  let here : FirstMark := { count := t.counter, way := way }
  match t.ref, t.firstMark with
  | .referenced, _ => if nearMark t.counter then (t, false) else (t.unref, true)
  | .unreferenced, _ => ({ t with ref := .oneMark, firstMark := some here }, false)
  | .oneMark, none | .preset, none => ({ t with firstMark := some here }, false)
  | .oneMark, some m =>
    match decodeGap (match way with | .up => t.counter - m.count | .down => m.count - t.counter) with
    | none => ({ t with firstMark := some here }, false)
    | some (a, j) =>
      ({ t.setCounter (decodedPosition way a j) with ref := .referenced, firstMark := none, failed := false }, false)
  | .preset, some m =>
    match decodeGap (match way with | .up => t.counter - m.count | .down => m.count - t.counter) with
    | none => ({ t with firstMark := some here }, false)
    | some (a, j) =>
      if (t.counter - decodedPosition way a j).natAbs ≤ 16 then
        ({ t.setCounter (decodedPosition way a j) with ref := .referenced, firstMark := none }, false)
      else (t.unref, true)

/-- The end of a channel's 100 ms window (R39). The difference is that of the plain values, also where the counter has
wrapped in the window (entry 43). -/
def Track.windowEnd (t : Track) : Track :=
  { t with speed := 10 * (t.counter - t.windowStart), windowStart := t.counter }

/-! ### Track and seat events -/

/-- TRACK_COUNT (R37, R52); a channel with its sensor fault line active does not count (R38). -/
def execTrackCount (ch : Channel) (way : Way) (s : State) : Host.Outcome State Fault Refusal :=
  s.event fun t =>
    if (t.track ch).sensorFault then t else (t.setTrack ch ((t.track ch).count way)).compareTracks

/-- ILLEGAL_TRANSITION (R38): a track error, the counter and the travel direction kept, the pair taken as it stands. While
the sensor fault line is active it is ignored (entry 34). -/
def execIllegalTransition (ch : Channel) (s : State) : Host.Outcome State Fault Refusal :=
  s.event fun t =>
    if (t.track ch).sensorFault then t
    else (t.setTrack ch { t.track ch with pair := (t.track ch).pair + 2 }).trackError ch

/-- SENSOR_FAULT_ACTIVE (R38, R53, R54). -/
def execSensorFaultActive (ch : Channel) (s : State) : Host.Outcome State Fault Refusal :=
  s.event fun t =>
    if (t.track ch).sensorFault then t
    else (t.setTrack ch { t.track ch with sensorFault := true }).trackError ch

/-- SENSOR_FAULT_INACTIVE (R38): the channel counts again from the combination then on the pair. -/
def execSensorFaultInactive (ch : Channel) (pair : Fin 4) (s : State) : Host.Outcome State Fault Refusal :=
  s.event fun t =>
    if (t.track ch).sensorFault then t.setTrack ch { t.track ch with sensorFault := false, pair := pair } else t

/-- MARK_EVENT (R42 to R48, R55): ignored while the sensor fault line is active or no travel direction is held. The
counters are compared where the mark set the counter or gave the channel a position (R52). -/
def execMarkEvent (ch : Channel) (s : State) : Host.Outcome State Fault Refusal :=
  s.event fun t =>
    if (t.track ch).sensorFault then t
    else
      match (t.track ch).travel with
      | none => t
      | some way =>
        let r := (t.track ch).mark way
        let u := (t.setTrack ch r.1).fixSource
        if r.2 then u.raise .referenceMismatch
        else if r.1.counter == (t.track ch).counter && r.1.holds == (t.track ch).holds then u
        else u.compareTracks

/-- SPEED_WINDOW_END (R39, R69). -/
def execSpeedWindowEnd (ch : Channel) (s : State) : Host.Outcome State Fault Refusal :=
  s.event fun t => t.setTrack ch (t.track ch).windowEnd

/-- The motion state is set from a reading established at SEATED, whatever motion has begun before it, but in span halt
(R62, R82; entry 57). -/
def State.seatFromReading (s : State) : State :=
  if s.motion.state == .halted then s
  else s.modMotion fun m => { m with state := s.seatedState, kind := .none, correction := false }

/-- SEAT_SWITCH_ESTABLISHED (R50, R62). A motion can have begun before it, since R63 to R65 and R80 do not ask for the reading:
NOT_SEATED leaves it running (entry 57). -/
def execSeatSwitchEstablished (seated : Bool) (s : State) : Host.Outcome State Fault Refusal :=
  s.event fun t =>
    if t.pos.seat.isSome then t
    else
      let u := { t with pos := { t.pos with seat := some seated } }
      if seated then (u.presetWhere fun _ => true).seatFromReading else u

/-- A seating (R51, R65): the channels are preset whatever the motion state, and a LOWERING, SEAT_APPROACH or STOPPED
leaf ends its motion. The preset and the comparison of R52 come first, so a disagreement aborts a teach (entry 37). -/
def State.seating (s : State) : State :=
  let u := ({ s with pos := { s.pos with seat := some true } }).presetUnreferenced
  match u.motion.state with
  | .lowering | .seatApproach | .stopped => u.endAtSeat
  | _ => u

/-- The debounced seat reading goes from SEATED to NOT_SEATED (R62): a seated leaf with no motion commanded is
STOPPED. -/
def State.unseating (s : State) : State :=
  let u := { s with pos := { s.pos with seat := some false } }
  if u.isSeated then u.modMotion fun m => { m with state := .stopped } else u

/-- SEAT_SWITCH_CHANGE (R49, R51, R62, R65). -/
def execSeatSwitchChange (seated : Bool) (s : State) : Host.Outcome State Fault Refusal :=
  s.event fun t =>
    match t.pos.seat, seated with
    | some false, true => t.seating
    | some true, false => t.unseating
    | _, _ => t

/-! ### Drive and other lines -/

/-- The state with its field lines changed. -/
def State.modLines (s : State) (f : Lines → Lines) : State := { s with lines := f s.lines }

/-- DRIVE_READY_CHANGE (R58). -/
def execDriveReadyChange (active : Bool) (s : State) : Host.Outcome State Fault Refusal :=
  s.event fun t => t.modLines fun l => { l with driveReady := active }

/-- DRIVE_FAULT_CHANGE (R58). -/
def execDriveFaultChange (active : Bool) (s : State) : Host.Outcome State Fault Refusal :=
  s.event fun t => t.modLines fun l => { l with driveFault := active }

/-- OPEN_LIMIT_CHANGE (R33, R194). -/
def execOpenLimitChange (active : Bool) (s : State) : Host.Outcome State Fault Refusal :=
  s.event fun t => t.modLines fun l => { l with openLimit := active }

/-- EMERGENCY_STOP_CHANGE (R169). -/
def execEmergencyStopChange (active : Bool) (s : State) : Host.Outcome State Fault Refusal :=
  s.event fun t => t.modLines fun l => { l with emergencyStop := active }

/-- KEY_CHANGE (R187): the debounced KEY reading is established or changes. -/
def execKeyChange (on : Bool) (s : State) : Host.Outcome State Fault Refusal :=
  s.event fun t => t.modLines fun l => { l with key := some on }

/-! ### Lock events -/

/-- LOCK_LIMITS_ESTABLISHED (R74); a FOLLOW's TOE inputs are ignored. -/
def execLockLimitsEstablished (l : LockId) (withdrawn driven : Bool) (s : State) :
    Host.Outcome State Fault Refusal :=
  s.event fun t =>
    if t.ownsLock l then
      t.modLock l fun k => if k.limits.isSome then k else k.establish { withdrawn := withdrawn, driven := driven }
    else t

/-- LOCK_LIMIT_CHANGE (R77). -/
def execLockLimitChange (l : LockId) (withdrawn driven : Bool) (s : State) : Host.Outcome State Fault Refusal :=
  s.event fun t =>
    if t.ownsLock l then
      t.modLock l fun k => if k.limits.isSome then k.limitChange { withdrawn := withdrawn, driven := driven } else k
    else t

/-- LOCK_TIME_EXPIRY (R77). -/
def execLockTimeExpiry (l : LockId) (s : State) : Host.Outcome State Fault Refusal :=
  s.event fun t =>
    t.modLock l fun k => if k.timer.isRunning then { k with state := .jammed, timer := .stopped } else k

/-! ### Leaf requests -/

/-- ENTER_CREEP (R72). -/
def execEnterCreep (st : Station) (s : State) : Host.Outcome State Fault Refusal :=
  s.request st [.maintenance] fun t => if t.stationary then State.ok (t.setCreep true) else .refuse .wrongState

/-- The five faults that keep the leaf in creep (R73). -/
def trackFaults : List FaultId := [.trackErrorP, .trackErrorC, .referenceMismatch, .trackDisagree, .noPosition]

/-- LEAVE_CREEP (R73). -/
def execLeaveCreep (st : Station) (s : State) : Host.Outcome State Fault Refusal :=
  s.request st [.maintenance] fun t =>
    if t.stationary && t.pos.p.ref == .referenced && t.pos.c.ref == .referenced && !trackFaults.any t.latched then
      State.ok (t.setCreep false)
    else .refuse .wrongState

/-- The tests of a teach after store-busy (R78). -/
def State.teachRefusal (s : State) : Option Result :=
  if !s.phaseIdle || s.motion.state != .seatedFree || !s.allUsedAps (· == .closed) || !s.permitOK ||
      !s.lines.driveReady then some .wrongState
  else if s.pos.p.ref != .referenced then some .notReferenced
  else none

/-- An accepted teach (R79). -/
def State.startTeach (s : State) : State :=
  s.modMotion fun m =>
    { m with teachResult := .none, teachCandidate := none, teachStep := .raising, kind := .teach, state := .raising }

/-- TEACH_SEAT (R78, R79). -/
def execTeachSeat (st : Station) (s : State) : Host.Outcome State Fault Refusal :=
  s.request st [.maintenance] fun t =>
    if t.storeBusy then .refuse .storeBusy
    else
      match t.teachRefusal with
      | some r => .refuse r
      | none => State.ok t.startTeach

/-- TEACH_PRESS (R78): noticed outside the 3 s lockout, honoured with KEY on and the store not busy, and tested like
TEACH_SEAT. -/
def execTeachPress (s : State) : Host.Outcome State Fault Refusal :=
  s.event fun t =>
    if t.motion.teachLockout.isRunning then t
    else
      let u := t.modMotion fun m => { m with teachLockout := .running 3000 }
      if u.keyOn && !u.storeBusy && u.teachRefusal.isNone then u.startTeach else u

/-- TEACH_LOCKOUT_EXPIRY (R78). -/
def execTeachLockoutExpiry (s : State) : Host.Outcome State Fault Refusal :=
  s.event fun t => t.modMotion fun m => { m with teachLockout := .stopped }

/-- The phase lets a FOLLOW's leaf be recovered (R80, check 3). -/
def recoverPhase : Phase → Bool
  | .lowering | .locking | .idle => true
  | _ => false

/-- What an accepted RECOVER_LOWER does to the opening (R147). In FOLLOW role it ends a suspension, and the step of the
phase then held is given (R148, R149). In LOCKING and REOPENING_ROAD no step is given again (entry 40). -/
def State.recoverOpening (s : State) : State :=
  if s.role == .follow then (if s.opening.suspended then s.clearSuspension.giveStep else s)
  else
    match s.opening.phase with
    | .unlocking | .raising | .heldOpen | .lowering =>
      ((s.returnAll.clearSuspension).modOpening fun o => { o with closeRequested := false, linger := .stopped }).setPhase
        .lowering
    | .pending | .closingRoad => (s.returnAll.clearSuspension).giveStep
    | .locking | .reopeningRoad => s.clearSuspension
    | .idle => s

/-- RECOVER_LOWER (R80, R147). -/
def execRecoverLower (st : Station) (s : State) : Host.Outcome State Fault Refusal :=
  s.request st [.operator] fun t =>
    if t.faults.halted then .refuse .halted
    else if t.motion.state != .stopped || !t.apPermits .a || !t.apPermits .b || !t.freshOrSole || !t.lines.driveReady then
      .refuse .wrongState
    else if t.role == .follow && !recoverPhase t.opening.phase then .refuse .wrongState
    else if t.role != .follow && t.anyRec .passing then .refuse .inPassage
    else State.ok (t.recoverOpening.startDown .recovery)

/-- STOP_SPAN (R81). -/
def execStopSpan (st : Station) (s : State) : Host.Outcome State Fault Refusal :=
  s.request st [.operator] fun t => State.ok (t.raise .operatorStop)

end Sys2Proof.Machine
end

