-- ==== Sys2Proof/Machine/LinkCmds.lean ====
section
/-!
DEFINITION. Events of the span link (chapter 8): the frame as sent and as received, the turns on the line, the halt tone,
freshness, and the FOLLOW's mirror of the LEAD's opening (R148, R149).
-/

namespace Sys2Proof.Machine

open Sys2Proof

/-! ### The STATUS frame as sent (R152, R154, section 11.5) -/

/-- A byte from bits, least significant first. -/
def flagsByte (bits : List Bool) : Nat := bits.foldr (fun b n => (if b then 1 else 0) + 2 * n) 0

/-- The seat switch code of a STATUS body: 0 absent, 1 SEATED, 2 NOT_SEATED. -/
def seatCode : Option Bool → Nat
  | none => 0
  | some true => 1
  | some false => 2

/-- The run direction code of a STATUS body: 0 absent, 1 INBOUND, 2 OUTBOUND. -/
def runCode : Option Dir → Nat
  | none => 0
  | some .inbound => 1
  | some .outbound => 2

namespace State

/-- The halt cause of a STATUS frame: a HALT latch or condition other than PARTNER_HALT (R154). -/
def haltCause (s : State) : Bool :=
  haltFaults.any fun f => f != .partnerHalt && ((s.fault f).latch || (s.fault f).cond)

/-- The fields of R154 as the state stands. -/
def statusView (s : State) : PartnerView :=
  { angle := s.angle, speed := saturate (-32767) 32767 s.speed, motion := s.motion.state.code,
    closure := s.apA.closure.code, phase := s.opening.phase.code, creep := s.motion.creep,
    closed := s.apA.closure == .closed, withdrawn := s.ownedLocksAre .withdrawn,
    holding := s.motion.state == .holding, seated := s.isSeated, locked := s.motion.state == .seatedLocked,
    haltActive := s.faults.halted, haltCause := s.haltCause, seat := seatCode s.pos.seat,
    runDir := runCode s.opening.runDir, holdActive := s.holdSummary, target := s.opening.target,
    number := s.opening.number }

end State

/-- The 14 bytes of a STATUS body (section 11.5). -/
def PartnerView.body (v : PartnerView) : List Byte :=
  be16 v.angle ++ be16 v.speed ++ u8 v.motion ++ u8 v.closure ++ u8 v.phase ++
    u8 (flagsByte [v.creep, v.closed, v.withdrawn, v.holding, v.seated, v.locked, v.haltActive, v.haltCause]) ++
    u8 v.seat ++ u8 (v.runDir + if v.holdActive then 128 else 0) ++ optAngle v.target ++ be16 v.number

/-- The sender role byte of a header (section 11.5). -/
def senderCode : Role → Nat
  | .lead => 1
  | .follow => 2
  | .sole => 0

/-- Two bytes of a CRC, high byte first (R152). -/
def crcBytes (bs : List Byte) : List Byte := be16 ((crc16 bs).toNat : Nat)

/-- The preamble: 16 bits of alternating value (R152); which value comes first is open (entry 25). -/
def preamble : List Byte := if Config.preambleHigh then [0xAA, 0xAA] else [0x55, 0x55]

/-- The start delimiter (section 11.5). -/
def delimiter : Byte := 0xA7

/-- The 24 bytes of a frame as it is sent, from its preamble to its CRC (R152, R154). -/
def State.statusFrame (s : State) : List Byte :=
  let b := u8 1 ++ u8 (senderCode s.role) ++ be16 s.items.link.bridgeId ++ u8 14 ++ s.statusView.body
  preamble ++ [delimiter] ++ b ++ crcBytes b

/-! ### The frame as received (R152, R153) -/

/-- A received frame: its header fields and its body. -/
structure Frame where
  kind : Nat
  sender : Nat
  bridge : Nat
  body : List Byte
  deriving DecidableEq, Repr

/-- What follows the start delimiter in the bytes of a receive; a receive that never finds one has nothing (R152; entry
25). -/
def afterDelimiter (bs : List Byte) : List Byte := (bs.dropWhile (· != delimiter)).drop 1

/-- The frame that the bytes after a start delimiter yield (R152): whole, with a body of 48 bytes at most, and a matching CRC. A
frame whose CRC does not match is discarded like no frame at all (R153). -/
def Frame.ofBytes? (bs : List Byte) : Option Frame :=
  match bs with
  | k :: r :: i1 :: i0 :: n :: rest =>
    let len := n.toNat
    let head := bs.take (5 + len)
    if len ≤ 48 && rest.length = len + 2 && crcBytes head == rest.drop len then
      some { kind := k.toNat, sender := r.toNat, bridge := beNat [i1, i0], body := rest.take len }
    else none
  | _ => none

/-- A bit of a byte. -/
def bitOf (b : Byte) (n : Nat) : Bool := b.toNat.testBit n

/-- An angle field of a STATUS body, 0x8000 being absent (R193). -/
def angleOf (hi lo : Byte) : Option Int := if beNat [hi, lo] = 0x8000 then none else some (beInt16 [hi, lo])

/-- The fields of a 14-byte STATUS body (section 11.5). -/
def PartnerView.ofBody? : List Byte → Option PartnerView
  | [a1, a0, v1, v0, m, c, p, f, st, r, t1, t0, n1, n0] =>
    some { angle := beInt16 [a1, a0], speed := beInt16 [v1, v0], motion := m.toNat, closure := c.toNat,
           phase := p.toNat, creep := bitOf f 0, closed := bitOf f 1, withdrawn := bitOf f 2, holding := bitOf f 3,
           seated := bitOf f 4, locked := bitOf f 5, haltActive := bitOf f 6, haltCause := bitOf f 7,
           seat := st.toNat, runDir := r.toNat % 4, holdActive := bitOf r 7, target := angleOf t1 t0,
           number := beNat [n1, n0] }
  | _ => none

/-- The outcome of a received frame (R153). -/
inductive Sorted
  | accepted (v : PartnerView)
  | mismatched
  | discarded
  deriving DecidableEq, Repr

/-- What a receive brought is sorted (R153). -/
def State.sortFrame (s : State) (bs : List Byte) : Sorted :=
  match Frame.ofBytes? (afterDelimiter bs) with
  | none => .discarded
  | some f =>
    if (f.bridge : Int) ≠ s.items.link.bridgeId || f.sender ≠ senderCode (if s.role = .lead then .follow else .lead) then
      .mismatched
    else
      match f.kind, PartnerView.ofBody? f.body with
      | 1, some v => .accepted v
      | _, _ => .discarded

namespace State

/-- The state with its link record changed. -/
def modLink (s : State) (f : Link → Link) : State := { s with link := f s.link }

/-! ### The mirror (R148, R149) -/

/-- The phase a code of a frame stands for; a code outside the list is a free value (entry 12). -/
def mirrorPhase (n : Nat) : Phase := (Phase.ofCode? n).getD (Config.undecodedPhase n)

/-- The run direction a code of a frame stands for; the code 3 is a free value (entry 12). -/
def mirrorRun : Nat → Option Dir
  | 0 => none
  | 1 => some .inbound
  | 2 => some .outbound
  | _ => some (if Config.undecodedRunInbound then .inbound else .outbound)

/-- The mirror takes a frame's phase, target, opening number and run direction; at a change of phase a FOLLOW that is
not suspended gives the step of the phase (R148), also in a span halt that found its mirror IDLE (entry 38). -/
def mirror (s : State) (v : PartnerView) : State :=
  let t := s.modOpening fun o => { o with target := v.target, number := v.number, runDir := mirrorRun v.runDir }
  let p := mirrorPhase v.phase
  if p == s.opening.phase then t
  else if s.opening.suspended then t.setPhase p
  else (t.setPhase p).giveStep

/-- An accepted frame writes the partner view (R153, R161, R162); a FOLLOW takes the mirror and starts its reply timer
(R148, R157). -/
def acceptFrame (s : State) (v : PartnerView) : State :=
  let t := s.modLink fun l =>
    { l with paired := true, view := some v, age := 0, mismatch := 0,
             freshness := .running s.items.link.linkTimeout.toNat }
  if s.role == .follow then (t.modLink fun l => { l with reply := .running 2 }).mirror v else t

/-- A frame is taken in (R153). -/
def takeFrame (s : State) (bs : List Byte) : State :=
  match s.sortFrame bs with
  | .accepted v => s.acceptFrame v
  | .mismatched => s.modLink fun l => { l with mismatch := min 3 (l.mismatch + 1) }
  | .discarded => s

/-- A transmission falls due: sent from QUIET, else withdrawn (R155). -/
def transmit (s : State) : State :=
  if s.link.buffer == .quiet then s.modLink fun l => { l with buffer := .preamble, txFrame := s.statusFrame } else s

end State

/-! ### Events -/

/-- LEAD_PERIOD (R155, R156). -/
def execLeadPeriod (s : State) : Host.Outcome State Fault Refusal :=
  s.event fun t =>
    if t.role == .lead then (t.modLink fun l => { l with period := .running 50 }).transmit else t

/-- REPLY_TIMER_EXPIRY (R155, R157). -/
def execReplyTimerExpiry (s : State) : Host.Outcome State Fault Refusal :=
  s.event fun t =>
    if t.role == .follow && t.link.reply.isRunning then (t.modLink fun l => { l with reply := .stopped }).transmit
    else t

/-- RECEIVE_START (R152, R155): on a quiet line; a part in SOLE role ignores its receiver (R151). In a receive in progress it
stands for the line's return to frame bits, after which another tone can be recognised (R159; entry 25). -/
def execReceiveStart (s : State) : Host.Outcome State Fault Refusal :=
  s.event fun t =>
    if t.twin && (t.link.buffer == .quiet || t.link.buffer == .receiving) then
      t.modLink fun l => { l with buffer := .receiving, toneHeard := false }
    else t

/-- RECEIVE_END (R152, R153, R155): the bytes are those the receiver took from the line, its start delimiter among them
where it found one, to the last CRC byte or short of it (entry 25). -/
def execReceiveEnd (bytes : List Byte) (lineActive : Bool) (s : State) : Host.Outcome State Fault Refusal :=
  s.event fun t =>
    if t.twin && t.link.buffer == .receiving then
      (t.modLink fun l =>
        { l with buffer := if lineActive then .receiving else .quiet, toneHeard := false }).takeFrame bytes
    else t

/-- PREAMBLE_END (R155). -/
def execPreambleEnd (s : State) : Host.Outcome State Fault Refusal :=
  s.event fun t => if t.link.buffer == .preamble then t.modLink fun l => { l with buffer := .sending } else t

/-- PREAMBLE_ABANDON (R157): the partner's start delimiter is found during the own preamble. -/
def execPreambleAbandon (s : State) : Host.Outcome State Fault Refusal :=
  s.event fun t =>
    if t.link.buffer == .preamble then
      t.modLink fun l => { l with buffer := .receiving, txFrame := [], toneHeard := false }
    else t

/-- SEND_END (R155). -/
def execSendEnd (s : State) : Host.Outcome State Fault Refusal :=
  s.event fun t =>
    if t.link.buffer == .sending then t.modLink fun l => { l with buffer := .quiet, txFrame := [] } else t

/-- TONE_REPEAT (R158). -/
def execToneRepeat (s : State) : Host.Outcome State Fault Refusal :=
  s.event fun t => if t.faults.halted && t.link.toneTimer.isRunning then t.startTone else t

/-- TONE_END (R155, R158). -/
def execToneEnd (s : State) : Host.Outcome State Fault Refusal :=
  s.event fun t =>
    if t.link.buffer == .tone then t.modLink fun l => { l with buffer := .quiet, toneLength := .stopped } else t

/-- HALT_TONE_RECOGNISED (R159, R160): one tone gives one recognition, and another follows only where the line went quiet or
back to frame bits in between (RECEIVE_END, RECEIVE_START). It is no news from a partner whose fresh frame shows halt
active. -/
def execHaltToneRecognised (s : State) : Host.Outcome State Fault Refusal :=
  s.event fun t =>
    if t.twin && t.link.buffer == .receiving && !t.link.toneHeard then
      let u := t.modLink fun l => { l with toneHeard := true }
      if u.freshView.any (·.haltActive) then u else u.raise .partnerHalt
    else t

/-- FRESHNESS_EXPIRY (R162, R163): BRAKE_RELEASE is tested as it stood. -/
def execFreshnessExpiry (s : State) : Host.Outcome State Fault Refusal :=
  s.event fun t =>
    if t.twin && t.link.freshness.isRunning then
      let u := t.modLink fun l => { l with freshness := .stopped, paired := false }
      if t.motion.brakeRelease && t.link.startup == .expired then u.raise .partnerStaleMoving else u
    else t

/-- STARTUP_WAIT_END (R163). -/
def execStartupWaitEnd (s : State) : Host.Outcome State Fault Refusal :=
  s.event fun t =>
    if t.twin && t.link.startup.isRunning then t.modLink fun l => { l with startup := .expired } else t

end Sys2Proof.Machine
end

