-- ==== Sys2Proof/Machine/OpeningCmds.lean ====
section
/-!
DEFINITION. Commands of the opening sequencer (chapter 7): OPEN, CLOSE_NOW, ABORT_OPENING, CONTINUE, and the expiries of
the linger timer, the road interval and the settle interval.
-/

namespace Sys2Proof.Machine

open Sys2Proof

/-- The checks of R132 in their order, giving the passage numbers to be taken. -/
def State.judgeOpen (s : State) : Except Result (List Nat) :=
  if s.role == .follow then .error .notLead
  else if s.opening.phase != .idle then .error .wrongState
  else if s.faults.halted then .error .halted
  else if (s.fault .unconfigured).cond then .error .unconfigured
  else if s.motion.state != .seatedLocked then .error .wrongState
  else if !s.freshOrSole then .error .wrongState
  else
    match s.taken none with
    | [] => .error .noPassages
    | ns => .ok ns

/-- The opening number after one, wrapping from 65535 to 1 (R128). -/
def nextOpening (n : Nat) : Nat := if n ≥ 65535 then 1 else n + 1

/-- The direction of the first record of a group list (R132). -/
def State.runOf (s : State) (ns : List Nat) : Option Dir := (ns.head?.bind s.findRec).map (·.dir)

/-- An accepted OPEN, standing in PENDING (R132); the start test follows in the settling. -/
def State.startOpening (s : State) (ns : List Nat) : State :=
  let t := (s.groupThem ns).modOpening fun o =>
    { o with number := nextOpening o.number, creditUsed := false, runDir := s.runOf (s.opening.group ++ ns), frozen := false }
  (t.setPhase .pending).recomputeTarget

/-- OPEN (R132, R133). -/
def execOpenSpan (st : Station) (s : State) : Host.Outcome State Fault Refusal :=
  s.request st [.operator] fun t =>
    match t.judgeOpen with
    | .error r => .refuse r
    | .ok ns =>
      .accept (t.startOpening ns) fun u =>
        be16 u.opening.number ++ optAngle u.opening.target ++ u8 u.opening.phase.code

/-- CLOSE_NOW (R142). -/
def execCloseNow (st : Station) (s : State) : Host.Outcome State Fault Refusal :=
  s.request st [.operator] fun t =>
    if t.role == .follow then .refuse .notLead
    else if t.opening.phase != .heldOpen then .refuse .wrongState
    else State.ok (t.returnAll.modOpening fun o => { o with closeRequested := true, linger := .stopped })

/-- An accepted ABORT_OPENING (R143). -/
def State.abortOpening (s : State) : State :=
  if s.opening.phase == .pending then s.returnAll.endPending
  else
    (((s.returnAll.clearSuspension).modOpening fun o => { o with target := none }).enterPhase .reopeningRoad)

/-- ABORT_OPENING (R143). -/
def execAbortOpening (st : Station) (s : State) : Host.Outcome State Fault Refusal :=
  s.request st [.operator] fun t =>
    if t.role == .follow then .refuse .notLead
    else if t.faults.halted then .refuse .halted
    else if t.opening.phase != .pending && t.opening.phase != .closingRoad then .refuse .wrongState
    else State.ok t.abortOpening

/-- The phases that CONTINUE returns to, and the command of each (R146). -/
def continueCommand : Phase → Option SeqCmd
  | .raising => some .raise
  | .heldOpen => some .hold
  | .lowering => some .lower
  | _ => none

/-- The checks of R146 in their order. -/
def State.continueRefusal (s : State) : Option Result :=
  if s.faults.halted then some .halted
  else if !s.opening.suspended || s.motion.state != .stopped ||
      !s.opening.resumePoint.any (fun p => (continueCommand p).isSome) then some .wrongState
  else if s.pos.source == .c || s.motion.creep || !s.freshOrSole then some .wrongState
  else if s.pos.p.ref != .referenced then some .notReferenced
  else none

/-- An accepted CONTINUE (R146); a FOLLOW keeps the phase that it mirrors and gives that phase's command (R149). -/
def State.continueOpening (s : State) : State :=
  let t := s.clearSuspension
  let u := if s.role == .follow then t else t.setPhase (s.opening.resumePoint.getD s.opening.phase)
  match continueCommand u.opening.phase with
  | some c => u.order c
  | none => u.giveStep

/-- CONTINUE (R146). -/
def execContinueOpening (st : Station) (s : State) : Host.Outcome State Fault Refusal :=
  s.request st [.operator] fun t =>
    match t.continueRefusal with
    | some r => .refuse r
    | none => State.ok t.continueOpening

/-- LINGER_EXPIRY (R141). -/
def execLingerExpiry (s : State) : Host.Outcome State Fault Refusal :=
  s.event fun t =>
    if t.opening.linger.isRunning then t.modOpening fun o => { o with linger := .expired } else t

/-- ROAD_INTERVAL_EXPIRY (R134). -/
def execRoadIntervalExpiry (s : State) : Host.Outcome State Fault Refusal :=
  s.event fun t => if t.opening.interval == .running then t.intervalElapses else t

/-- SETTLE_INTERVAL_EXPIRY (R133, R185). The timer is then stopped (entry 48). -/
def execSettleIntervalExpiry (s : State) : Host.Outcome State Fault Refusal :=
  s.event fun t => t.modOpening fun o => { o with settle := .stopped }

end Sys2Proof.Machine
end

