-- ==== Sys2Proof/Decode.lean ====
section
/-!
DEFINITION. The two decoders: of a table word (spec/opcode_table.json gives no row any bits, so no word spells a command),
and of a request frame of the port (R190), whose codes and parameters the manual does give.
-/

namespace Sys2Proof

/-- The command that a table word spells: none, since the table gives no row any bits. -/
def decodeTableWord (_nbits _w : Nat) : Option Instr := none

end Sys2Proof

namespace Sys2Proof.Machine

open Sys2Proof

/-! ### Parameters (R190, R193) -/

/-- The station of a byte (R190). -/
def stationOf? : Nat → Option Station
  | 1 => some .operator
  | 2 => some .harbour
  | 3 => some .maintenance
  | _ => none

/-- Two parameter bytes as an unsigned value. -/
def word2 (a b : Byte) : Nat := beNat [a, b]

/-- Two parameter bytes as a signed value. -/
def sint2 (a b : Byte) : Int := beInt16 [a, b]

/-- Four parameter bytes as an unsigned value. -/
def word4 (a b c d : Byte) : Nat := beNat [a, b, c, d]

/-- The breakpoints of a clearance table, four bytes each. -/
def breakpointsOf? : List Byte → Option (List (Int × Int))
  | [] => some []
  | a :: b :: c :: d :: rest => (breakpointsOf? rest).map fun t => (sint2 a b, sint2 c d) :: t
  | _ => none

/-- The bands of an envelope, seven bytes each. -/
def bandsOf? : List Byte → Option (List RawBand)
  | [] => some []
  | a :: b :: c :: d :: e :: f :: k :: rest =>
    (bandsOf? rest).map fun t =>
      { upper := sint2 a b, upLimit := word2 c d, downLimit := word2 e f, cls := k.toNat } :: t
  | _ => none

/-- A numeric setting of a width and sign (R193). -/
def settingOf? (width : Nat) (signed : Bool) : List Byte → Option SettingValue
  | [a] => if width = 1 then some (.num a.toNat) else none
  | [a, b] => if width = 2 then some (.num (if signed then sint2 a b else word2 a b)) else none
  | [a, b, c, d] => if width = 4 then some (.num (beInt32 [a, b, c, d])) else none
  | _ => none

/-- The value of WRITE_SETTING for an item number; of a number that names no item nothing is asked, since the owning rule
refuses it (R184; entry 13). -/
def valueOf? (item : Nat) (bs : List Byte) : Option SettingValue :=
  match Item.ofNumber? item with
  | none => some (.num 0)
  | some .table =>
    match bs with
    | n :: rest => ((breakpointsOf? rest).filter fun t => t.length == n.toNat).map .table
    | [] => none
  | some .bands =>
    match bs with
    | n :: rest => ((bandsOf? rest).filter fun t => t.length == n.toNat).map .bands
    | [] => none
  | some i => settingOf? i.width i.signed bs

/-- A BOOK's parameters (R7, R190): the not-before has a presence flag, and its value follows where the flag is 1. -/
def bookOf? (st : Station) : List Byte → Option Instr
  | [v1, v2, v3, v4, d, a1, a0, p, 1, n1, n2, n3, n4, f1, f0] =>
    some (.book st (word4 v1 v2 v3 v4) d.toNat (sint2 a1 a0) p.toNat ⟨1, word4 n1 n2 n3 n4⟩ (word2 f1 f0))
  | [v1, v2, v3, v4, d, a1, a0, p, nb, f1, f0] =>
    if nb.toNat = 1 then none
    else some (.book st (word4 v1 v2 v3 v4) d.toNat (sint2 a1 a0) p.toNat ⟨nb.toNat, 0⟩ (word2 f1 f0))
  | _ => none

/-- The first bytes of a parameter list where they are called for, with the rest. -/
def takeIf (want : Bool) (n : Nat) (bs : List Byte) : Option (List Byte × List Byte) :=
  if !want then some ([], bs) else if n ≤ bs.length then some (bs.take n, bs.drop n) else none

/-- An AMEND's parameters (R9, R190; entry 13): the change byte, the passage number, and the values marked. -/
def amendOf? (st : Station) : List Byte → Option Instr
  | c :: n1 :: n0 :: rest => do
    let bit := fun i => c.toNat.testBit i
    let (dr, r1) ← takeIf (bit 0) 2 rest
    let (pr, r2) ← takeIf (bit 1) 1 r1
    let (nb, r3) ← takeIf (bit 2) 4 r2
    let (fo, r4) ← takeIf (bit 4) 2 r3
    if r4.isEmpty then
      some (.amend st (word2 n1 n0)
        { draft := if bit 0 then some (beInt16 dr) else none, priority := if bit 1 then some (beNat pr) else none,
          notBefore := if bit 2 then some (beNat nb) else none, dropNotBefore := bit 3,
          follows := if bit 4 then some (beNat fo) else none, dropFollows := bit 5 })
    else none
  | _ => none

/-- A LOOKUP's parameters (R12, R190). -/
def lookupOf? (st : Station) : List Byte → Option Instr
  | [0, a, b] => some (.lookup st (.number (word2 a b)))
  | [1, a, b, c, d] => some (.lookup st (.vessel (word4 a b c d)))
  | s :: _ => if s.toNat ≤ 1 then none else some (.lookup st .other)
  | [] => none

/-- The request of a code with its parameters (R190, section 11.4): no request of the code is `none`, parameters that do
not number what the request calls for are `some none`. -/
def requestOf? (st : Station) (code : Nat) (bs : List Byte) : Option (Option Instr) :=
  let plain := fun (i : Instr) => some (if bs.isEmpty then some i else none)
  let one := fun (f : Nat → Instr) => some (match bs with | [a] => some (f a.toNat) | _ => none)
  let number := fun (f : Nat → Instr) => some (match bs with | [a, b] => some (f (word2 a b)) | _ => none)
  let two := fun (f : Nat → Nat → Instr) => some (match bs with | [a, b] => some (f a.toNat b.toNat) | _ => none)
  match code with
  | 0x01 => some (bookOf? st bs)
  | 0x02 => some (amendOf? st bs)
  | 0x03 => number (.cancel st)
  | 0x04 => some (lookupOf? st bs)
  | 0x05 =>
    some (match bs with
      | [f] => some (.listBook st f.toNat none)
      | [f, a, b] => some (.listBook st f.toNat (some (word2 a b)))
      | _ => none)
  | 0x06 => plain (.listChanged st)
  | 0x07 => number (.forget st)
  | 0x08 => number (.markPassed st)
  | 0x09 => some (match bs with | [a, b] => some (.setWater st (sint2 a b)) | _ => none)
  | 0x0A => plain (.enterCreep st)
  | 0x0B => plain (.leaveCreep st)
  | 0x0C => plain (.teachSeat st)
  | 0x0D => plain (.recoverLower st)
  | 0x0E => plain (.stopSpan st)
  | 0x0F => one (.retryGate st)
  | 0x10 => plain (.reopenRoad st)
  | 0x11 => plain (.closeRoad st)
  | 0x12 => one (.releaseLane st)
  | 0x13 => one (.holdLane st)
  | 0x14 => plain (.releaseAll st)
  | 0x15 => plain (.holdAll st)
  | 0x16 => plain (.openSpan st)
  | 0x17 => plain (.closeNow st)
  | 0x18 => plain (.abortOpening st)
  | 0x19 => plain (.continueOpening st)
  | 0x1A => two (.setMask st)
  | 0x1B => plain (.ackFaults st)
  | 0x1C => plain (.resumePrepare st)
  | 0x1D => plain (.resume st)
  | 0x1E =>
    some (match bs with
      | i :: rest => (valueOf? i.toNat rest).map fun v => .writeSetting st i.toNat v
      | [] => none)
  | 0x1F => one (.storeSettings st)
  | 0x20 => one (.setProtect st)
  | 0x21 => plain (.readStatus st)
  | 0x22 => plain (.readLeaf st)
  | 0x23 => one (.readApproach st)
  | 0x24 => plain (.readSignals st)
  | 0x25 => plain (.readFaults st)
  | 0x26 => plain (.readLink st)
  | 0x27 => two (.readSetting st)
  | _ => none

/-! ### The frame (R190) -/

/-- The length byte of a request frame names a whole frame whose bytes sum to 0 modulo 256 (R190, judgement 1). -/
def frameWhole (bs : List Byte) : Bool :=
  match bs with
  | [] => false
  | l :: _ =>
    decide (4 ≤ l.toNat) && decide (l.toNat ≤ 64) && decide (l.toNat ≤ bs.length) &&
      (bs.take l.toNat).foldl (fun n b => n + b.toNat) 0 % 256 == 0

/-- A request frame is judged (R190): the request it carries, BAD_FRAME or UNKNOWN_REQUEST. -/
def judgeFrame (bs : List Byte) : Except Result Instr :=
  if !frameWhole bs then .error .badFrame
  else
    match bs with
    | l :: st :: code :: rest =>
      match stationOf? st.toNat with
      | none => .error .badFrame
      | some who =>
        match requestOf? who code.toNat (rest.take (l.toNat - 4)) with
        | none => .error .unknownRequest
        | some none => .error .badFrame
        | some (some i) => .ok i
    | _ => .error .badFrame

end Sys2Proof.Machine
end

