-- ==== Sys2Proof/Machine/Road.lean ====
section
/-!
DEFINITION. Commands of the approach controllers (chapter 5): the operator's road and lane requests, and the gate, zone,
timer and lamp events.
-/

namespace Sys2Proof.Machine

open Sys2Proof

/-! ### Requests -/

/-- The used gate of a code, if it names one of this part (R91, R107). -/
def State.usedGate? (s : State) (n : Nat) : Option GateId :=
  (GateId.ofCode? n).filter fun g => s.gateUsed g

/-- A gate record. -/
def State.gate (s : State) (g : GateId) : Gate := (s.ap g.ap).gates.at g.ix

/-- RETRY_GATE (R91). -/
def execRetryGate (st : Station) (gate : Nat) (s : State) : Host.Outcome State Fault Refusal :=
  s.request st [.operator] fun t =>
    match t.usedGate? gate with
    | none => .refuse .badValue
    | some g =>
      if (t.gate g).state == .jammed || (t.gate g).state == .unknown then
        State.ok (t.onGate g fun _ _ _ x => x.retry)
      else .refuse .wrongState

/-- REOPEN_ROAD (R105). -/
def execReopenRoad (st : Station) (s : State) : Host.Outcome State Fault Refusal :=
  s.request st [.operator] fun t =>
    if t.faults.halted then .refuse .halted
    else if !t.phaseIdle || t.motion.state != .seatedLocked ||
        !t.allUsedAps (fun c => c == .restart || c == .closed) then .refuse .wrongState
    else State.ok (t.onUsedAps fun x a => a.reopeningStart x)

/-- CLOSE_ROAD (R106). -/
def execCloseRoad (st : Station) (s : State) : Host.Outcome State Fault Refusal :=
  s.request st [.operator] fun t =>
    if t.faults.halted then .refuse .halted
    else if !t.phaseIdle then .refuse .wrongState
    else State.ok (t.onUsedAps fun x a => a.closureStart x)

/-- The hold of one gate is set (R107, R108). -/
def State.setHold (s : State) (g : GateId) (held : Bool) : State :=
  s.onGate g fun x c k y => y.setHold x c k held

/-- The hold of every used gate of an approach is set (R107). -/
def Approach.setHolds (x : RoadCtx) (held : Bool) (a : Approach) : Approach :=
  { a with gates :=
      Six.zip (fun k g => if k == GateKind.unused then g else g.setHold x a.closure k held) x.kinds a.gates }

/-- A request on the hold of one gate (R107). -/
def State.holdRequest (s : State) (gate : Nat) (held : Bool) : Answer :=
  match s.usedGate? gate with
  | none => .refuse .badValue
  | some g => State.ok (s.setHold g held)

/-- RELEASE_LANE (R107). -/
def execReleaseLane (st : Station) (gate : Nat) (s : State) : Host.Outcome State Fault Refusal :=
  s.request st [.operator] fun t => t.holdRequest gate false

/-- HOLD_LANE (R107). -/
def execHoldLane (st : Station) (gate : Nat) (s : State) : Host.Outcome State Fault Refusal :=
  s.request st [.operator] fun t => t.holdRequest gate true

/-- RELEASE_ALL (R107). -/
def execReleaseAll (st : Station) (s : State) : Host.Outcome State Fault Refusal :=
  s.request st [.operator] fun t => State.ok (t.onUsedAps fun x a => a.setHolds x false)

/-- HOLD_ALL (R107). -/
def execHoldAll (st : Station) (s : State) : Host.Outcome State Fault Refusal :=
  s.request st [.operator] fun t => State.ok (t.onUsedAps fun x a => a.setHolds x true)

/-! ### Gate events -/

/-- The limits of an approach's gates are established, once (R86); of an UNUSED gate the reading alone is kept (entry
30). -/
def Approach.establish (x : RoadCtx) (l : Six GateLimits) (a : Approach) : Approach :=
  let one := fun (kg : GateKind × Gate) (m : GateLimits) =>
    if kg.2.limits.isSome then kg.2
    else if kg.1 == .unused then { kg.2 with limits := some m }
    else kg.2.establish m
  { a with gates := Six.zip one (Six.zip Prod.mk x.kinds a.gates) l }

/-- GATE_LIMITS_ESTABLISHED (R86). -/
def execGateLimitsEstablished (a b : Six GateLimits) (s : State) : Host.Outcome State Fault Refusal :=
  s.event fun t =>
    let u := t.onAp .a fun x y => y.establish x a
    if u.usesAp .b then u.onAp .b fun x y => y.establish x b else u

/-- GATE_LIMIT_CHANGE (R86, R89). -/
def execGateLimitChange (g : GateId) (limits : GateLimits) (s : State) : Host.Outcome State Fault Refusal :=
  s.event fun t =>
    if t.usesAp g.ap && (t.gate g).limits.isSome then
      t.onGate g fun x _ k y => if k == .unused then { y with limits := some limits } else y.limitChange x limits
    else t

/-- GATE_TRAVEL_EXPIRY (R86, R89). -/
def execGateTravelExpiry (g : GateId) (s : State) : Host.Outcome State Fault Refusal :=
  s.event fun t => if t.gateUsed g then t.onGate g fun _ _ _ y => y.travelExpiry else t

/-- GATE_OBSTRUCTION (R90): the debounced OBSTRUCT input changes; a lowering gate meets it in its round. -/
def execGateObstruction (g : GateId) (active : Bool) (s : State) : Host.Outcome State Fault Refusal :=
  s.event fun t => if t.usesAp g.ap then t.onGate g fun _ _ _ y => { y with obstruct := active } else t

/-- RETRY_WAIT_EXPIRY (R90). -/
def execRetryWaitExpiry (g : GateId) (s : State) : Host.Outcome State Fault Refusal :=
  s.event fun t => if t.gateUsed g then t.onGate g fun _ _ _ y => y.retryExpiry else t

/-- HOLD_FLASH_EXPIRY (R108): the flash ends, and the demand becomes DOWN. -/
def execHoldFlashExpiry (g : GateId) (s : State) : Host.Outcome State Fault Refusal :=
  s.event fun t => if t.gateUsed g then t.onGate g fun _ _ _ y => { y with holdFlash := .stopped } else t

/-! ### Closure timers and zones -/

/-- The state timer of a used approach expires in the state that it times (R98, R100, R109). -/
def State.stateExpiry (s : State) (x : Ap) (c : Closure) : State :=
  if s.usesAp x && (s.ap x).closure == c && (s.ap x).stateTimer.isRunning then s.onAp x fun k a => a.timerExpiry k
  else s

/-- PREWARN_EXPIRY (R98). -/
def execPrewarnExpiry (ap : Ap) (s : State) : Host.Outcome State Fault Refusal :=
  s.event fun t => t.stateExpiry ap .prewarn

/-- STOP_TIME_EXPIRY (R98, R99). -/
def execStopTimeExpiry (ap : Ap) (s : State) : Host.Outcome State Fault Refusal :=
  s.event fun t => t.stateExpiry ap .stopping

/-- CLEAR_MIN_EXPIRY (R100). -/
def execClearMinExpiry (ap : Ap) (s : State) : Host.Outcome State Fault Refusal :=
  s.event fun t => t.stateExpiry ap .clearing

/-- CLEAR_ALERT_EXPIRY (R100): CLEARANCE_DELAY becomes live until the approach leaves CLEARING. -/
def execClearAlertExpiry (ap : Ap) (s : State) : Host.Outcome State Fault Refusal :=
  s.event fun t =>
    if t.usesAp ap && (t.ap ap).alertTimer.isRunning then
      t.setAp ap { t.ap ap with alertTimer := .stopped, delayed := true }
    else t

/-- ZONE_DETECTOR_CHANGE (R95): an UNUSED detector is not read. -/
def execZoneDetectorChange (ap : Ap) (ix : Fin 3) (occupied : Bool) (s : State) :
    Host.Outcome State Fault Refusal :=
  s.event fun t =>
    if (t.zoneUse ap).at ix then t.setAp ap { t.ap ap with zones := (t.ap ap).zones.put ix (some occupied) } else t

/-! ### Lamps -/

/-- FLASH_CLOCK_TICK (R93). -/
def execFlashClockTick (s : State) : Host.Outcome State Fault Refusal :=
  s.event fun t => { t with flashOn := !t.flashOn }

/-- A road lamp judged after a proving span (R94); a lamp of an unused gate is not judged. -/
def State.judgeRoadLamp (s : State) (lamp : RoadLamp) (proof : Proving) : State :=
  match lamp with
  | .lane g =>
    if s.gateUsed g then
      s.onGate g fun _ _ _ y => { y with health := y.health.judge (y.lamp.lit s.flashOn) proof }
    else s
  | .amber x =>
    if s.usesAp x then
      s.setAp x { s.ap x with amberHealth := (s.ap x).amberHealth.judge (s.ap x).amberOn proof }
    else s

/-- LAMP_PROVING_SPAN (R94). -/
def execLampProvingSpan (lamp : RoadLamp) (proof : Proving) (s : State) : Host.Outcome State Fault Refusal :=
  s.event fun t => t.judgeRoadLamp lamp proof

end Sys2Proof.Machine
end

