-- ==== Sys2Proof/Machine/Reads.lean ====
section
/-!
DEFINITION. The seven state reads (R192), each record laid out in the order of its table and encoded by R193 (the places
that R193 leaves open: entry 14).
-/

namespace Sys2Proof.Machine

open Sys2Proof

/-! ### Records -/

/-- The water record with the effective level (R26). -/
def State.waterBytes (s : State) : List Byte :=
  u8 s.water.source.code ++ be16 s.effectiveWater ++ optAngle s.water.level ++ optClock s.waterAge

/-- The opening record (R128), or in FOLLOW role its mirror. -/
def Opening.bytes (o : Opening) : List Byte :=
  be16 o.number ++ u8 o.phase.code ++ u8 o.group.length ++ (o.group.flatMap fun n => be16 n) ++ optAngle o.target ++
    flagByte o.frozen ++ flagByte o.creditUsed ++ optCode (o.runDir.map Dir.code) ++ flagByte o.suspended ++
    optCode (o.resumePoint.map Phase.code) ++ flagByte o.closeRequested ++ timerBytes o.linger

/-- A two-valued reading that may be absent: its first value (`false`) is 0 and its second is 1. -/
def readingByte (r : Option Bool) : List Byte := optCode (r.map fun b => if b then 1 else 0)

/-- The motion record (R57), with the target count and the skew. -/
def State.motionBytes (s : State) : List Byte :=
  let m := s.motion
  u8 m.state.code ++ u8 m.kind.code ++ flagByte m.correction ++ flagByte m.creep ++ optCount s.targetCount ++
    optAngle s.skew ++ u8 m.teachStep.code ++ u8 m.teachResult.code ++ optCount m.teachCandidate ++
    flagByte m.permit ++ u8 m.direction.code ++ u8 m.speedClass.code ++ flagByte m.brakeRelease

/-- A track channel (R36). -/
def Track.bytes (t : Track) : List Byte :=
  be32 t.counter ++ u8 (travelCode t.travel) ++ u8 t.ref.code ++ optCount (t.firstMark.map (·.count)) ++
    optCode (t.firstMark.map (·.way.code)) ++ be32 t.windowStart ++ be32 t.speed ++ flagByte t.failed

/-- A lock record (R74). -/
def Lock.bytes (l : Lock) : List Byte := u8 l.state.code ++ timerBytes l.timer

/-- A gate record (R85), with its code and kind. -/
def Gate.bytes (code : Nat) (k : GateKind) (g : Gate) : List Byte :=
  u8 code ++ u8 k.code ++ u8 g.state.code ++ u8 (if g.held then 0 else 1) ++ u8 g.demand.code ++
    timerBytes g.holdFlash ++ u8 g.lamp.code ++ u8 g.health.code ++ be32 g.retryCount ++ timerBytes g.retryWait ++
    timerBytes g.travel

/-- The six gate records of an approach. -/
def State.gatesBytes (s : State) (x : Ap) : List Byte :=
  ([0, 1, 2, 3, 4, 5] : List (Fin 6)).flatMap fun i =>
    ((s.ap x).gates.at i).bytes (GateId.code ⟨x, i⟩) ((s.kinds x).at i)

/-- The three detectors of an approach: use (USED 0, UNUSED 1) and reading (R95). -/
def State.zonesBytes (s : State) (x : Ap) : List Byte :=
  ([0, 1, 2] : List (Fin 3)).flatMap fun i =>
    u8 (if (s.zoneUse x).at i then 0 else 1) ++ readingByte ((s.ap x).zones.at i)

/-- The approach record (R84). An approach that the part does not use shows its reset values beside UNUSED gates (entry
45). -/
def State.approachBytes (s : State) (x : Ap) : List Byte :=
  let a := s.ap x
  u8 a.closure.code ++ optCode (a.reopenStep.map ReopenStep.code) ++ timerBytes a.stateTimer ++
    timerBytes a.alertTimer ++ flagByte a.advancePending ++ u8 a.amberHealth.code ++ s.gatesBytes x ++ s.zonesBytes x

/-- A direction record (R111). -/
def DirRec.bytes (r : DirRec) : List Byte :=
  u8 r.aspect.code ++ u8 r.red.code ++ u8 r.amber.code ++ u8 r.green.code ++ timerBytes r.gap

/-- The call context (R119). -/
def CallCtx.bytes (c : CallCtx) : List Byte :=
  optCode (c.serving.map Dir.code) ++ optNumber c.called ++ timerBytes c.callTimer ++ optNumber c.passing ++
    flagByte c.exitSeen ++ optCode (c.lastEnd.map Dir.code)

/-- The condition, latch and mask of a fault. -/
def FaultRec.bytes (r : FaultRec) : List Byte := flagByte r.cond ++ flagByte r.latch ++ flagByte r.mask

/-- The partner view in the STATUS body layout; an empty view has every field absent (R161). -/
def viewBytes : Option PartnerView → List Byte
  | some v => v.body
  | none => be16 0x8000 ++ be16 0x8000 ++ u8 0xFF ++ u8 0xFF ++ u8 0xFF ++ u8 0 ++ u8 0 ++ u8 0 ++ be16 0x8000 ++ be16 0

/-! ### The reads -/

/-- READ_STATUS (R192). The KEY reading is 0 for not on, 1 for on and 0xFF while absent (R187; entry 14). -/
def execReadStatus (_st : Station) (s : State) : Host.Outcome State Fault Refusal :=
  s.read fun t =>
    .ok (u8 t.role.code ++ be32 t.clock ++ t.waterBytes ++ t.opening.bytes ++ u8 t.opening.interval.code ++
      timerBytes t.opening.intervalTimer ++ be32 t.opening.credits ++ timerBytes t.opening.settle ++
      flagByte t.storeBusy ++ optCode (t.settings.lastTarget.map StoreTarget.code) ++
      u8 t.settings.lastOutcome.code ++ flagByte t.settings.protect ++ readingByte t.lines.key)

/-- READ_LEAF (R192); SEATED is the first value of the seat reading (R49). -/
def execReadLeaf (_st : Station) (s : State) : Host.Outcome State Fault Refusal :=
  s.read fun t =>
    .ok (t.motionBytes ++ be16 t.angle ++ be32 t.speed ++ optAngle t.target ++ u8 t.pos.source.code ++
      readingByte (t.pos.seat.map (!·)) ++ t.pos.p.bytes ++ t.pos.c.bytes ++ t.locks.tail.bytes ++ t.locks.toe.bytes)

/-- READ_APPROACH (R192): 0 for A, 1 for B. -/
def execReadApproach (_st : Station) (ap : Nat) (s : State) : Host.Outcome State Fault Refusal :=
  s.read fun t =>
    match ap with
    | 0 => .ok (t.approachBytes .a)
    | 1 => .ok (t.approachBytes .b)
    | _ => .error .badValue

/-- READ_SIGNALS (R192). -/
def execReadSignals (_st : Station) (s : State) : Host.Outcome State Fault Refusal :=
  s.read fun t =>
    .ok (t.signals.inbound.bytes ++ t.signals.outbound.bytes ++ readingByte t.signals.downstream ++
      readingByte t.signals.upstream ++ t.signals.call.bytes)

/-- READ_FAULTS (R167, R192). -/
def execReadFaults (_st : Station) (s : State) : Host.Outcome State Fault Refusal :=
  s.read fun t =>
    .ok ((allFaults.flatMap fun f => (t.fault f).bytes) ++ u8 (if t.faults.halted then 1 else 0) ++
      optCode (t.faults.entryFault.map fun f => f.index.val) ++ optClock t.faults.enteredAt ++
      flagByte t.faults.prepare)

/-- READ_LINK (R153, R161, R192). The PAIR_MISMATCH condition is that of its fault record, false while it is masked (R171;
entry 47). Of the view's age, a count without bound, the low 32 bits are returned (entry 54). -/
def execReadLink (_st : Station) (s : State) : Host.Outcome State Fault Refusal :=
  s.read fun t =>
    .ok (u8 (if t.link.paired then 0 else 1) ++ u8 t.link.buffer.code ++ be32 t.link.mismatch ++
      flagByte (t.fault .pairMismatch).cond ++ viewBytes t.link.view ++
      optClock (if t.link.view.isSome then some t.link.age else none))

/-- An item's value as read: a presence flag, then the value where there is one (R181; entry 14). -/
def settingBytes (i : Item) (v : Option SettingValue) : List Byte :=
  match v with
  | none => flagByte false
  | some x => flagByte true ++ i.valueBytes x

/-- The stored value of an item; none while its block is marked as rejected (R181). -/
def Settings.storedValue (x : Settings) (i : Item) : Option SettingValue :=
  if x.rejected.at i.block then none else x.stored.get i

/-- READ_SETTING (R181, R190): copy 0 is WORKING, 1 is STORED. -/
def execReadSetting (_st : Station) (item copy : Nat) (s : State) : Host.Outcome State Fault Refusal :=
  s.read fun t =>
    match Item.ofNumber? item, copy with
    | some i, 0 => .ok (settingBytes i (t.items.get i))
    | some i, 1 => .ok (settingBytes i (t.settings.storedValue i))
    | _, _ => .error .badValue

end Sys2Proof.Machine
end

