-- ==== Sys2Proof/Machine/SettingsCmds.lean ====
section
/-!
DEFINITION. Commands of the settings store (chapter 10): WRITE_SETTING, STORE_SETTINGS, SET_PROTECT and the completion of
a store write, with the checks of the owning blocks (R24, R25, R67, R70, R92).
-/

namespace Sys2Proof.Machine

open Sys2Proof

/-! ### Checks of values -/

/-- A value lies in an item's own range (R181). -/
def Item.inRange (i : Item) (v : Int) : Bool := decide (i.range.1 ≤ v) && decide (v ≤ i.range.2)

/-- Each breakpoint follows the one before it (R24). -/
def tableRises : List (Int × Int) → Bool
  | [] => true
  | (t0, h0) :: rest =>
    (match rest with
      | [] => true
      | (t1, h1) :: _ => decide (t0 < t1) && decide (h0 ≤ h1)) && tableRises rest

/-- The checks of a clearance table against a FULL_OPEN (R23, R24). -/
def tableOK (full : Int) (t : List (Int × Int)) : Bool :=
  decide (2 ≤ t.length) && decide (t.length ≤ 12) &&
    (t.all fun p => decide (0 ≤ p.1) && decide (p.1 ≤ 8500) && decide (0 ≤ p.2) && decide (p.2 ≤ 6500)) &&
    t.head?.any (fun p => p.1 == 0) && tableRises t && t.getLast?.all fun p => decide (p.1 ≤ full)

/-- The upper angles increase strictly (R67). -/
def bandsRise : List RawBand → Bool
  | [] => true
  | b :: rest => (match rest with | [] => true | c :: _ => decide (b.upper < c.upper)) && bandsRise rest

/-- The checks of the envelope bands against a FULL_OPEN (R67). -/
def bandsOK (full : Int) (bs : List RawBand) : Bool :=
  decide (1 ≤ bs.length) && decide (bs.length ≤ 8) &&
    (bs.all fun b =>
      decide (-300 ≤ b.upper) && decide (b.upper ≤ 8800) && decide (100 ≤ b.upLimit) && decide (b.upLimit ≤ 20000) &&
        decide (100 ≤ b.downLimit) && decide (b.downLimit ≤ 20000) && decide (b.cls ≤ 1)) &&
    bandsRise bs && bs.getLast?.any fun b => decide (full + 300 ≤ b.upper)

/-- An item of a rest-only block (R185). -/
def Item.restOnly (i : Item) : Bool :=
  match i.block with
  | .geometry | .clearance | .envelope => true
  | _ => false

namespace State

/-- The bridge is at rest (R185). -/
def atRest (s : State) : Bool := s.phaseIdle && s.motion.state == .seatedLocked

/-- The road is at rest, as R92 asks of a write of a gate kind or a detector use. -/
def roadAtRest (s : State) : Bool :=
  s.phaseIdle && s.allUsedAps fun c => c == .openRoad || c == .closed || c == .restart

/-- A write on approach B that a LEAD or FOLLOW part refuses (R92): the code `unused` alone is allowed. -/
def badB (s : State) (x : Ap) (v unused : Int) : Bool := s.twin && x == .b && v != unused

/-- The owning blocks' checks of a value (R24, R25, R67, R70, R92). -/
def valueRefusal (s : State) (i : Item) (v : SettingValue) : Option Result :=
  match i, v with
  | .table, .table t => if tableOK s.fullOpen t then none else some .badValue
  | .bands, .bands bs => if bandsOK s.fullOpen bs then none else some .badValue
  | .table, _ | .bands, _ => some .badValue
  | _, .num n =>
    if !i.inRange n then some .badValue
    else
      let need := fun (ok : Bool) => if ok then none else some Result.badValue
      match i with
      | .fullOpen =>
        need (decide (s.minOpen ≤ n) &&
          (s.items.clearance.table.all fun t => t.getLast?.all fun p => decide (p.1 ≤ n)))
      | .minOpen => need (decide (n ≤ s.fullOpen))
      | .skewSlow => need (decide (n < s.skewHalt))
      | .skewHalt => need (decide (s.skewSlow < n))
      | .gateKind g =>
        if s.badB g.ap n 3 then some .badValue else if s.roadAtRest then none else some .notAtRest
      | .zoneUse x _ => if s.badB x n 1 then some .badValue else if s.roadAtRest then none else some .notAtRest
      | _ => none
  | _, _ => some .badValue

/-- The state with an item of the working copy written. -/
def putItem (s : State) (i : Item) (v : SettingValue) : State :=
  { s with settings := { s.settings with working := s.settings.working.put i v } }

/-- A GATHER_WINDOW just written ends the gathering window at the clock plus its value; the lower of that end and the end
before is kept for the next step of the clock (R130, R139; entry 41). -/
def takeWindow (s : State) : State :=
  { s with horizon := min s.horizon ((s.clock : Int) + s.items.channel.gatherWindow) }

/-- What the owning block does with its new value (R184); `s` is the state before the write. -/
def afterWrite (s : State) (i : Item) (t : State) : State :=
  match i with
  | .seatCount => if t.pos.seat == some true then t.presetUnreferenced else t
  | .table | .clearanceMargin => t.reevaluate
  | .waterHigh => if t.effectiveWater = s.effectiveWater then t else t.reevaluate
  | .roadCredits => t.modOpening fun o => { o with credits := min o.credits t.items.road.roadCredits.toNat }
  | .gatherWindow => t.takeWindow
  | .gateKind g => t.onGate g fun _ _ k y => y.rekind ((s.kinds g.ap).at g.ix) k
  | .zoneUse x j =>
    if (t.zoneUse x).at j == (s.zoneUse x).at j then t
    else t.setAp x { t.ap x with zones := (t.ap x).zones.put j none }
  | _ => t

/-- An accepted write (R184, R185). -/
def writeItem (s : State) (i : Item) (v : SettingValue) : State :=
  let t := s.putItem i v
  s.afterWrite i (if i.restOnly then t.startSettle else t)

/-- The checks of R184 in their order, giving the item. Check 1 goes before check 2 also while the store write of a SET_PROTECT
runs, where R187 has the write refused PROTECTED at once (entry 55). -/
def judgeWrite (s : State) (item : Nat) (v : SettingValue) : Except Result Item :=
  if s.storeBusy then .error .storeBusy
  else if s.isProtected then .error .protected_
  else
    match Item.ofNumber? item with
    | none => .error .badValue
    | some i =>
      if i.restOnly && !s.atRest then .error .notAtRest
      else
        match s.valueRefusal i v with
        | some r => .error r
        | none => .ok i

end State

/-- WRITE_SETTING (R184, R185). -/
def execWriteSetting (st : Station) (item : Nat) (value : SettingValue) (s : State) :
    Host.Outcome State Fault Refusal :=
  s.request st [.maintenance] fun t =>
    match t.judgeWrite item value with
    | .error r => .refuse r
    | .ok i => .accept (t.writeItem i value) fun _ => i.valueBytes value

/-- STORE_SETTINGS (R186). -/
def execStoreSettings (st : Station) (block : Nat) (s : State) : Host.Outcome State Fault Refusal :=
  s.request st [.maintenance] fun t =>
    if t.storeBusy then .refuse .storeBusy
    else if t.isProtected then .refuse .protected_
    else
      match BlockId.ofCode? block with
      | none => .refuse .badValue
      | some b => if t.items.blockHasValues b then State.ok (t.startBlockWrite b) else .refuse .unconfigured

/-- An accepted SET_PROTECT of a new value: in force at once, and a store write of the flag starts (R187). -/
def State.startProtectWrite (s : State) (v : Bool) : State :=
  { s with settings :=
      { s.settings with protect := v, writing := some (.protect v), lastTarget := some .protect } }

/-- SET_PROTECT (R187). A value byte above 1 is refused BAD_VALUE between the two checks of R187 (entry 19). -/
def execSetProtect (st : Station) (value : Nat) (s : State) : Host.Outcome State Fault Refusal :=
  s.request st [.maintenance] fun t =>
    if t.storeBusy then .refuse .storeBusy
    else if 1 < value then .refuse .badValue
    else if value = 0 && t.isProtected then .refuse .protected_
    else if t.settings.protect == (value == 1) then State.ok t
    else State.ok (t.startProtectWrite (value == 1))

/-! ### Store writes (R182, R186, R187) -/

/-- The check value of a PROTECT flag. -/
def protectCrc (v : Bool) : BitVec 16 := crc16 (flagByte v)

/-- The store after a whole write of a job (R186). -/
def Settings.commit (x : Settings) : WriteJob → Settings
  | .block b copy =>
    { x with stored := x.stored.takeBlock b copy, checks := x.checks.put b (crc16 (copy.blockBytes b)),
             rejected := x.rejected.put b false }
  | .protect v => { x with storedProtect := v, protectCheck := protectCrc v }

/-- A store write ends (R186): the new copy where the verify passed, the old one and STORE_FAIL where it failed. -/
def State.endWrite (s : State) (job : WriteJob) (passed : Bool) : State :=
  if passed then
    { s with settings := { s.settings.commit job with writing := none, lastOutcome := .done } }
  else ({ s with settings := { s.settings with writing := none, lastOutcome := .failed } }).raise .storeFail

/-- A teach's store of GEOMETRY that waited for the running write starts (R186). -/
def State.startWaitingStore (s : State) : State :=
  if s.settings.teachStoreWaiting then
    ({ s with settings := { s.settings with teachStoreWaiting := false } }).startBlockWrite .geometry
  else s

/-- STORE_WRITE_COMPLETE (R186, R187). -/
def execStoreWriteComplete (verifyPassed : Bool) (s : State) : Host.Outcome State Fault Refusal :=
  s.event fun t =>
    match t.settings.writing with
    | none => t
    | some job => (t.endWrite job verifyPassed).startWaitingStore

end Sys2Proof.Machine
end

