-- ==== Sys2Proof/Machine/Port.lean ====
section
/-!
DEFINITION. The selections of the request port and the dispatch of a request taken there (R189 to R191), and one
millisecond of time passing over the timers.
-/

namespace Sys2Proof.Machine

open Sys2Proof

/-! ### Permissions (R191) -/

/-- The stations that may send a request; a command that is no request has none. -/
def stationsOf : Instr → List Station
  | .book .. | .amend .. | .cancel .. | .listChanged .. | .forget .. => [.harbour]
  | .setWater .. => [.operator, .harbour]
  | .markPassed .. | .recoverLower .. | .stopSpan .. | .retryGate .. | .reopenRoad .. | .closeRoad ..
  | .releaseLane .. | .holdLane .. | .releaseAll .. | .holdAll .. | .openSpan .. | .closeNow .. | .abortOpening ..
  | .continueOpening .. | .ackFaults .. | .resumePrepare .. | .resume .. => [.operator]
  | .enterCreep .. | .leaveCreep .. | .teachSeat .. | .setMask .. | .writeSetting .. | .storeSettings ..
  | .setProtect .. => [.maintenance]
  | .readStatus .. | .readLeaf .. | .readApproach .. | .readSignals .. | .readFaults .. | .readLink ..
  | .readSetting .. | .lookup .. | .listBook .. => [.operator, .harbour, .maintenance]
  | _ => []

/-- The station that sends a request. -/
def stationOf : Instr → Option Station
  | .book st .. | .amend st .. | .cancel st .. | .lookup st .. | .listBook st .. | .listChanged st
  | .forget st .. | .markPassed st .. | .setWater st .. | .enterCreep st | .leaveCreep st | .teachSeat st
  | .recoverLower st | .stopSpan st | .retryGate st .. | .reopenRoad st | .closeRoad st | .releaseLane st ..
  | .holdLane st .. | .releaseAll st | .holdAll st | .openSpan st | .closeNow st | .abortOpening st
  | .continueOpening st | .setMask st .. | .ackFaults st | .resumePrepare st | .resume st | .writeSetting st ..
  | .storeSettings st .. | .setProtect st .. | .readStatus st | .readLeaf st | .readApproach st .. | .readSignals st
  | .readFaults st | .readLink st | .readSetting st .. => some st
  | _ => none

/-- A request comes from a station that may send it (R191). -/
def permitted (i : Instr) : Bool := (stationOf i).any fun st => (stationsOf i).contains st

/-! ### Selections (R189) -/

/-- SELECTION_START (R189): SEL falls; what the selection does depends on the port state now. -/
def execSelectionStart (s : State) : Host.Outcome State Fault Refusal :=
  s.event fun t =>
    if t.port.selection.isNone then { t with port := { t.port with selection := some t.port.state } } else t

/-- A request is handed to the block that owns it, which judges it against the state as it stands now (R191). The decoder
of the frames gives requests alone; any other command changes nothing. -/
def State.dispatch (i : Instr) (s : State) : Host.Outcome State Fault Refusal :=
  match i with
  | .book st vessel dir draft priority nb follows => execBook st vessel dir draft priority nb follows s
  | .amend st num change => execAmend st num change s
  | .cancel st num => execCancel st num s
  | .lookup st key => execLookup st key s
  | .listBook st filter resume => execListBook st filter resume s
  | .listChanged st => execListChanged st s
  | .forget st num => execForget st num s
  | .markPassed st num => execMarkPassed st num s
  | .setWater st level => execSetWater st level s
  | .enterCreep st => execEnterCreep st s
  | .leaveCreep st => execLeaveCreep st s
  | .teachSeat st => execTeachSeat st s
  | .recoverLower st => execRecoverLower st s
  | .stopSpan st => execStopSpan st s
  | .retryGate st gate => execRetryGate st gate s
  | .reopenRoad st => execReopenRoad st s
  | .closeRoad st => execCloseRoad st s
  | .releaseLane st gate => execReleaseLane st gate s
  | .holdLane st gate => execHoldLane st gate s
  | .releaseAll st => execReleaseAll st s
  | .holdAll st => execHoldAll st s
  | .openSpan st => execOpenSpan st s
  | .closeNow st => execCloseNow st s
  | .abortOpening st => execAbortOpening st s
  | .continueOpening st => execContinueOpening st s
  | .setMask st fault value => execSetMask st fault value s
  | .ackFaults st => execAckFaults st s
  | .resumePrepare st => execResumePrepare st s
  | .resume st => execResume st s
  | .writeSetting st item value => execWriteSetting st item value s
  | .storeSettings st block => execStoreSettings st block s
  | .setProtect st value => execSetProtect st value s
  | .readStatus st => execReadStatus st s
  | .readLeaf st => execReadLeaf st s
  | .readApproach st ap => execReadApproach st ap s
  | .readSignals st => execReadSignals st s
  | .readFaults st => execReadFaults st s
  | .readLink st => execReadLink st s
  | .readSetting st item copy => execReadSetting st item copy s
  | _ => .next s

/-- The bytes taken as a request are judged (R190), the request is checked against its station (R191), and a permitted one
is worked. -/
def State.takeRequest (s : State) (bs : List Byte) : Host.Outcome State Fault Refusal :=
  match judgeFrame bs with
  | .error r => .next (s.respond r [])
  | .ok i => if permitted i then s.dispatch i else .next (s.clearPrepare.respond .notPermitted [])

/-- The port is WORKING on the bytes taken: its response is formed, and is offered once the port is READY (R189; entry
26). -/
def State.working (s : State) (bs : List Byte) : State :=
  { s with port := { s.port with state := .working, request := bs } }

/-- The selection that ends is over. -/
def State.deselect (s : State) : State := { s with port := { s.port with selection := none } }

/-- A selection that brought no request leaves the port EMPTY, a ready response cleared (R189). -/
def State.emptyPort (s : State) : State := { s with port := { s.port with state := .empty, response := none } }

/-- An outcome with its next state changed. -/
def thenState (o : Host.Outcome State Fault Refusal) (f : State → State) : Host.Outcome State Fault Refusal :=
  match o with
  | .next t => .next (f t)
  | o => o

/-- SELECTION_END (R189 to R191): bytes whose first is not 0x00 are taken as a request, worked at once. The port state at the
fall of SEL decides: in WORKING the bytes are discarded, and so are those of a selection that a reset has ended. The response
is formed at the taking, so that a reset that finds the port WORKING does not undo the request (entry 26). -/
def execSelectionEnd (bytes : List Byte) (s : State) : Host.Outcome State Fault Refusal :=
  let t := s.wake.deselect
  if s.port.selection.all (· == .working) then .next t.settle
  else if bytes.head?.all (· == 0) then .next t.emptyPort.settle
  else thenState (t.takeRequest bytes) fun u => u.working bytes

/-! ### One millisecond (entry 2) -/

/-- A timer after one millisecond; its expiry is a command of its own (entry 3). -/
def Timer.tick : Timer → Timer
  | .running ms => .running (ms - 1)
  | t => t

/-- The timers of a gate. -/
def Gate.tick (g : Gate) : Gate :=
  { g with holdFlash := g.holdFlash.tick, retryWait := g.retryWait.tick, travel := g.travel.tick }

/-- The timers of an approach. -/
def Approach.tick (a : Approach) : Approach :=
  { a with stateTimer := a.stateTimer.tick, alertTimer := a.alertTimer.tick,
           gates := Six.zip (fun _ g => Gate.tick g) a.gates a.gates }

/-- The timers of the channel signal unit. -/
def Signals.tick (x : Signals) : Signals :=
  { x with inbound := { x.inbound with gap := x.inbound.gap.tick },
           outbound := { x.outbound with gap := x.outbound.gap.tick },
           call := { x.call with callTimer := x.call.callTimer.tick } }

/-- The timers of the opening sequencer. -/
def Opening.tick (o : Opening) : Opening :=
  { o with linger := o.linger.tick, intervalTimer := o.intervalTimer.tick, settle := o.settle.tick }

/-- The timers of the link, and the age of the partner view (R161). -/
def Link.tick (l : Link) : Link :=
  { l with freshness := l.freshness.tick, toneTimer := l.toneTimer.tick, toneLength := l.toneLength.tick,
           reply := l.reply.tick, startup := l.startup.tick, period := l.period.tick,
           age := if l.view.isSome then l.age + 1 else l.age }

/-- The response of a port at work is offered within 200 µs of the taking (R189). -/
def Port.tick (p : Port) : Port :=
  if p.state == .working then { p with state := .ready, request := [] } else p

/-- One millisecond passes: every running timer is 1 ms nearer its end, and a port at work becomes READY. -/
def State.elapse (s : State) : State :=
  { s with motion := { s.motion with teachLockout := s.motion.teachLockout.tick },
           locks := { s.locks with tail := { s.locks.tail with timer := s.locks.tail.timer.tick },
                                   toe := { s.locks.toe with timer := s.locks.toe.timer.tick } },
           apA := s.apA.tick, apB := s.apB.tick, signals := s.signals.tick, opening := s.opening.tick,
           link := s.link.tick, faults := { s.faults with lapse := s.faults.lapse.tick },
           port := s.port.tick }

end Sys2Proof.Machine
end

