-- ==== Sys2Proof/Machine/ResetCmd.lean ====
section
/-!
DEFINITION. RESET (R188): the ROLE lines are read, the settings are loaded (R182, R187), the EMERGENCY_STOP latch is taken
(R169), and every other state takes its reset value.
-/

namespace Sys2Proof.Machine

open Sys2Proof

/-- The role that the ROLE lines name, SOLE where they name none (R188, R194). -/
def roleOf (role1 role0 : Bool) : Role :=
  match role1, role0 with
  | false, true => .lead
  | true, false => .follow
  | _, _ => .sole

/-! ### The load (R182) -/

/-- The store as a reset in the middle of a store write leaves it (R186; entry 11): a part-written block has a check
value that does not match. -/
def Settings.cutWrite (x : Settings) (cut : WriteCut) : Settings :=
  match x.writing, cut with
  | none, _ | _, .untouched => x
  | some job, .complete => x.commit job
  | some (.block b copy), .partly =>
    { x with checks := x.checks.put b (~~~ crc16 ((x.stored.takeBlock b copy).blockBytes b)),
             stored := x.stored.takeBlock b copy }
  | some (.protect _), .partly => { x with protectCheck := ~~~ protectCrc x.storedProtect }

/-- Every item of a block has a value in its own range; the table and the bands are checked beside (R182). -/
def Items.blockInRange (x : Items) (b : BlockId) : Bool :=
  b.items.all fun i =>
    match x.get i with
    | some (.num v) => i.inRange v
    | some _ => true
    | none => false

/-- The conditions across the items of a block, with the FULL_OPEN given (R182). -/
def Items.blockFits (x : Items) (full : Int) : BlockId → Bool
  | .geometry =>
    decide (x.geometry.minOpen.getD 1500 ≤ x.geometry.fullOpen.getD 8500) &&
      decide (x.geometry.skewSlow.getD 60 < x.geometry.skewHalt.getD 150)
  | .clearance => x.clearance.table.any (tableOK full)
  | .envelope => bandsOK full (x.envelope.bands.map Band.raw)
  | _ => true

/-- A stored block passes both stages of the load (R182). -/
def Settings.loads (x : Settings) (full : Int) (b : BlockId) : Bool :=
  crc16 (x.stored.blockBytes b) == x.checks.at b && x.stored.blockInRange b && x.stored.blockFits full b

/-- The FULL_OPEN the checks of the load use: the loaded one, 8500 where GEOMETRY is rejected (R182). -/
def Settings.loadFull (x : Settings) : Int :=
  if x.loads 8500 .geometry then x.stored.geometry.fullOpen.getD 8500 else 8500

/-- Which blocks load. -/
def Settings.loaded (x : Settings) : Seven Bool :=
  let l := x.loads x.loadFull
  ⟨l .geometry, l .clearance, l .envelope, l .road, l .channel, l .link, l .masks⟩

/-- The PROTECT flag loads (R187). -/
def Settings.protectLoads (x : Settings) : Bool := x.protectCheck == protectCrc x.storedProtect

/-- The working copy after the load: a loaded block as stored, a rejected one as R182 says. -/
def Settings.loadItems (x : Settings) (r : Role) : Items :=
  allBlocks.foldl (fun acc b => if x.loaded.at b then acc.takeBlock b x.stored else acc) (Items.default r)

/-- The settings store after the load (R182, R186, R187). -/
def Settings.load (x : Settings) (r : Role) : Settings :=
  { x with working := x.loadItems r,
           rejected := ⟨!x.loaded.geometry, !x.loaded.clearance, !x.loaded.envelope, !x.loaded.road,
             !x.loaded.channel, !x.loaded.link, !x.loaded.masks⟩,
           protect := if x.protectLoads then x.storedProtect else true,
           writing := none, teachStoreWaiting := false, lastTarget := none, lastOutcome := .none }

/-- Some block, or the PROTECT flag, was rejected by the load: STORE_FAIL (R182, R187). -/
def Settings.loadFailed (x : Settings) : Bool :=
  !x.protectLoads || allBlocks.any fun b => !x.loaded.at b

/-! ### The fault records -/

/-- A fault record after reset (R167 to R169, R182, R183): the mask of the MASKS block as loaded; EMERGENCY_STOP latched
by its line, STORE_FAIL by the load unless masked, UNCONFIGURED by its cause, the last two against the sentence of R169 that
only the first is not clear after reset, and that of R180 on ATTN (entry 58). -/
def resetRec (estop failed unconfigured : Bool) (m : Masks) (f : FaultId) : FaultRec :=
  { cond := f == .unconfigured && unconfigured,
    latch := (f == .emergencyStop && estop) || (f == .storeFail && failed && !m.storeFail) ||
      (f == .unconfigured && unconfigured),
    mask := m.at f }

/-- The fault unit after reset. -/
def Faults.reset (estop failed unconfigured : Bool) (m : Masks) : Faults :=
  { recs := ⟨(allFaults.map (resetRec estop failed unconfigured m)).toArray, by rfl⟩,
    halted := false, entryFault := none, enteredAt := none, prepare := false, lapse := .stopped }

/-! ### RESET -/

/-- The part after a reset with the lines given; the waiting commands stay. -/
def State.restart (s : State) (role1 role0 estop : Bool) : State :=
  let r := roleOf role1 role0
  let valid := !(role1 && role0)
  let store := s.settings.cutWrite (Config.writeCut s.cutCount)
  let x := store.load r
  let w := x.working
  { role := r, roleValid := valid, clock := 0, flashOn := true, lines := Lines.reset role1 role0 estop,
    book := .reset, water := .reset, pos := .reset, motion := .reset, locks := Locks.reset r,
    apA := .reset w.road.kindsA, apB := .reset (if r = .sole then w.road.kindsB else unusedKinds),
    signals := .reset, opening := Opening.reset w.road.roadCredits.toNat,
    link := Link.reset r w.link.linkTimeout.toNat,
    faults := Faults.reset estop store.loadFailed
      (!(w.blockHasValues .geometry && w.clearance.table.isSome && valid)) w.masks,
    settings := x, port := .reset, justReset := true, horizon := w.channel.gatherWindow,
    cutCount := if s.settings.writing.isSome then s.cutCount + 1 else s.cutCount, pending := s.pending }

/-- RESET (R188). -/
def execReset (role1 role0 emergencyStop : Bool) (s : State) : Host.Outcome State Fault Refusal :=
  .next (s.restart role1 role0 emergencyStop)

end Sys2Proof.Machine
end

