-- ==== Sys2Proof/Machine/Dispatch.lean ====
section
/-!
DEFINITION. The dispatch of a command to its meaning, one arm per row of spec/opcode_table.json.
-/

namespace Sys2Proof.Machine

open Sys2Proof

/-- The effect of a command on everything but the queue. -/
def exec (i : Instr) (s : State) : Host.Outcome State Fault Refusal :=
  match i with
  | .reset role1 role0 estop => Sys2Proof.Machine.execReset role1 role0 estop s
  | .selectionStart => Sys2Proof.Machine.execSelectionStart s
  | .selectionEnd bytes => Sys2Proof.Machine.execSelectionEnd bytes s
  | .book st vessel dir draft priority nb follows => Sys2Proof.Machine.execBook st vessel dir draft priority nb follows s
  | .amend st num change => Sys2Proof.Machine.execAmend st num change s
  | .cancel st num => Sys2Proof.Machine.execCancel st num s
  | .lookup st key => Sys2Proof.Machine.execLookup st key s
  | .listBook st filter resume => Sys2Proof.Machine.execListBook st filter resume s
  | .listChanged st => Sys2Proof.Machine.execListChanged st s
  | .forget st num => Sys2Proof.Machine.execForget st num s
  | .markPassed st num => Sys2Proof.Machine.execMarkPassed st num s
  | .setWater st level => Sys2Proof.Machine.execSetWater st level s
  | .enterCreep st => Sys2Proof.Machine.execEnterCreep st s
  | .leaveCreep st => Sys2Proof.Machine.execLeaveCreep st s
  | .teachSeat st => Sys2Proof.Machine.execTeachSeat st s
  | .teachPress => Sys2Proof.Machine.execTeachPress s
  | .teachLockoutExpiry => Sys2Proof.Machine.execTeachLockoutExpiry s
  | .recoverLower st => Sys2Proof.Machine.execRecoverLower st s
  | .stopSpan st => Sys2Proof.Machine.execStopSpan st s
  | .retryGate st gate => Sys2Proof.Machine.execRetryGate st gate s
  | .reopenRoad st => Sys2Proof.Machine.execReopenRoad st s
  | .closeRoad st => Sys2Proof.Machine.execCloseRoad st s
  | .releaseLane st gate => Sys2Proof.Machine.execReleaseLane st gate s
  | .holdLane st gate => Sys2Proof.Machine.execHoldLane st gate s
  | .releaseAll st => Sys2Proof.Machine.execReleaseAll st s
  | .holdAll st => Sys2Proof.Machine.execHoldAll st s
  | .openSpan st => Sys2Proof.Machine.execOpenSpan st s
  | .closeNow st => Sys2Proof.Machine.execCloseNow st s
  | .abortOpening st => Sys2Proof.Machine.execAbortOpening st s
  | .continueOpening st => Sys2Proof.Machine.execContinueOpening st s
  | .setMask st fault value => Sys2Proof.Machine.execSetMask st fault value s
  | .ackFaults st => Sys2Proof.Machine.execAckFaults st s
  | .resumePrepare st => Sys2Proof.Machine.execResumePrepare st s
  | .resume st => Sys2Proof.Machine.execResume st s
  | .writeSetting st item value => Sys2Proof.Machine.execWriteSetting st item value s
  | .storeSettings st block => Sys2Proof.Machine.execStoreSettings st block s
  | .setProtect st value => Sys2Proof.Machine.execSetProtect st value s
  | .readStatus st => Sys2Proof.Machine.execReadStatus st s
  | .readLeaf st => Sys2Proof.Machine.execReadLeaf st s
  | .readApproach st ap => Sys2Proof.Machine.execReadApproach st ap s
  | .readSignals st => Sys2Proof.Machine.execReadSignals st s
  | .readFaults st => Sys2Proof.Machine.execReadFaults st s
  | .readLink st => Sys2Proof.Machine.execReadLink st s
  | .readSetting st item copy => Sys2Proof.Machine.execReadSetting st item copy s
  | .spanClockTick => Sys2Proof.Machine.execSpanClockTick s
  | .waterStaleExpiry => Sys2Proof.Machine.execWaterStaleExpiry s
  | .trackCount ch way => Sys2Proof.Machine.execTrackCount ch way s
  | .illegalTransition ch => Sys2Proof.Machine.execIllegalTransition ch s
  | .sensorFaultActive ch => Sys2Proof.Machine.execSensorFaultActive ch s
  | .sensorFaultInactive ch pair => Sys2Proof.Machine.execSensorFaultInactive ch pair s
  | .markEvent ch => Sys2Proof.Machine.execMarkEvent ch s
  | .speedWindowEnd ch => Sys2Proof.Machine.execSpeedWindowEnd ch s
  | .seatSwitchEstablished seated => Sys2Proof.Machine.execSeatSwitchEstablished seated s
  | .seatSwitchChange seated => Sys2Proof.Machine.execSeatSwitchChange seated s
  | .driveReadyChange active => Sys2Proof.Machine.execDriveReadyChange active s
  | .driveFaultChange active => Sys2Proof.Machine.execDriveFaultChange active s
  | .openLimitChange active => Sys2Proof.Machine.execOpenLimitChange active s
  | .emergencyStopChange active => Sys2Proof.Machine.execEmergencyStopChange active s
  | .keyChange on => Sys2Proof.Machine.execKeyChange on s
  | .lockLimitsEstablished l withdrawn driven => Sys2Proof.Machine.execLockLimitsEstablished l withdrawn driven s
  | .lockLimitChange l withdrawn driven => Sys2Proof.Machine.execLockLimitChange l withdrawn driven s
  | .lockTimeExpiry l => Sys2Proof.Machine.execLockTimeExpiry l s
  | .gateLimitsEstablished a b => Sys2Proof.Machine.execGateLimitsEstablished a b s
  | .gateLimitChange g limits => Sys2Proof.Machine.execGateLimitChange g limits s
  | .gateTravelExpiry g => Sys2Proof.Machine.execGateTravelExpiry g s
  | .gateObstruction g active => Sys2Proof.Machine.execGateObstruction g active s
  | .retryWaitExpiry g => Sys2Proof.Machine.execRetryWaitExpiry g s
  | .holdFlashExpiry g => Sys2Proof.Machine.execHoldFlashExpiry g s
  | .prewarnExpiry ap => Sys2Proof.Machine.execPrewarnExpiry ap s
  | .stopTimeExpiry ap => Sys2Proof.Machine.execStopTimeExpiry ap s
  | .clearMinExpiry ap => Sys2Proof.Machine.execClearMinExpiry ap s
  | .clearAlertExpiry ap => Sys2Proof.Machine.execClearAlertExpiry ap s
  | .zoneDetectorChange ap ix occupied => Sys2Proof.Machine.execZoneDetectorChange ap ix occupied s
  | .flashClockTick => Sys2Proof.Machine.execFlashClockTick s
  | .lampProvingSpan lamp proof => Sys2Proof.Machine.execLampProvingSpan lamp proof s
  | .signalLampProvingSpan dir colour proof => Sys2Proof.Machine.execSignalLampProvingSpan dir colour proof s
  | .beamEstablished beam broken => Sys2Proof.Machine.execBeamEstablished beam broken s
  | .beamBreak beam => Sys2Proof.Machine.execBeamBreak beam s
  | .beamClear beam => Sys2Proof.Machine.execBeamClear beam s
  | .gapTimerExpiry dir => Sys2Proof.Machine.execGapTimerExpiry dir s
  | .callTimeExpiry => Sys2Proof.Machine.execCallTimeExpiry s
  | .lingerExpiry => Sys2Proof.Machine.execLingerExpiry s
  | .roadIntervalExpiry => Sys2Proof.Machine.execRoadIntervalExpiry s
  | .settleIntervalExpiry => Sys2Proof.Machine.execSettleIntervalExpiry s
  | .leadPeriod => Sys2Proof.Machine.execLeadPeriod s
  | .replyTimerExpiry => Sys2Proof.Machine.execReplyTimerExpiry s
  | .receiveStart => Sys2Proof.Machine.execReceiveStart s
  | .receiveEnd bytes lineActive => Sys2Proof.Machine.execReceiveEnd bytes lineActive s
  | .preambleEnd => Sys2Proof.Machine.execPreambleEnd s
  | .preambleAbandon => Sys2Proof.Machine.execPreambleAbandon s
  | .sendEnd => Sys2Proof.Machine.execSendEnd s
  | .toneRepeat => Sys2Proof.Machine.execToneRepeat s
  | .toneEnd => Sys2Proof.Machine.execToneEnd s
  | .haltToneRecognised => Sys2Proof.Machine.execHaltToneRecognised s
  | .freshnessExpiry => Sys2Proof.Machine.execFreshnessExpiry s
  | .startupWaitEnd => Sys2Proof.Machine.execStartupWaitEnd s
  | .resumePrepareLapse => Sys2Proof.Machine.execResumePrepareLapse s
  | .storeWriteComplete verifyPassed => Sys2Proof.Machine.execStoreWriteComplete verifyPassed s

end Sys2Proof.Machine
end

