-- ==== Sys2Proof/Safety.lean ====
section
/-!
DEFINITION. The terms that the statements use: what the reactions to an event never change, what a request finds and how
it is answered, and what a safe state is (each one promise of the manual about the whole part).
-/

namespace Sys2Proof.Machine

open Sys2Proof

/-! ### What the reactions to an event leave alone -/

/-- A record but for its state and its changed flag. -/
def Rec.key (r : Rec) : Rec := { r with state := .booked, changed := false }

/-- The inputs of a gate, its hold and its lamp's health. -/
structure GateKept where
  held : Bool
  health : Health
  limits : Option GateLimits
  obstruct : Bool
  deriving DecidableEq, Repr

/-- What a gate keeps. -/
def Gate.kept (g : Gate) : GateKept :=
  { held := g.held, health := g.health, limits := g.limits, obstruct := g.obstruct }

/-- The readings and healths of an approach. -/
structure ApKept where
  amberHealth : Health
  zones : Three (Option Bool)
  gates : Six GateKept
  deriving DecidableEq, Repr

/-- What an approach keeps. -/
def Approach.kept (a : Approach) : ApKept :=
  { amberHealth := a.amberHealth, zones := a.zones, gates := Six.zip (fun _ g => Gate.kept g) a.gates a.gates }

/-- Everything the reactions to an event leave as it is. -/
structure Kept where
  role : Role
  roleValid : Bool
  clock : Nat
  flashOn : Bool
  lines : Lines
  keys : List Rec
  counter : Nat
  water : Water
  pos : Position
  creep : Bool
  candidate : Option Int
  lockout : Timer
  tailLimits : Option LockLimits
  toeLimits : Option LockLimits
  apA : ApKept
  apB : ApKept
  lamps : Health × Health × Health × Health
  beams : Option Bool × Option Bool
  number : Nat
  settle : Timer
  paired : Bool
  view : Option PartnerView
  age : Nat
  mismatch : Nat
  timers : Timer × Timer × Timer × Timer
  masks : List Bool
  prepare : Bool
  lapse : Timer
  settings : Settings
  port : Port
  horizon : Int
  cutCount : Nat
  pending : List Instr
  deriving DecidableEq, Repr


/-- What the reactions to an event leave as it is. -/
def State.kept (s : State) : Kept :=
  { role := s.role, roleValid := s.roleValid, clock := s.clock, flashOn := s.flashOn, lines := s.lines,
    keys := s.book.records.map Rec.key, counter := s.book.counter, water := s.water, pos := s.pos,
    creep := s.motion.creep, candidate := s.motion.teachCandidate, lockout := s.motion.teachLockout,
    tailLimits := s.locks.tail.limits, toeLimits := s.locks.toe.limits, apA := s.apA.kept, apB := s.apB.kept,
    lamps := (s.signals.inbound.red, s.signals.inbound.amber, s.signals.outbound.red, s.signals.outbound.amber),
    beams := (s.signals.downstream, s.signals.upstream), number := s.opening.number, settle := s.opening.settle,
    paired := s.link.paired, view := s.link.view, age := s.link.age, mismatch := s.link.mismatch,
    timers := (s.link.freshness, s.link.reply, s.link.startup, s.link.period),
    masks := s.faults.recs.toList.map (·.mask), prepare := s.faults.prepare, lapse := s.faults.lapse,
    settings := s.settings, port := s.port, horizon := s.horizon, cutCount := s.cutCount,
    pending := s.pending }

/-! ### What a request finds, and how it is answered -/

namespace State

/-- The state a non-read request finds: the first event after reset has had its reports, and the resume-prepare flag is
cleared (R176; entry 7). -/
def asked (s : State) : State := s.wake.clearPrepare

end State

/-- The port once a response has been formed (R189, R192). -/
def Port.answered (p : Port) (r : Result) (data : List Byte) : Port :=
  { p with state := .ready, request := [], response := some { result := r, data := data } }

/-- What a request keeps beside its own effect: the resume-prepare flag is cleared and the port holds the response. -/
def State.keptAnswer (s : State) (r : Result) (data : List Byte) : Kept :=
  { s.kept with prepare := false, lapse := .stopped, port := s.port.answered r data }

namespace State

/-- The keys of the records when the record of a passage number closes now (R18): its closed-at is written, and the
follows of every live record that names it is removed. -/
def closedKeys (s : State) (n : Nat) : List Rec :=
  s.book.records.map fun r =>
    if r.number = n then { r.key with closedAt := some s.clock }
    else if r.live = true ∧ r.follows = some n then { r.key with follows := none }
    else r.key

/-- The keys of the records when every live record has its required angle computed afresh at a water level (R19, R29,
R30). -/
def levelKeys (s : State) (level : Int) : List Rec :=
  s.book.records.map fun r =>
    if r.live = true then
      { r.key with
          required := requiredOn (s.items.clearance.table.getD []) (r.draft + s.items.clearance.margin + level) }
    else r.key

end State

/-! ### Values that a write of a whole list takes -/

/-- A clearance table that stands none of the refusals of R24 against a FULL_OPEN. -/
def TableFits (full : Int) (t : List (Int × Int)) : Prop :=
  2 ≤ t.length ∧ t.length ≤ 12 ∧ (∀ p ∈ t, 0 ≤ p.1 ∧ p.1 ≤ 8500 ∧ 0 ≤ p.2 ∧ p.2 ≤ 6500) ∧
    (∀ p, t.head? = some p → p.1 = 0) ∧ (∀ xs p q ys, t = xs ++ p :: q :: ys → p.1 < q.1 ∧ p.2 ≤ q.2) ∧
    ∀ p, t.getLast? = some p → p.1 ≤ full

/-- Envelope bands that stand none of the refusals of R67 against a FULL_OPEN. -/
def BandsFit (full : Int) (bs : List RawBand) : Prop :=
  1 ≤ bs.length ∧ bs.length ≤ 8 ∧
    (∀ b ∈ bs, -300 ≤ b.upper ∧ b.upper ≤ 8800 ∧ 100 ≤ b.upLimit ∧ b.upLimit ≤ 20000 ∧ 100 ≤ b.downLimit ∧
      b.downLimit ≤ 20000 ∧ b.cls ≤ 1) ∧
    (∀ xs b c ys, bs = xs ++ b :: c :: ys → b.upper < c.upper) ∧ ∀ b, bs.getLast? = some b → full + 300 ≤ b.upper

/-! ### Grouping (R130, R131) -/

/-- A record of the book that R130 lets into an opening as far as its own fields go: BOOKED, its required angle above 0 and,
where a limit is set, not above it (R139), its not-before within the gathering window. -/
def Ready (s : State) (limit : Option Int) (r : Rec) : Prop :=
  r ∈ s.book.records ∧ r.state = .booked ∧
    (∃ a, r.required = .angle a ∧ 0 < a ∧ ∀ t, limit = some t → a ≤ t) ∧
    ∀ t, r.notBefore = some t → (t : Int) ≤ s.clock + s.items.channel.gatherWindow

/-- A record that may be taken into the group at one event (R130): its follows is absent, names a record on the group list,
or names a record that may itself be taken. -/
inductive Eligible (s : State) (limit : Option Int) : Rec → Prop
  | free (r : Rec) (ready : Ready s limit r) (on : ∀ n, r.follows = some n → n ∈ s.opening.group) : Eligible s limit r
  | led (q r : Rec) (ready : Ready s limit r) (taken : Eligible s limit q) (follows : r.follows = some q.number) :
    Eligible s limit r

/-- Grouping order (R131): URGENT before ROUTINE, then the earlier not-before, an absent one counting as 0, then book
order. -/
def GroupsBefore (s : State) (x y : Rec) : Prop :=
  x.priority = .urgent ∧ y.priority = .routine ∨
    x.priority = y.priority ∧
      (x.notBefore.getD 0 < y.notBefore.getD 0 ∨
        x.notBefore.getD 0 = y.notBefore.getD 0 ∧ ∃ xs ys zs, s.book.records = xs ++ x :: ys ++ y :: zs)

/-- One eligible record leads another: it is the predecessor that the other waits for, or leads it (R131). -/
inductive Leads (s : State) (limit : Option Int) : Rec → Rec → Prop
  | next (q r : Rec) (lead : Eligible s limit q) (eligible : Eligible s limit r) (follows : r.follows = some q.number)
      (off : q.number ∉ s.opening.group) : Leads s limit q r
  | far (p q r : Rec) (up : Leads s limit p q) (down : Leads s limit q r) : Leads s limit p r

/-- A record that the walk of R131 sets aside: one that leads it comes later in grouping order. -/
def SetAside (s : State) (limit : Option Int) (r : Rec) : Prop := ∃ q, Leads s limit q r ∧ GroupsBefore s r q

/-- The numbers taken into the group at one event, in their order (R130, R131): every eligible record's while the list has
room for six. They stand in grouping order, but for those set aside: each of these follows directly on its predecessor, with
nothing between but others set aside that the same predecessor leads (the order of several set aside for one record is the
model's own, entry 39, and not said). -/
def Taken (s : State) (limit : Option Int) (ns : List Nat) : Prop :=
  let room := s.opening.group.length + ns.length
  ns ≠ [] ∧ ns.Nodup ∧ room ≤ 6 ∧
  (∀ n ∈ ns, ∃ r, Eligible s limit r ∧ r.number = n) ∧
  (room < 6 → ∀ r, Eligible s limit r → r.number ∈ ns) ∧
  (∀ q r, Leads s limit q r → r.number ∈ ns → ∃ xs ys, ns = xs ++ r.number :: ys ∧ q.number ∈ xs) ∧
  (∀ q r, Eligible s limit q → Eligible s limit r → ¬SetAside s limit q → ¬SetAside s limit r → GroupsBefore s q r →
    r.number ∈ ns → ∃ xs ys, ns = xs ++ r.number :: ys ∧ q.number ∈ xs) ∧
  (∀ q r xs ys, SetAside s limit r → Leads s limit q r → r.follows = some q.number → ns = xs ++ q.number :: ys →
    ∃ zs, (zs = ys ∨ ∃ rest, ys = zs ++ r.number :: rest) ∧
      (zs = ys → room = 6) ∧
      ∀ n ∈ zs, ∃ p, p.number = n ∧ SetAside s limit p ∧ Leads s limit q p)

/-! ### Targets, joins, returns and call ends (R31, R119, R122, R129, R138 to R141) -/

/-- A record whose number the group list names. -/
def Grouped (s : State) (r : Rec) : Prop := ∃ n ∈ s.opening.group, s.findRec n = some r

/-- The target angle of R31 for the records on the group list: the largest of their required angles plus ANGLE_MARGIN, at
least MIN_OPEN and at most FULL_OPEN; MIN_OPEN for no record. -/
def TargetIs (s : State) (target : Int) : Prop :=
  (∀ r, ¬Grouped s r) ∧ target = s.minOpen ∨
    (∃ r, Grouped s r) ∧
      ∃ top : Int, 0 ≤ top ∧ (∀ r a, Grouped s r → r.required = .angle a → a ≤ top) ∧
        (top = 0 ∨ ∃ r, Grouped s r ∧ r.required = .angle top) ∧
        target = min s.fullOpen (max (top + s.angleMargin) s.minOpen)

/-- The target is still recomputed: the frozen flag is clear in a phase before RAISING (R138). -/
def TargetOpen (s : State) : Prop :=
  s.opening.frozen = false ∧
    (s.opening.phase = .pending ∨ s.opening.phase = .closingRoad ∨ s.opening.phase = .unlocking)

/-- The examination of R139 takes one state to another. In the five phases, with the close requested flag clear and room on
the list, the eligible records join: their records are GROUPED and changed, their numbers stand at the end of the list, the
linger timer is stopped (R141), and before the freeze the target is that of the list (R138); after it none joins whose
required angle is above the target. Elsewhere nothing changes. -/
def Joins (w u : State) : Prop :=
  let o := w.opening
  let limit := if o.frozen then o.target else none
  let may := w.role ≠ .follow ∧
    (o.phase = .pending ∨ o.phase = .closingRoad ∨ o.phase = .unlocking ∨ o.phase = .raising ∨ o.phase = .heldOpen) ∧
    o.closeRequested = false ∧ o.group.length < 6 ∧ ∃ r, Eligible w limit r
  (¬may → u = w) ∧
  (may → ∃ ns, Taken w limit ns ∧
    u = { w with
      book := { w.book with
        records := w.book.records.map fun r =>
          if r.number ∈ ns then { r with state := .grouped, changed := true } else r },
      opening := { o with group := o.group ++ ns, linger := .stopped, target := u.opening.target } } ∧
    (¬TargetOpen w → u.opening.target = o.target) ∧
    (TargetOpen w → ∃ target, u.opening.target = some target ∧ TargetIs u target))

/-- What leaving the group list does to the opening record, the list after it being that of `m` (R129, R138, R141): an
emptied list ends an opening in PENDING and starts the linger wait in HELD_OPEN; before the freeze the target is that of the
list. -/
def GroupLeft (v m : State) : Prop :=
  let o := v.opening
  let emptied : Bool := o.group ≠ [] ∧ m.opening.group = []
  if emptied ∧ o.phase = .pending then
    m.opening = { o with
      phase := .idle, group := [], target := none, runDir := none, resumePoint := none, frozen := false,
      suspended := false, closeRequested := false, linger := .stopped, command := none }
  else
    m.opening = { o with
      group := m.opening.group, target := m.opening.target,
      linger := if emptied ∧ o.phase = .heldOpen then
          (if v.items.channel.linger = 0 then .expired else .running (v.items.channel.linger * 1000).toNat)
        else o.linger } ∧
    (¬TargetOpen v → m.opening.target = o.target) ∧
    (TargetOpen v → ∃ target, m.opening.target = some target ∧ TargetIs m target)

/-- The signals after a call end of a direction (R119, R122): the context is emptied, FOLLOW_GAP runs for that direction and
TURNAROUND for the other, a gap of 0 standing stopped. -/
def State.callEnded (s : State) (d : Dir) : Signals :=
  let gap := fun (secs : Int) => if secs = 0 then Timer.stopped else .running (secs * 1000).toNat
  let own := gap s.items.channel.followGap
  let cross := gap s.items.channel.turnaround
  { s.signals with
    inbound := { s.signals.inbound with gap := if d = .inbound then own else cross },
    outbound := { s.signals.outbound with gap := if d = .outbound then own else cross },
    call := { serving := s.signals.call.serving, called := none, callTimer := .stopped, passing := none,
              exitSeen := false, lastEnd := some d } }

/-- The records of the list are tested with new required angles, those that satisfy `on` (R140). A GROUPED or CALLED one
whose value is 0 or UNACHIEVABLE, or after the freeze above the target, is BOOKED again and off the list, its call ended; a
PASSING one whose value is above the target stays and latches CLEARANCE_SHORT unless that is masked; any other record stays
as it is. -/
def Tested (v m : State) (on : Rec → Prop) : Prop :=
  let beyond := fun (r : Rec) =>
    ∃ target, v.opening.target = some target ∧ (r.required = .unachievable ∨ ∃ a, r.required = .angle a ∧ target < a)
  let returned := fun (r : Rec) =>
    on r ∧ (r.state = .grouped ∨ r.state = .called) ∧
      (r.required = .unachievable ∨ (∃ a, r.required = .angle a ∧ a ≤ 0) ∨ v.opening.frozen = true ∧ beyond r)
  let short := ∃ r ∈ v.book.records, on r ∧ r.state = .passing ∧ beyond r
  m = { v with book := { v.book with records := m.book.records }, opening := m.opening, signals := m.signals,
               faults := { v.faults with recs := m.faults.recs } } ∧
  v.book.records.Forall₂
    (fun r q => (returned r → q = { r with state := .booked, changed := true }) ∧ (¬returned r → q = r)) m.book.records ∧
  m.opening.group.Sublist v.opening.group ∧
  (∀ n, n ∈ m.opening.group ↔ n ∈ v.opening.group ∧ ∀ r ∈ v.book.records, r.number = n → ¬returned r) ∧
  GroupLeft v m ∧
  (∀ r ∈ v.book.records, r.state = .called → returned r → m.signals = v.callEnded r.dir) ∧
  ((∀ r ∈ v.book.records, r.state = .called → ¬returned r) → m.signals = v.signals) ∧
  (∀ f, (f = .clearanceShort ∧ (v.fault f).mask = false ∧ short → m.fault f = { v.fault f with latch := true }) ∧
    (¬(f = .clearanceShort ∧ (v.fault f).mask = false ∧ short) → m.fault f = v.fault f))

/-- The records with the required angle of every live one computed afresh, and its changed flag set where that differs (R19,
R29, R30). -/
def State.reangled (s : State) : List Rec :=
  s.book.records.map fun r =>
    let required := requiredOn (s.items.clearance.table.getD [])
      (r.draft + s.items.clearance.margin + s.effectiveWater)
    if r.live then { r with required := required, changed := r.changed || decide (required ≠ r.required) } else r

/-- A re-evaluation takes one state to another (R19, R30, R139, R140): the required angles are written, the records of the
list are tested with them, and the sequencer examines the book for joins. -/
def Reevaluated (v u : State) : Prop :=
  ∃ m, Tested { v with book := { v.book with records := v.reangled } } m (fun _ => True) ∧ Joins m u

/-! ### Promises about the whole part -/

/-- The obstruction retries of a gate (R85, R90): at most three are counted, a retry wait runs on a gate that does not
move, and an obstruction reversal is a rise. -/
def Gate.RetryRight (g : Gate) : Prop :=
  g.retryCount ≤ 3 ∧
    (g.retryWait.isRunning = true → g.state ≠ .lowering ∧ g.state ≠ .raising ∧ g.retryCount ≤ 2) ∧
    (g.reversing = true → g.state = .raising ∧ g.retryCount ≤ 2)

namespace State

/-- DRIVE_PERMIT is on exactly in RAISING, HOLDING, LOWERING and SEAT_APPROACH while every condition of R59 holds. -/
def PermitExact (s : State) : Prop :=
  s.motion.permit = true ↔
    (s.motion.state = .raising ∨ s.motion.state = .holding ∨ s.motion.state = .lowering ∨
      s.motion.state = .seatApproach) ∧
    s.faults.halted = false ∧ s.apPermits .a = true ∧ s.apPermits .b = true ∧
    (s.role ≠ .sole → s.link.paired = true)

/-- The other drive outputs follow the motion state and the permit by the table of R60; the class of RAISING and LOWERING
is that of R68. -/
def DriveFollows (s : State) : Prop :=
  let m := s.motion
  match m.state with
  | .raising =>
    m.direction = .up ∧ m.brakeRelease = m.permit ∧ m.speedClass = if m.permit then s.runClass else .zero
  | .lowering =>
    m.direction = .down ∧ m.brakeRelease = m.permit ∧ m.speedClass = if m.permit then s.runClass else .zero
  | .seatApproach =>
    m.direction = .down ∧ m.brakeRelease = m.permit ∧ m.speedClass = if m.permit then .creep else .zero
  | .holding =>
    if m.correction then
      m.direction = .up ∧ m.brakeRelease = m.permit ∧ m.speedClass = if m.permit then .creep else .zero
    else m.brakeRelease = false ∧ m.speedClass = .zero
  | .seatedLocked | .seatedFree | .stopped | .halted => m.brakeRelease = false ∧ m.speedClass = .zero

/-- A seated leaf is SEATED_LOCKED exactly while every owned lock is DRIVEN (R62). -/
def SeatedFollows (s : State) : Prop :=
  s.motion.state = .seatedLocked ∨ s.motion.state = .seatedFree →
    (s.motion.state = .seatedLocked ↔
      s.locks.tail.state = .driven ∧ (s.role ≠ .follow → s.locks.toe.state = .driven))

/-- Each direction shows the aspect that R112 forms. -/
def AspectsFormed (s : State) : Prop :=
  s.signals.inbound.aspect = s.aspectOf .inbound ∧ s.signals.outbound.aspect = s.aspectOf .outbound

/-- No used gate is on its way up but a RELEASED one on a SEATED_LOCKED leaf (R88). -/
def GatesSafe (s : State) : Prop :=
  ∀ g : GateId, s.gateUsed g = true → (s.gate g).state = .raising →
    (s.gate g).held = false ∧ s.motion.state = .seatedLocked

/-- The lane lamp of every used gate shows what the table of R93 gives. -/
def LampsFormed (s : State) : Prop :=
  ∀ g : GateId, s.gateUsed g = true →
    let x := s.gate g
    match (s.ap g.ap).closure with
    | .stopping | .entryLowering | .clearing | .exitLowering => x.lamp = .redFlash
    | .closed | .reopening | .restart => x.lamp = .red
    | .openRoad | .prewarn =>
      x.lamp =
        if x.held then (if x.holdFlash.isRunning then .redFlash else .red)
        else if x.state = .up then .dark else .red

/-- The obstruction retries of all twelve gates are right (R85, R90). -/
def RetryBounded (s : State) : Prop := ∀ g : GateId, (s.gate g).RetryRight

/-- In span halt the leaf is HALTED with its four outputs quiet, and both directions show STOP (R82, R112, R173). -/
def HaltHeld (s : State) : Prop :=
  s.faults.halted = true →
    s.motion.state = .halted ∧ s.motion.permit = false ∧ s.motion.brakeRelease = false ∧ s.motion.speedClass = .zero ∧
      s.signals.inbound.aspect = .stop ∧ s.signals.outbound.aspect = .stop

/-- No HALT- or HOLD-class fault is masked, a masked fault has neither condition nor latch, and a condition that is true
has its latch set (R168, R171 to R173). -/
def FaultsRight (s : State) : Prop :=
  ∀ f : FaultId,
    (f.cls ≠ .warning → (s.fault f).mask = false) ∧
    ((s.fault f).mask = true → (s.fault f).cond = false ∧ (s.fault f).latch = false) ∧
    ((s.fault f).cond = true → (s.fault f).latch = true)

/-- The book holds at most 24 records, under different numbers from 1 to 65535, and its counter is one of these
(R1, R3, R4). -/
def BookNumbered (s : State) : Prop :=
  s.book.records.length ≤ 24 ∧ (s.book.records.map (·.number)).Nodup ∧
    (∀ r ∈ s.book.records, 1 ≤ r.number ∧ r.number ≤ 65535) ∧ 1 ≤ s.book.counter ∧ s.book.counter ≤ 65535

/-- No two live records share a vessel reference (R3). -/
def VesselsApart (s : State) : Prop := ((s.book.records.filter Rec.live).map (·.vessel)).Nodup

/-- A record has a closed-at exactly in a closed state (R1). -/
def ClosedMarked (s : State) : Prop := ∀ r ∈ s.book.records, r.closedAt.isSome = !r.live

/-- The follows of a live record names a live record of the same direction that stands earlier in book order (R1). -/
def FollowsEarlier (s : State) : Prop :=
  ∀ xs r ys, s.book.records = xs ++ r :: ys → r.live = true → ∀ n, r.follows = some n →
    ∃ q ∈ xs, q.number = n ∧ q.live = true ∧ q.dir = r.dir

/-- At most one record of the book is CALLED or PASSING (R121). -/
def OneCall (s : State) : Prop :=
  (s.book.records.countP fun r => r.state == .called || r.state == .passing) ≤ 1

/-- The group list holds exactly the numbers of the GROUPED, CALLED and PASSING records, at most six and none twice
(R128, R129). -/
def GroupExact (s : State) : Prop :=
  s.opening.group.length ≤ 6 ∧ s.opening.group.Nodup ∧
    (∀ n ∈ s.opening.group, ∃ r ∈ s.book.records, r.number = n) ∧
    ∀ r ∈ s.book.records,
      (r.number ∈ s.opening.group ↔ r.state = .grouped ∨ r.state = .called ∨ r.state = .passing)

/-- Where the records of an opening may stand (R129, R137, R141, R142, R144): the list is empty in IDLE and from LOWERING on,
and wherever the linger timer is not stopped; in IDLE that timer is stopped and the close requested flag clear, and both hold
of a FOLLOW; with the flag set no record is GROUPED or CALLED; a suspended opening has its phase as its resume point; and a record is
CALLED or PASSING in RAISING and HELD_OPEN alone. -/
def GroupPlaced (s : State) : Prop :=
  let o := s.opening
  (o.phase = .idle ∨ o.phase = .lowering ∨ o.phase = .locking ∨ o.phase = .reopeningRoad → o.group = []) ∧
  (o.linger ≠ .stopped → o.group = []) ∧
  (o.phase = .idle ∨ s.role = .follow → o.linger = .stopped ∧ o.closeRequested = false) ∧
  (o.closeRequested = true → ∀ r ∈ s.book.records, r.state ≠ .grouped ∧ r.state ≠ .called) ∧
  (s.role ≠ .follow → o.suspended = true → o.resumePoint = some o.phase) ∧
  ∀ r ∈ s.book.records, r.state = .called ∨ r.state = .passing → o.phase = .raising ∨ o.phase = .heldOpen

/-- The book and the group list are as every step keeps them (R1, R3, R121, R129). -/
def OpeningSound (s : State) : Prop :=
  s.BookNumbered ∧ s.FollowsEarlier ∧ s.OneCall ∧ s.GroupExact ∧ s.GroupPlaced

/-- Every block has reacted: the first event after reset has been, and one more round of the reactions changes nothing. -/
def Settled (s : State) : Prop := s.justReset = false ∧ s.round = s

/-- The start test and the advances are not held back (R133, R136): the opening is not suspended, no HOLD latch is set, and
in LEAD role the view is fresh and does not show HOLD active. -/
def MayAdvance (s : State) : Prop :=
  s.role ≠ .follow ∧ s.opening.suspended = false ∧ (∀ f, f.cls = .hold → s.latched f = false) ∧
    (s.role = .lead → s.link.paired = true ∧ ∀ v, s.link.view = some v → v.holdActive = false)

/-- The condition on which the phase is left (R136): the part's own, and in LEAD role the FOLLOW's in its frame. -/
def PhaseDone (s : State) : Prop :=
  let shown := fun (f : PartnerView → Bool) => s.role = .lead → ∃ v, s.link.view = some v ∧ f v = true
  let all := fun (c : Closure) => ∀ x, s.usesAp x = true → (s.ap x).closure = c
  match s.opening.phase with
  | .closingRoad => all .closed ∧ shown (·.closed)
  | .unlocking =>
    s.locks.tail.state = .withdrawn ∧ (s.role ≠ .follow → s.locks.toe.state = .withdrawn) ∧ shown (·.withdrawn)
  | .raising => s.motion.state = .holding ∧ shown (·.holding)
  | .heldOpen =>
    s.opening.linger = .expired ∨ s.opening.closeRequested = true ∧ ∀ r ∈ s.book.records, r.state ≠ .passing
  | .lowering => (s.motion.state = .seatedFree ∨ s.motion.state = .seatedLocked) ∧ shown (·.seated)
  | .locking => s.motion.state = .seatedLocked ∧ shown (·.locked)
  | .reopeningRoad => all .openRoad ∧ shown fun v => v.closure == 0
  | .idle | .pending => False

/-- A call is due (R120). -/
def CallIsDue (s : State) : Prop :=
  s.role ≠ .follow ∧ s.opening.phase = .heldOpen ∧ s.opening.suspended = false ∧ s.faults.halted = false ∧
    s.motion.state = .holding ∧ (s.role = .lead → ∃ v, s.link.view = some v ∧ v.motion = 3) ∧
    ∀ r ∈ s.book.records, r.state ≠ .called ∧ r.state ≠ .passing

/-- A record's required angle is not above the GO angle, which is absent while the view of a twin role is stale (R113). -/
def AngleReached (s : State) (r : Rec) : Prop :=
  ∃ a, r.required = .angle a ∧ a ≤ s.angle ∧
    (s.role ≠ .sole → s.link.paired = true ∧ ∃ v, s.link.view = some v ∧ a ≤ v.angle)

/-- The record of a number is a candidate for a call (R120). -/
def IsCandidate (s : State) (n : Nat) (d : Dir) : Prop :=
  n ∈ s.opening.group ∧ (s.dirRec d).red = .normal ∧ (s.dirRec d).green = .normal ∧
    ∃ r, s.findRec n = some r ∧ r.state = .grouped ∧ r.dir = d ∧ r.follows = none ∧ s.AngleReached r

/-- A number is that of the first candidate of a direction in group list order (R120). -/
def FirstCandidate (s : State) (n : Nat) (d : Dir) : Prop :=
  s.IsCandidate n d ∧ ∃ xs ys, s.opening.group = xs ++ n :: ys ∧ ∀ k ∈ xs, ¬s.IsCandidate k d

/-- The road credit counter lies between 0 and ROAD_CREDITS (R134). -/
def CreditsBounded (s : State) : Prop := (s.opening.credits : Int) ≤ s.items.road.roadCredits

/-- In SOLE role the link state reads SEEKING, the partner view is empty and the buffer is QUIET (R151). -/
def LinkOff (s : State) : Prop :=
  s.role = .sole → s.link.paired = false ∧ s.link.view = none ∧ s.link.buffer = .quiet

/-- In FOLLOW role the book holds no record (R21) and the water source stays NONE (R35). -/
def FollowEmpty (s : State) : Prop := s.role = .follow → s.book.records = [] ∧ s.water.source = .none

end State

end Sys2Proof.Machine
end

