-- ==== Sys2Proof/Certificates/Slice0/Obligations.lean ====
section
/-!
DEFINITION. The statements for the provers. `s.wake` is the state a first event after reset finds (the model's reading,
entry 7), and every later event finds the state as it is; `s.asked` is that state with the resume-prepare flag cleared
(R176). `u.settle` is the state `u` once every block has reacted to it, in the rounds and the order the model chose
(entries 1 and 8). `u.respond` forms the response at the taking and leaves the port READY with it at once (entry 26).
-/

open Sys2Proof Sys2Proof.Machine

/-! ### The queue, time and reset -/

/-- A step takes the command at the front of the queue and runs it on the state with the queue's rest. -/
def Obligations.StepRunsFront : Prop :=
  ∀ (c : Instr) (rest : List Instr) (s : State), s.pending = c :: rest → step s = exec c { s with pending := rest }

/-- On an empty queue one millisecond passes (the model's choice, entry 2): every running timer is 1 ms nearer its end, a
partner view is 1 ms older, and a port at work becomes READY, with the response it was to give (R189 gives it 200 µs).
Nothing else changes. -/
def Obligations.StepIdle : Prop :=
  ∀ s : State, s.pending = [] →
    let nearer := fun (t : Timer) => match t with | .running ms => Timer.running (ms - 1) | t => t
    ∃ t, step s = .next t ∧
      t = { s with
        motion := { s.motion with teachLockout := nearer s.motion.teachLockout },
        locks := { s.locks with tail := { s.locks.tail with timer := nearer s.locks.tail.timer },
                                toe := { s.locks.toe with timer := nearer s.locks.toe.timer } },
        apA := t.apA, apB := t.apB,
        signals := { s.signals with
          inbound := { s.signals.inbound with gap := nearer s.signals.inbound.gap },
          outbound := { s.signals.outbound with gap := nearer s.signals.outbound.gap },
          call := { s.signals.call with callTimer := nearer s.signals.call.callTimer } },
        opening := { s.opening with linger := nearer s.opening.linger,
                                    intervalTimer := nearer s.opening.intervalTimer, settle := nearer s.opening.settle },
        link := { s.link with
          freshness := nearer s.link.freshness, toneTimer := nearer s.link.toneTimer,
          toneLength := nearer s.link.toneLength, reply := nearer s.link.reply, startup := nearer s.link.startup,
          period := nearer s.link.period, age := if s.link.view = none then s.link.age else s.link.age + 1 },
        faults := { s.faults with lapse := nearer s.faults.lapse },
        port := if s.port.state = .working then { s.port with state := .ready, request := [] } else s.port } ∧
      (∀ x, t.ap x = { s.ap x with stateTimer := nearer (s.ap x).stateTimer, alertTimer := nearer (s.ap x).alertTimer,
                                   gates := (t.ap x).gates }) ∧
      ∀ g : GateId, t.gate g = { s.gate g with holdFlash := nearer (s.gate g).holdFlash,
                                               retryWait := nearer (s.gate g).retryWait,
                                               travel := nearer (s.gate g).travel }

/-- R22: after reset the book is empty, the counter 1, the span clock 0, the book's attention request withdrawn and the
sequencer IDLE, in every role. -/
def Obligations.ResetEmptiesBook : Prop :=
  ∀ (role1 role0 estop : Bool) (s : State), ∃ t, exec (.reset role1 role0 estop) s = .next t ∧
    t.book.records = [] ∧ t.book.counter = 1 ∧ t.clock = 0 ∧ t.bookAttention = false ∧ t.opening.phase = .idle

/-- RESET takes the role from the lines (R188) and gives the blocks their reset values: the water record (R26), the track
channels and the seat (R36, R49), the motion record (R57), the locks (R74), the approaches and gates in use (R84, R85,
R110), the signals and the call context (R111, R119), the opening record and the road interval (R128, R134), the link
(R166), the fault unit's own fields (R167). -/
def Obligations.ResetValues : Prop :=
  ∀ (role1 role0 estop : Bool) (s : State), ∃ t, exec (.reset role1 role0 estop) s = .next t ∧
    t.role = (if role1 = false ∧ role0 = true then .lead else if role1 = true ∧ role0 = false then .follow else .sole) ∧
    t.roleValid = !(role1 && role0) ∧
    t.water = { source := .none, level := none, time := none, life := none } ∧
    t.pos.source = .p ∧ t.pos.seat = none ∧
    (∀ ch, (t.track ch).counter = 0 ∧ (t.track ch).travel = none ∧ (t.track ch).ref = .unreferenced ∧
      (t.track ch).firstMark = none ∧ (t.track ch).windowStart = 0 ∧ (t.track ch).speed = 0 ∧
      (t.track ch).failed = false) ∧
    t.motion.state = .stopped ∧ t.motion.kind = .none ∧ t.motion.correction = false ∧ t.motion.creep = false ∧
    t.motion.teachStep = .none ∧ t.motion.teachResult = .none ∧ t.motion.teachCandidate = none ∧
    t.motion.permit = false ∧ t.motion.direction = .up ∧ t.motion.speedClass = .zero ∧ t.motion.brakeRelease = false ∧
    t.locks.tail.state = .jammed ∧ t.locks.toe.state = (if t.role = .follow then .driven else .jammed) ∧
    t.locks.tail.timer = .stopped ∧ t.locks.toe.timer = .stopped ∧
    (∀ x, t.usesAp x = true → (t.ap x).closure = .restart ∧ (t.ap x).reopenStep = none ∧
      (t.ap x).stateTimer = .stopped ∧ (t.ap x).alertTimer = .stopped ∧ (t.ap x).advancePending = false ∧
      (t.ap x).amberHealth = .normal ∧ (t.ap x).zones = ⟨none, none, none⟩) ∧
    (∀ g, t.gateUsed g = true → (t.gate g).state = .unknown ∧ (t.gate g).held = true ∧ (t.gate g).demand = .none ∧
      (t.gate g).holdFlash = .stopped ∧ (t.gate g).lamp = .red ∧ (t.gate g).health = .normal ∧
      (t.gate g).retryCount = 0 ∧ (t.gate g).retryWait = .stopped ∧ (t.gate g).travel = .stopped) ∧
    (∀ d, t.dirRec d = { aspect := .stop, red := .normal, amber := .normal, green := .normal, gap := .stopped }) ∧
    t.signals.downstream = none ∧ t.signals.upstream = none ∧
    t.signals.call = { serving := none, called := none, callTimer := .stopped, passing := none, exitSeen := false,
                       lastEnd := none } ∧
    t.opening.number = 0 ∧ t.opening.group = [] ∧ t.opening.target = none ∧ t.opening.frozen = false ∧
    t.opening.creditUsed = false ∧ t.opening.runDir = none ∧ t.opening.suspended = false ∧
    t.opening.resumePoint = none ∧ t.opening.closeRequested = false ∧ t.opening.linger = .stopped ∧
    t.opening.interval = .elapsed ∧ t.opening.credits = t.items.road.roadCredits.toNat ∧ t.opening.settle = .stopped ∧
    t.link.paired = false ∧ t.link.view = none ∧ t.link.buffer = .quiet ∧ t.link.mismatch = 0 ∧
    t.link.freshness = .stopped ∧ t.link.toneTimer = .stopped ∧ t.link.reply = .stopped ∧
    (t.role ≠ .sole → t.link.startup = .running t.items.link.linkTimeout.toNat) ∧
    (t.role = .lead → t.link.period = .running 50) ∧
    t.faults.halted = false ∧ t.faults.entryFault = none ∧ t.faults.enteredAt = none ∧ t.faults.prepare = false ∧
    t.faults.lapse = .stopped

/-- RESET loads the settings (R182, R186, R187). A block loads exactly where its check value matches, every item has a value
in its own range, and the conditions across its items hold: in GEOMETRY, MIN_OPEN is at most FULL_OPEN and SKEW_SLOW below
SKEW_HALT; the table and the bands fit the loaded FULL_OPEN, or 8500 where GEOMETRY is rejected. A loaded block gives its
stored values; a rejected GEOMETRY has no value, a rejected CLEARANCE no table and its other defaults, any other rejected
block its defaults. A failed load latches STORE_FAIL unless the loaded masks mask it, and the EMERGENCY_STOP line its own
latch (R169). Of a store write that the reset cuts off, the old copy stands, or the new one, or the block, or PROTECT, is
rejected (which of these is free, entry 11); nothing else of the store changes. That STORE_FAIL and UNCONFIGURED are latched
in the reset state, where R169 and R180 speak of EMERGENCY_STOP alone (entry 58), and that a default ROAD block outside SOLE role
has every gate and detector of approach B UNUSED (entry 56), are the model's choices. -/
def Obligations.ResetLoads : Prop :=
  ∀ (role1 role0 estop : Bool) (s : State), ∃ t, exec (.reset role1 role0 estop) s = .next t ∧
    let x := t.settings
    let old := s.settings
    (∀ b, x.rejected.at b = false ↔
      crc16 (x.stored.blockBytes b) = x.checks.at b ∧
      (∀ i ∈ b.items, ∃ v, x.stored.get i = some v ∧ ∀ n, v = .num n → i.range.1 ≤ n ∧ n ≤ i.range.2) ∧
      (b = .geometry →
        (∀ m f, x.stored.get .minOpen = some (.num m) → x.stored.get .fullOpen = some (.num f) → m ≤ f) ∧
        ∀ m h, x.stored.get .skewSlow = some (.num m) → x.stored.get .skewHalt = some (.num h) → m < h) ∧
      (b = .clearance → ∀ table, x.stored.get .table = some (.table table) →
        TableFits (t.items.geometry.fullOpen.getD 8500) table) ∧
      (b = .envelope → ∀ bands, x.stored.get .bands = some (.bands bands) →
        BandsFit (t.items.geometry.fullOpen.getD 8500) bands)) ∧
    (∀ b, x.rejected.at b = false → ∀ i ∈ b.items, t.items.get i = x.stored.get i) ∧
    (x.rejected.geometry = true → ∀ i ∈ BlockId.geometry.items, t.items.get i = none) ∧
    (x.rejected.clearance = true →
      t.items.clearance = { table := none, margin := 50, waterHigh := 900, waterStale := 600 }) ∧
    (∀ b, b ≠ .geometry → b ≠ .clearance → x.rejected.at b = true →
      ∀ i ∈ b.items, t.items.get i = (Items.default t.role).get i) ∧
    x.protect = (if x.protectLoads then x.storedProtect else true) ∧
    x.writing = none ∧ x.lastTarget = none ∧ x.lastOutcome = .none ∧
    (∀ f, (t.fault f).mask = t.items.masks.at f) ∧
    (t.latched .storeFail = true ↔
      (x.protectLoads = false ∨ ∃ b, x.rejected.at b = true) ∧ t.items.masks.storeFail = false) ∧
    t.latched .emergencyStop = estop ∧ t.latched .unconfigured = t.unconfiguredCause ∧
    (let blocksStay := x.stored = old.stored ∧ x.checks = old.checks
     let protectStays := x.storedProtect = old.storedProtect ∧ x.protectCheck = old.protectCheck
     (old.writing = none → blocksStay ∧ protectStays) ∧
      (∀ v, old.writing = some (.protect v) → blocksStay ∧
        (protectStays ∨ x.storedProtect = v ∧ x.protectLoads = true ∨ x.protectLoads = false)) ∧
      ∀ b copy, old.writing = some (.block b copy) → protectStays ∧
        (∀ d, d ≠ b → x.checks.at d = old.checks.at d ∧ ∀ i ∈ d.items, x.stored.get i = old.stored.get i) ∧
        (blocksStay ∨
          x.checks.at b = crc16 (copy.blockBytes b) ∧ (∀ i ∈ b.items, x.stored.get i = copy.get i) ∨
          crc16 (x.stored.blockBytes b) ≠ x.checks.at b))

/-- The state after power-on keeps every promise of the statements below. -/
def Obligations.ResetKeepsPromises : Prop :=
  State.reset.PermitExact ∧ State.reset.DriveFollows ∧ State.reset.SeatedFollows ∧ State.reset.AspectsFormed ∧
    State.reset.GatesSafe ∧ State.reset.LampsFormed ∧ State.reset.RetryBounded ∧ State.reset.HaltHeld ∧
    State.reset.FaultsRight ∧ State.reset.BookNumbered ∧ State.reset.VesselsApart ∧ State.reset.ClosedMarked ∧
    State.reset.FollowsEarlier ∧ State.reset.OneCall ∧ State.reset.GroupExact ∧ State.reset.GroupPlaced ∧
    State.reset.CreditsBounded ∧
    State.reset.LinkOff ∧ State.reset.FollowEmpty

/-! ### Promises that every step keeps -/

/-- Every step keeps the promises about the leaf: the drive permit is on exactly as R59 says, the other drive outputs stand
in the table of R60, a seated leaf is SEATED_LOCKED exactly while its owned locks are all DRIVEN (R62), and in span halt
the leaf is HALTED with its outputs quiet and both directions at STOP (R82, R112, R173). -/
def Obligations.LeafStaysRight : Prop :=
  (∀ s t : State, s.PermitExact → step s = .next t → t.PermitExact) ∧
    (∀ s t : State, s.DriveFollows → step s = .next t → t.DriveFollows) ∧
    (∀ s t : State, s.SeatedFollows → step s = .next t → t.SeatedFollows) ∧
    (∀ s t : State, s.HaltHeld → step s = .next t → t.HaltHeld)

/-- Every step keeps each direction's aspect as R112 forms it; and GO is then shown only as R113 allows: to the direction of
the CALLED record, with no halt, the leaf HOLDING (in LEAD role both leaves, on a fresh view), the GO angle at its required
angle or above, and the direction in service. -/
def Obligations.AspectsStayFormed : Prop :=
  (∀ s t : State, s.AspectsFormed → step s = .next t → t.AspectsFormed) ∧
    ∀ (s : State) (d : Dir), s.AspectsFormed → (s.dirRec d).aspect = .go →
      s.faults.halted = false ∧ s.motion.state = .holding ∧ (s.dirRec d).red = .normal ∧ (s.dirRec d).green = .normal ∧
      ∃ r ∈ s.book.records, r.state = .called ∧ r.dir = d ∧ s.signals.call.called = some r.number ∧
        (s.role = .sole → ∃ a, r.required = .angle a ∧ a ≤ s.angle) ∧
        (s.role ≠ .sole → s.link.paired = true ∧
          ∃ v, s.link.view = some v ∧ v.motion = 3 ∧ ∃ a, r.required = .angle a ∧ a ≤ s.angle ∧ a ≤ v.angle)

/-- Every step keeps the promises about the road: no gate is on its way up but a RELEASED one on a SEATED_LOCKED leaf (R88),
the lane lamps stand in the table of R93, and the obstruction retries of every gate are right (R85, R90). -/
def Obligations.RoadStaysRight : Prop :=
  (∀ s t : State, s.GatesSafe → step s = .next t → t.GatesSafe) ∧
    (∀ s t : State, s.LampsFormed → step s = .next t → t.LampsFormed) ∧
    (∀ s t : State, s.RetryBounded → step s = .next t → t.RetryBounded)

/-- Every step keeps the fault records right (R168, R171 to R173). -/
def Obligations.FaultsStayRight : Prop := ∀ s t : State, s.FaultsRight → step s = .next t → t.FaultsRight

/-- A span halt is ended by an accepted RESUME or a reset alone (R174, R177): the RESUME given as a command of its own, or
taken by the port at the end of a selection (R189, R191), in either case with the resume-prepare flag set and no HALT latch
or condition left. -/
def Obligations.HaltEndsOnlyByResume : Prop :=
  ∀ (c : Instr) (s t : State), s.faults.halted = true → exec c s = .next t → t.faults.halted = false →
    (∃ a b e, c = .reset a b e) ∨
      ((c = .resume .operator ∨ ∃ bytes, c = .selectionEnd bytes ∧ judgeFrame bytes = .ok (.resume .operator)) ∧
        s.faults.prepare = true ∧
        ∀ f, f.cls = .halt → s.wake.latched f = false ∧ (s.wake.fault f).cond = false)

/-- A latch is cleared by ACK_FAULTS, by SET_MASK or by a reset alone (R168): the request given as a command of its own, or
taken by the port at the end of a selection (R189, R191). ACK_FAULTS clears no latch whose condition is true (R172), and
SET_MASK the latch of the WARNING fault it masks alone (R171). -/
def Obligations.LatchesStay : Prop :=
  ∀ (c : Instr) (s t : State) (f : FaultId), s.latched f = true → exec c s = .next t → t.latched f = false →
    let asks := fun (i : Instr) => c = i ∨ ∃ bytes, c = .selectionEnd bytes ∧ judgeFrame bytes = .ok i
    (∃ a b e, c = .reset a b e) ∨ (asks (.ackFaults .operator) ∧ (s.wake.fault f).cond = false) ∨
      (f.cls = .warning ∧ asks (.setMask .maintenance f.index.val 1))

/-- Every step keeps the book's numbering (R1, R3, R4) and, with it, live records of different vessels (R3). -/
def Obligations.BookStaysNumbered : Prop :=
  (∀ s t : State, s.BookNumbered → step s = .next t → t.BookNumbered) ∧
    ∀ s t : State, s.BookNumbered → s.VesselsApart → step s = .next t → t.VesselsApart

/-- Every step keeps a closed-at in the closed states alone, and each follows on an earlier live record of the same
direction (R1). -/
def Obligations.FollowsStayEarlier : Prop :=
  ∀ s t : State, s.BookNumbered → s.ClosedMarked ∧ s.FollowsEarlier → step s = .next t →
    t.ClosedMarked ∧ t.FollowsEarlier

/-- Every step keeps at most one record CALLED or PASSING (R121), the group list exact, and the list empty while the phase is
IDLE and from LOWERING on (R129). The last is kept together with what it rests on: the linger timer runs on an empty list
alone (R141), close requested leaves no record GROUPED or CALLED (R142), a suspension keeps the phase as its resume point
(R144), and records are CALLED and PASSING in RAISING and HELD_OPEN alone. -/
def Obligations.GroupStaysExact : Prop :=
  (∀ s t : State, s.BookNumbered → s.OneCall → step s = .next t → t.OneCall) ∧
    (∀ s t : State, s.BookNumbered → s.GroupExact → step s = .next t → t.GroupExact) ∧
    ∀ s t : State, s.BookNumbered → s.FollowEmpty → s.GroupExact → s.GroupPlaced → step s = .next t → t.GroupPlaced

/-- Every step keeps the road credits between 0 and ROAD_CREDITS (R134), the link of a SOLE part off (R151), and the book
and water of a FOLLOW empty (R21, R35). -/
def Obligations.CreditsAndRolesStay : Prop :=
  (∀ s t : State, s.CreditsBounded → step s = .next t → t.CreditsBounded) ∧
    ∀ s t : State, s.LinkOff ∧ s.FollowEmpty → step s = .next t → t.LinkOff ∧ t.FollowEmpty

/-! ### Clocks and lines -/

/-- SPAN_CLOCK_TICK steps the span clock by one, wrapping after 4294967295 (R5), and tests the gathering window at that
step: where the not-before of a BOOKED record enters it, the book is examined for joins (R130, R139), and else nothing but the
clock and the kept end of the window, the model's own field (entry 41), changes. FLASH_CLOCK_TICK changes the half of the
flash clock (R93). The five line events write their own reading and no other; DRIVE_NOT_READY, DRIVE_FAULT, EMERGENCY_STOP
and the open-limit part of OVERTRAVEL follow their lines, latch, and, being of the HALT class but for the first, bring the
span halt (R33, R58, R168, R169, R173, R187). -/
def Obligations.ClocksAndLines : Prop :=
  (∀ s : State, s.clock ≤ 4294967295 →
    let now := if s.clock = 4294967295 then 0 else s.clock + 1
    let reach := (now : Int) + s.items.channel.gatherWindow
    let v : State := { s.wake with clock := now, horizon := reach }
    let enters := ∃ r ∈ v.book.records, r.state = .booked ∧ ∃ t, r.notBefore = some t ∧ s.horizon < t ∧ (t : Int) ≤ reach
    ∃ u, exec .spanClockTick s = .next u.settle ∧ (¬enters → u = v) ∧
      (enters → s.wake.OpeningSound → Joins v u)) ∧
  (∀ s : State, ∃ t, exec .flashClockTick s = .next t ∧ t.kept = { s.kept with flashOn := !s.flashOn }) ∧
    ∀ (s : State) (on : Bool),
      (∃ t, exec (.driveReadyChange on) s = .next t ∧ t.kept = { s.kept with lines := { s.lines with driveReady := on } } ∧
        (s.FaultsRight → (t.fault .driveNotReady).cond = !on ∧ (on = false → t.latched .driveNotReady = true))) ∧
      (∃ t, exec (.driveFaultChange on) s = .next t ∧ t.kept = { s.kept with lines := { s.lines with driveFault := on } } ∧
        (s.FaultsRight → (t.fault .driveFault).cond = on ∧
          (on = true → t.latched .driveFault = true ∧ t.faults.halted = true))) ∧
      (∃ t, exec (.emergencyStopChange on) s = .next t ∧
        t.kept = { s.kept with lines := { s.lines with emergencyStop := on } } ∧
        (s.FaultsRight → (t.fault .emergencyStop).cond = on ∧
          (on = true → t.latched .emergencyStop = true ∧ t.faults.halted = true))) ∧
      (∃ t, exec (.openLimitChange on) s = .next t ∧ t.kept = { s.kept with lines := { s.lines with openLimit := on } } ∧
        (s.FaultsRight → on = true → 0 < s.speed → t.latched .overtravel = true ∧ t.faults.halted = true)) ∧
      (∃ t, exec (.keyChange on) s = .next t ∧ t.kept = { s.kept with lines := { s.lines with key := some on } })

/-! ### Track channels (chapter 3) -/

/-- TRACK_COUNT (R37, R44, R52): the counter steps by one and wraps, the travel direction follows, a reversal forgets the
first mark. While the counters then agree nothing else of the position unit changes; where both channels hold a position
and differ by more than TRACK_TOL, both lose it, their counters stay, and TRACK_DISAGREE is latched. With the sensor fault
line active the channel does not count (R38). -/
def Obligations.TrackCounts : Prop :=
  ∀ (s : State) (ch : Channel) (way : Way),
    ((s.track ch).sensorFault = true → exec (.trackCount ch way) s = .next s.wake.settle) ∧
    ((s.track ch).sensorFault = false → -2147483648 ≤ (s.track ch).counter → (s.track ch).counter ≤ 2147483647 →
      ∃ t, exec (.trackCount ch way) s = .next t ∧ t.kept = { s.kept with pos := t.pos } ∧
      let k := s.track ch
      let turned : Bool := k.travel = some .up ∧ way = .down ∨ k.travel = some .down ∧ way = .up
      let u := s.setTrack ch
        { k with
            counter :=
              match way with
              | .up => if k.counter = 2147483647 then -2147483648 else k.counter + 1
              | .down => if k.counter = -2147483648 then 2147483647 else k.counter - 1,
            travel := some way, pair := (match way with | .up => k.pair + 1 | .down => k.pair - 1),
            firstMark := if turned then none else k.firstMark,
            ref := if turned = true ∧ k.ref = .oneMark then .unreferenced else k.ref }
      if u.pos.p.holds = true ∧ u.pos.c.holds = true ∧ s.trackTol < |u.pos.p.counter - u.pos.c.counter| then
        t.pos = { u.pos with p := { u.pos.p with ref := .unreferenced, firstMark := none },
                             c := { u.pos.c with ref := .unreferenced, firstMark := none } } ∧
        ((s.fault .trackDisagree).mask = false → t.latched .trackDisagree = true ∧ t.faults.halted = true)
      else t.pos = u.pos)

/-- A track error, by an illegal transition or by the sensor fault line becoming active (R38, R53, R54): the channel is
UNREFERENCED, without first mark and failed, its counter kept; an error on P in use switches the source to C and sets the
creep flag while C is not failed; the channel's fault is latched. Once both channels are failed both are UNREFERENCED and
NO_POSITION is latched; an UNREFERENCED channel holds no first mark (R44). -/
def Obligations.TrackErrors : Prop :=
  ∀ (s : State) (ch : Channel) (c : Instr), (s.track ch).sensorFault = false →
    c = .illegalTransition ch ∨ c = .sensorFaultActive ch → ∃ t, exec c s = .next t ∧
      let e := s.setTrack ch
        { s.track ch with
            ref := .unreferenced, firstMark := none, failed := true,
            sensorFault := decide (c = .sensorFaultActive ch),
            pair := if c = .illegalTransition ch then (s.track ch).pair + 2 else (s.track ch).pair }
      let u : State :=
        if e.pos.p.failed = true ∧ e.pos.c.failed = true then
          { e with pos := { e.pos with p := { e.pos.p with ref := .unreferenced, firstMark := none },
                                       c := { e.pos.c with ref := .unreferenced, firstMark := none } } }
        else e
      let switch : Bool := ch = .p ∧ s.pos.source = .p ∧ s.pos.c.failed = false
      t.kept =
        { s.kept with pos := { u.pos with source := if switch then .c else s.pos.source },
                      creep := s.motion.creep || switch } ∧
      (s.FaultsRight →
        t.latched (match ch with | .p => .trackErrorP | .c => .trackErrorC) = true ∧
        (ch = .p → t.faults.halted = true) ∧
        (u.pos.p.failed = true ∧ u.pos.c.failed = true → t.latched .noPosition = true ∧ t.faults.halted = true))

/-- SENSOR_FAULT_INACTIVE: the channel takes the combination then on the pair as its starting point, and keeps all else
(R38). SPEED_WINDOW_END writes ten times the count of the window as the speed and starts the next window (R39); that the
difference is the plain one also where the counter wrapped in the window is the model's choice (entry 43). -/
def Obligations.TrackWindows : Prop :=
  ∀ (s : State) (ch : Channel),
    (∀ pair, (s.track ch).sensorFault = true → ∃ t, exec (.sensorFaultInactive ch pair) s = .next t ∧
      t.kept = { s.kept with pos := (s.setTrack ch { s.track ch with sensorFault := false, pair := pair }).pos }) ∧
    (∃ t, exec (.speedWindowEnd ch) s = .next t ∧
      t.kept =
        { s.kept with
            pos := (s.setTrack ch
              { s.track ch with speed := 10 * ((s.track ch).counter - (s.track ch).windowStart),
                                windowStart := (s.track ch).counter }).pos })

/-- MARK_EVENT with a travel direction held and the sensor fault line inactive, where no pair is decoded (R42, R43, R45,
R48): the first mark of a pair; a second mark whose gap is invalid takes its place; a REFERENCED channel is only checked,
and with no coded position within 16 counts loses its reference and brings REFERENCE_MISMATCH. Without a travel
direction, or with the line active, the event is ignored (R42). That a count up to 16 outside the scale passes the check is
the model's choice (entry 50). -/
def Obligations.MarksTaken : Prop :=
  ∀ (s : State) (ch : Channel),
    ((s.track ch).sensorFault = true ∨ (s.track ch).travel = none → exec (.markEvent ch) s = .next s.wake.settle) ∧
    (∀ way, (s.track ch).sensorFault = false → (s.track ch).travel = some way →
      (s.pos.source = .c → s.pos.p.failed = true) →
      let k := s.track ch
      let here : FirstMark := { count := k.counter, way := way }
      (k.ref = .unreferenced → ∃ t, exec (.markEvent ch) s = .next t ∧
        t.kept = { s.kept with pos := (s.setTrack ch { k with ref := .oneMark, firstMark := some here }).pos }) ∧
      (k.ref = .preset → k.firstMark = none → ∃ t, exec (.markEvent ch) s = .next t ∧
        t.kept = { s.kept with pos := (s.setTrack ch { k with firstMark := some here }).pos }) ∧
      (∀ m, k.ref = .oneMark ∨ k.ref = .preset → k.firstMark = some m →
        (∀ j : ℕ, j < 24 → 8 < |(if way = .up then k.counter - m.count else m.count - k.counter) - (1000 + 40 * j)| ∧
          8 < |(if way = .up then k.counter - m.count else m.count - k.counter) - (3000 - 40 * j)|) →
        ∃ t, exec (.markEvent ch) s = .next t ∧
          t.kept = { s.kept with pos := (s.setTrack ch { k with firstMark := some here }).pos }) ∧
      (k.ref = .referenced →
        ((∃ j : ℕ, j < 25 ∧ |k.counter - 4000 * j| ≤ 16) ∨ (∃ j : ℕ, j < 24 ∧ |k.counter - (4000 * j + 1000 + 40 * j)| ≤ 16) →
          ∃ t, exec (.markEvent ch) s = .next t ∧ t.kept = s.kept) ∧
        ((∀ j : ℕ, j < 25 → 16 < |k.counter - 4000 * j|) → (∀ j : ℕ, j < 24 → 16 < |k.counter - (4000 * j + 1000 + 40 * j)|) →
          ∃ t, exec (.markEvent ch) s = .next t ∧
            t.kept = { s.kept with pos := (s.setTrack ch { k with ref := .unreferenced, firstMark := none }).pos } ∧
            ((s.fault .referenceMismatch).mask = false →
              t.latched .referenceMismatch = true ∧ t.faults.halted = true))))

/-- MARK_EVENT as the second mark of a valid pair (R40, R41, R46, R47, R55). The gap names type A or B and one j, and they
with the direction the decoded position. A ONE_MARK channel, and a PRESET channel within 16 counts, is set to it with its
window start, its first mark is forgotten, and it is REFERENCED unless the comparison of R52 takes the reference again; a
ONE_MARK channel is no longer failed, and a source C returns to P with P's flag. A PRESET channel more than 16 counts off
keeps its counter, loses its reference, and brings REFERENCE_MISMATCH. That a moved window start does not wrap is the model's
choice (entry 43). -/
def Obligations.MarkPairs : Prop :=
  ∀ (s : State) (ch : Channel) (way : Way) (m : FirstMark) (j : ℕ) (typeA : Bool),
    let k := s.track ch
    let gap := if way = .up then k.counter - m.count else m.count - k.counter
    let at_ : Int :=
      match way, typeA with
      | .up, true => 4000 * j + 1000 + 40 * j
      | .up, false => 4000 * (j + 1)
      | .down, true => 4000 * j
      | .down, false => 4000 * j + 1000 + 40 * j
    k.sensorFault = false → k.travel = some way → k.firstMark = some m → j < 24 →
    |gap - (if typeA then 1000 + 40 * j else 3000 - 40 * j)| ≤ 8 →
    (s.pos.source = .c → s.pos.p.failed = true) →
    (k.ref = .oneMark ∨ k.ref = .preset ∧ |k.counter - at_| ≤ 16 → ∃ t, exec (.markEvent ch) s = .next t ∧
      t.kept = { s.kept with pos := t.pos } ∧
      (t.track ch).counter = at_ ∧ (t.track ch).windowStart = k.windowStart + (at_ - k.counter) ∧
      (t.track ch).firstMark = none ∧ (t.track ch).failed = (if k.ref = .oneMark then false else k.failed) ∧
      ((t.track ch).ref = .referenced ∨ (t.track ch).ref = .unreferenced ∧ s.trackTol < |t.pos.p.counter - t.pos.c.counter|) ∧
      (∀ d, d ≠ ch → (t.track d).counter = (s.track d).counter) ∧
      t.pos.source = (if s.pos.source = .c ∧ ch = .p ∧ k.ref = .oneMark then .p else s.pos.source)) ∧
    (k.ref = .preset → 16 < |k.counter - at_| → ∃ t, exec (.markEvent ch) s = .next t ∧
      t.kept = { s.kept with pos := (s.setTrack ch { k with ref := .unreferenced, firstMark := none }).pos } ∧
      ((s.fault .referenceMismatch).mask = false → t.latched .referenceMismatch = true ∧ t.faults.halted = true))

/-- The establishment of the seat reading (R49, R50, R62). NOT_SEATED writes the reading alone. SEATED presets both
channels whose lines are inactive at SEAT_COUNT, where it has a value, with their window starts, and the source is P; and out
of span halt the leaf takes its seated state from its locks, with kind NONE. A reading already established is not established
again (entry 4), a moved window start does not wrap (entry 43), and a motion that has begun before the establishment ends at
SEATED and goes on at NOT_SEATED (entry 57): the model's choices. -/
def Obligations.SeatEstablished : Prop :=
  ∀ s : State,
    (∀ b, s.pos.seat.isSome = true → exec (.seatSwitchEstablished b) s = .next s.wake.settle) ∧
    (s.pos.seat = none →
      exec (.seatSwitchEstablished false) s =
        .next ({ s.wake with pos := { s.pos with seat := some false } }).settle) ∧
    (s.pos.seat = none → ∃ u : State, exec (.seatSwitchEstablished true) s = .next u.settle ∧
      let seats : Prop := u.motion =
        if s.wake.motion.state = .halted then s.wake.motion
        else { s.wake.motion with
          kind := .none, correction := false,
          state :=
            if s.wake.locks.tail.state = .driven ∧ (s.role = .follow ∨ s.wake.locks.toe.state = .driven) then .seatedLocked
            else .seatedFree }
      (s.items.geometry.seatCount = none →
        u.kept = { s.kept with pos := { s.pos with seat := some true } } ∧ seats) ∧
      (∀ v, s.items.geometry.seatCount = some v → s.pos.p.sensorFault = false → s.pos.c.sensorFault = false →
        0 ≤ s.trackTol →
        u.kept =
          { s.kept with
              pos :=
                { p := { s.pos.p with counter := v, windowStart := s.pos.p.windowStart + (v - s.pos.p.counter),
                                      ref := .preset, firstMark := none, failed := false },
                  c := { s.pos.c with counter := v, windowStart := s.pos.c.windowStart + (v - s.pos.c.counter),
                                      ref := .preset, firstMark := none, failed := false },
                  source := .p, seat := some true } } ∧
        seats))

/-- A change of the seat reading (R51, R62, R65). To NOT_SEATED: a seated leaf with no motion commanded is STOPPED. To
SEATED, a seating: channels that are not REFERENCED, with their lines inactive, are preset at SEAT_COUNT, a REFERENCED one
is not touched; and in LOWERING, SEAT_APPROACH or STOPPED the motion ends in its seated state with kind NONE. That a moved
window start does not wrap is the model's choice (entry 43). -/
def Obligations.SeatChanges : Prop :=
  ∀ s : State,
    (s.pos.seat = some true → ∃ u : State, exec (.seatSwitchChange false) s = .next u.settle ∧
      u.kept = { s.kept with pos := { s.pos with seat := some false } } ∧
      u.motion =
        { s.wake.motion with
            state := if s.wake.motion.state = .seatedLocked ∨ s.wake.motion.state = .seatedFree then .stopped
                     else s.wake.motion.state }) ∧
    (∀ v, s.pos.seat = some false → s.items.geometry.seatCount = some v → s.pos.p.sensorFault = false →
      s.pos.c.sensorFault = false → s.wake.motion.kind ≠ .teach →
      (s.pos.source = .c → s.pos.p.failed = true) → 0 ≤ s.trackTol →
      let preset := fun (k : Track) =>
        if k.ref = .referenced then k
        else { k with counter := v, windowStart := k.windowStart + (v - k.counter), ref := .preset, firstMark := none,
                      failed := false }
      let p := preset s.pos.p
      let c := preset s.pos.c
      (p.ref = .referenced ∧ c.ref = .referenced ∨ |p.counter - c.counter| ≤ s.trackTol) →
      ∃ u : State, exec (.seatSwitchChange true) s = .next u.settle ∧
        u.kept =
          { s.kept with
              pos := { p := p, c := c, seat := some true,
                       source := if s.pos.source = .c ∧ s.pos.p.ref ≠ .referenced then .p else s.pos.source } } ∧
        (s.wake.motion.state = .lowering ∨ s.wake.motion.state = .seatApproach ∨ s.wake.motion.state = .stopped →
          u.motion.kind = .none ∧ u.motion.correction = false ∧
          u.motion.state =
            if s.wake.locks.tail.state = .driven ∧ (s.role = .follow ∨ s.wake.locks.toe.state = .driven) then .seatedLocked
            else .seatedFree) ∧
        (¬(s.wake.motion.state = .lowering ∨ s.wake.motion.state = .seatApproach ∨ s.wake.motion.state = .stopped) →
          u.motion = s.wake.motion))

/-! ### Creep, teach, recovery and stop (chapter 4) -/

/-- ENTER_CREEP is accepted on a stationary leaf and sets the creep flag, LEAVE_CREEP on a stationary leaf with both
channels REFERENCED and no track fault latched and clears it; each is refused WRONG_STATE otherwise (R57, R72, R73). -/
def Obligations.CreepRequests : Prop :=
  ∀ s : State,
    let w := s.asked
    let rests := w.motion.state = .seatedLocked ∨ w.motion.state = .seatedFree ∨ w.motion.state = .stopped ∨
      w.motion.state = .holding ∧ w.motion.correction = false
    let sound := rests ∧ s.pos.p.ref = .referenced ∧ s.pos.c.ref = .referenced ∧ w.latched .trackErrorP = false ∧
      w.latched .trackErrorC = false ∧ w.latched .referenceMismatch = false ∧ w.latched .trackDisagree = false ∧
      w.latched .noPosition = false
    (rests → ∃ t, exec (.enterCreep .maintenance) s = .next t ∧ t.kept = { s.keptAnswer .ok [] with creep := true }) ∧
    (¬rests → exec (.enterCreep .maintenance) s = .next (w.respond .wrongState [])) ∧
    (sound → ∃ t, exec (.leaveCreep .maintenance) s = .next t ∧ t.kept = { s.keptAnswer .ok [] with creep := false }) ∧
    (¬sound → exec (.leaveCreep .maintenance) s = .next (w.respond .wrongState []))

/-- The start of a seat teach (R78, R79). TEACH_SEAT is refused STORE_BUSY, WRONG_STATE and NOT_REFERENCED in that order,
and else starts the teach. A press within 3 s of the last one does nothing; any other press starts the lockout, and with
KEY on and the store not busy starts the teach where TEACH_SEAT would. -/
def Obligations.TeachStarts : Prop :=
  ∀ (s w : State) (ready : Prop),
    (ready ↔ w.opening.phase = .idle ∧ (s.role = .follow → s.link.paired = true) ∧ w.motion.state = .seatedFree ∧
      (∀ x, s.usesAp x = true → (w.ap x).closure = .closed ∧ zonesClear (s.zoneUse x) (s.ap x).zones = true) ∧
      w.faults.halted = false ∧ (s.role ≠ .sole → s.link.paired = true) ∧ s.lines.driveReady = true) →
    let started := fun (m : Motion) =>
      { m with teachResult := .none, teachCandidate := none, teachStep := .raising, kind := .teach, state := .raising }
    (w = s.asked →
      (s.settings.writing.isSome = true → exec (.teachSeat .maintenance) s = .next (w.respond .storeBusy [])) ∧
      (s.settings.writing = none → ¬ready → exec (.teachSeat .maintenance) s = .next (w.respond .wrongState [])) ∧
      (s.settings.writing = none → ready → s.pos.p.ref ≠ .referenced →
        exec (.teachSeat .maintenance) s = .next (w.respond .notReferenced [])) ∧
      (s.settings.writing = none → ready → s.pos.p.ref = .referenced →
        exec (.teachSeat .maintenance) s = .next (({ w with motion := started w.motion }).settle.respond .ok []))) ∧
    (w = s.wake →
      (∀ ms, s.motion.teachLockout = .running ms → exec .teachPress s = .next w.settle) ∧
      ((∀ ms, s.motion.teachLockout ≠ .running ms) →
        (s.lines.key = some true ∧ s.settings.writing = none ∧ ready ∧ s.pos.p.ref = .referenced →
          exec .teachPress s =
            .next ({ w with motion := started { w.motion with teachLockout := .running 3000 } }).settle) ∧
        (¬(s.lines.key = some true ∧ s.settings.writing = none ∧ ready ∧ s.pos.p.ref = .referenced) →
          exec .teachPress s =
            .next ({ w with motion := { w.motion with teachLockout := .running 3000 } }).settle)) ∧
      (∃ t, exec .teachLockoutExpiry s = .next t ∧ t.kept = { s.kept with lockout := .stopped }))

/-- The end of a seat teach at the seating that ends its lowering, with P REFERENCED and no disagreement of a C that the
seating presets (R79, R185, R186; R51, R52): the P counter is the candidate. More than 400 counts from SEAT_COUNT the result
is RANGE and the settings stay. Else the result is DONE, SEAT_COUNT takes the candidate, the settle interval runs, and where
every GEOMETRY item then has a value the block is stored, or its store waits for the write in progress. That the record of
the last store write names its block from the start of the write is the model's choice (entry 21). -/
def Obligations.TeachEnds : Prop :=
  ∀ s : State, s.pos.seat = some false → s.wake.motion.kind = .teach → s.wake.motion.teachStep = .lowering →
    s.wake.motion.state = .lowering ∨ s.wake.motion.state = .seatApproach →
    s.pos.p.ref = .referenced → 0 ≤ s.trackTol →
    s.pos.c.ref = .referenced ∨ s.pos.c.sensorFault = true ∨ s.items.geometry.seatCount = none ∨
      |s.pos.p.counter - s.seatCount| ≤ s.trackTol →
    ∃ u : State, exec (.seatSwitchChange true) s = .next u.settle ∧ u.motion.teachCandidate = some s.pos.p.counter ∧
      (400 < |s.pos.p.counter - s.seatCount| → u.motion.teachResult = .range ∧ u.settings = s.settings) ∧
      (|s.pos.p.counter - s.seatCount| ≤ 400 →
        let x := s.items.put .seatCount (.num s.pos.p.counter)
        u.motion.teachResult = .done ∧ u.opening.settle = .running 2000 ∧ u.items = x ∧
        ((∃ i ∈ BlockId.geometry.items, x.get i = none) → u.settings.writing = s.settings.writing) ∧
        ((∀ i ∈ BlockId.geometry.items, x.get i ≠ none) → s.settings.writing = none →
          u.settings.writing = some (.block .geometry x) ∧ u.settings.lastTarget = some (.block .geometry)) ∧
        ((∀ i ∈ BlockId.geometry.items, x.get i ≠ none) → s.settings.writing ≠ none →
          u.settings.writing = s.settings.writing ∧ u.settings.teachStoreWaiting = true))

/-- RECOVER_LOWER (R80, R147, R149): its refusals in their order, and when it is accepted the leaf starts down in kind
RECOVERY (or its motion ends at once on the seat), the opening is no longer suspended, every GROUPED and CALLED record of
the group is BOOKED again in SOLE and LEAD role, and an opening from UNLOCKING to LOWERING goes to LOWERING with no new
command. A FOLLOW whose suspension ends so gives the step of the phase it mirrors (R148, R149). -/
def Obligations.RecoverLowers : Prop :=
  ∀ s : State,
    let w := s.asked
    let ready := w.motion.state = .stopped ∧
      (∀ x, s.usesAp x = true → (w.ap x).closure = .closed ∧ zonesClear (s.zoneUse x) (s.ap x).zones = true) ∧
      (s.role ≠ .sole → s.link.paired = true) ∧ s.lines.driveReady = true ∧
      (s.role = .follow → w.opening.phase = .lowering ∨ w.opening.phase = .locking ∨ w.opening.phase = .idle)
    let passing := s.role ≠ .follow ∧ ∃ r ∈ w.book.records, r.state = .passing
    (w.faults.halted = true → exec (.recoverLower .operator) s = .next (w.respond .halted [])) ∧
    (w.faults.halted = false → ¬ready → exec (.recoverLower .operator) s = .next (w.respond .wrongState [])) ∧
    (w.faults.halted = false → ready → passing → exec (.recoverLower .operator) s = .next (w.respond .inPassage [])) ∧
    (w.faults.halted = false → ready → ¬passing →
      ∃ u : State, exec (.recoverLower .operator) s = .next (u.settle.respond .ok []) ∧
        u.kept = { s.kept with prepare := false, lapse := .stopped } ∧
        (s.pos.seat ≠ some true → u.motion = { w.motion with
          kind := .recovery, correction := false, state := if s.angle ≤ 300 then .seatApproach else .lowering }) ∧
        (s.pos.seat = some true → u.motion.kind = .none ∧ u.isSeated = true) ∧
        (s.role = .follow → w.opening.suspended = false → u.opening = w.opening) ∧
        (s.role = .follow → w.opening.suspended = true →
          u.opening = { w.opening with
            suspended := false, resumePoint := none,
            command :=
              match w.opening.phase with
              | .lowering => some .lower
              | .locking => some .drive
              | _ => w.opening.command }) ∧
        (s.role ≠ .follow →
          (w.opening.phase ≠ .idle → u.opening.suspended = false ∧ u.opening.resumePoint = none) ∧
          (w.opening.phase = .idle → u.opening = w.opening ∧ u.book = w.book) ∧
          (w.opening.phase = .unlocking ∨ w.opening.phase = .raising ∨ w.opening.phase = .heldOpen ∨
              w.opening.phase = .lowering →
            u.opening.phase = .lowering ∧ u.opening.closeRequested = false ∧ u.opening.linger = .stopped ∧
              u.opening.command = none ∧ (w.opening.frozen = true → u.opening.target = w.opening.target)) ∧
          (w.opening.phase ≠ .idle → w.opening.phase ≠ .locking → w.opening.phase ≠ .reopeningRoad →
            ∀ n ∈ w.opening.group, ∀ r, w.findRec n = some r → r.state = .grouped ∨ r.state = .called →
              ∃ r', u.findRec n = some r' ∧ r'.state = .booked ∧ n ∉ u.opening.group)))

/-- R81: STOP_SPAN from the OPERATOR is accepted whatever the state; OPERATOR_STOP is latched and the part is in span halt,
named as the entry fault where it was not halted before; the response is OK, the resume-prepare flag is cleared, and
nothing that the reactions leave alone is changed by the request itself. -/
def Obligations.StopSpanHalts : Prop :=
  ∀ s : State, (s.fault .operatorStop).mask = false → ∃ t, exec (.stopSpan .operator) s = .next t ∧
    t.latched .operatorStop = true ∧ t.faults.halted = true ∧ t.kept = s.keptAnswer .ok [] ∧
    (s.wake.faults.halted = false →
      t.faults.entryFault = some .operatorStop ∧ t.faults.enteredAt = some s.clock) ∧
    (s.HaltHeld → t.HaltHeld)

/-! ### The span locks (R74 to R77) -/

/-- The establishment of a lock's limits sets the lock's state from them, once and for an owned lock alone (R74; that a second
establishment changes nothing is the model's choice, entry 4). The expiry of a lock's running travel timer jams it, its timer
stopped (R77). -/
def Obligations.LocksEstablished : Prop :=
  (∀ (s : State) (l : LockId) (wd dr : Bool),
    let k := (match l with | .tail => s.wake.locks.tail | .toe => s.wake.locks.toe)
    let settled := fun (k : Lock) =>
      match l with
      | .tail => ({ s.wake with locks := { s.wake.locks with tail := k } }).settle
      | .toe => ({ s.wake with locks := { s.wake.locks with toe := k } }).settle
    (l = .toe ∧ s.role = .follow ∨ k.limits ≠ none → exec (.lockLimitsEstablished l wd dr) s = .next s.wake.settle) ∧
    (¬(l = .toe ∧ s.role = .follow) → k.limits = none → exec (.lockLimitsEstablished l wd dr) s =
      .next (settled { k with
        limits := some { withdrawn := wd, driven := dr },
        state := match wd, dr with | false, true => .driven | true, false => .withdrawn | _, _ => .jammed }))) ∧
    ∀ (s : State) (l : LockId) (ms : Nat),
      (match l with | .tail => s.wake.locks.tail.timer | .toe => s.wake.locks.toe.timer) = .running ms →
      exec (.lockTimeExpiry l) s =
        .next ((match l with
          | .tail => { s.wake with locks := { s.wake.locks with
              tail := { s.wake.locks.tail with state := .jammed, timer := .stopped } } }
          | .toe => { s.wake with locks := { s.wake.locks with
              toe := { s.wake.locks.toe with state := .jammed, timer := .stopped } } } : State)).settle

/-- A change of a lock's limits (R77): a travel ends at its own limit alone active, both limits jam the lock, a lock at rest
whose limits no longer show it is jammed, and a JAMMED lock follows a limit alone active, at such a
change only (entry 23); its timer stops with its travel.
A lock that is not owned does not take the change, and neither does one not yet established (the model's choice, entry 4). -/
def Obligations.LockLimitsTaken : Prop :=
  ∀ (s : State) (l : LockId) (wd dr : Bool),
    let k := (match l with | .tail => s.wake.locks.tail | .toe => s.wake.locks.toe)
    let settled := fun (k : Lock) =>
      match l with
      | .tail => ({ s.wake with locks := { s.wake.locks with tail := k } }).settle
      | .toe => ({ s.wake with locks := { s.wake.locks with toe := k } }).settle
    (l = .toe ∧ s.role = .follow ∨ k.limits = none → exec (.lockLimitChange l wd dr) s = .next s.wake.settle) ∧
    (¬(l = .toe ∧ s.role = .follow) → k.limits ≠ none → ∃ k' : Lock,
      exec (.lockLimitChange l wd dr) s = .next (settled k') ∧ k'.limits = some { withdrawn := wd, driven := dr } ∧
      (wd = true → dr = true → k'.state = .jammed ∧ k'.timer = .stopped) ∧
      (k.state = .withdrawing → ¬(wd = true ∧ dr = true) →
        (wd = true → k'.state = .withdrawn ∧ k'.timer = .stopped) ∧
        (wd = false → k'.state = .withdrawing ∧ k'.timer = k.timer)) ∧
      (k.state = .driving → ¬(wd = true ∧ dr = true) →
        (dr = true → k'.state = .driven ∧ k'.timer = .stopped) ∧
        (dr = false → k'.state = .driving ∧ k'.timer = k.timer)) ∧
      (k.state = .driven →
        (dr = true ∧ wd = false → k'.state = .driven) ∧ (¬(dr = true ∧ wd = false) → k'.state = .jammed)) ∧
      (k.state = .withdrawn →
        (wd = true ∧ dr = false → k'.state = .withdrawn) ∧ (¬(wd = true ∧ dr = false) → k'.state = .jammed)) ∧
      (k.state = .jammed →
        (dr = true → wd = false → k'.state = .driven) ∧ (wd = true → dr = false → k'.state = .withdrawn) ∧
        (wd = dr → k'.state = .jammed)))

/-! ### The road approaches (chapter 5) -/

/-- The lane requests (R107): RELEASE_LANE and HOLD_LANE set the hold of the used gate they name, and are refused BAD_VALUE
for any other code; RELEASE_ALL and HOLD_ALL set the hold of every used gate. No other input, hold or health of a gate
changes. -/
def Obligations.LaneRequests : Prop :=
  ∀ (s : State) (held : Bool) (n : Nat),
    let one := if held then Instr.holdLane .operator n else Instr.releaseLane .operator n
    let all := if held then Instr.holdAll .operator else Instr.releaseAll .operator
    ((∀ g : GateId, g.code = n → s.gateUsed g = false) → exec one s = .next (s.asked.respond .badValue [])) ∧
    (∀ g : GateId, g.code = n → s.gateUsed g = true → ∃ t, exec one s = .next t ∧
      t.kept = { s.keptAnswer .ok [] with apA := t.apA.kept, apB := t.apB.kept } ∧
      (t.gate g).kept = { (s.gate g).kept with held := held } ∧
      (∀ h : GateId, h ≠ g → (t.gate h).kept = (s.gate h).kept) ∧
      (∀ x, (t.ap x).zones = (s.ap x).zones ∧ (t.ap x).amberHealth = (s.ap x).amberHealth)) ∧
    (∃ t, exec all s = .next t ∧
      t.kept = { s.keptAnswer .ok [] with apA := t.apA.kept, apB := t.apB.kept } ∧
      (∀ g : GateId, (t.gate g).kept =
        if s.gateUsed g = true then { (s.gate g).kept with held := held } else (s.gate g).kept) ∧
      (∀ x, (t.ap x).zones = (s.ap x).zones ∧ (t.ap x).amberHealth = (s.ap x).amberHealth))

/-- CLOSE_ROAD and REOPEN_ROAD (R105, R106): their refusals in their order; and each used approach is given a closure start
(R97: from OPEN_ROAD, RESTART and REOPENING to PREWARN with the state timer at PREWARN_TIME, and nothing elsewhere) or a
reopening start (R103: from CLOSED and RESTART to REOPENING, step EXIT). That a start clears the advance pending flag is the
model's choice (entry 52). -/
def Obligations.RoadRequests : Prop :=
  ∀ s : State,
    let w := s.asked
    let idle := w.opening.phase = .idle ∧ (s.role = .follow → s.link.paired = true)
    let shut := idle ∧ w.motion.state = .seatedLocked ∧
      ∀ x, s.usesAp x = true → (w.ap x).closure = .restart ∨ (w.ap x).closure = .closed
    (w.faults.halted = true →
      exec (.closeRoad .operator) s = .next (w.respond .halted []) ∧
      exec (.reopenRoad .operator) s = .next (w.respond .halted [])) ∧
    (w.faults.halted = false → ¬idle → exec (.closeRoad .operator) s = .next (w.respond .wrongState [])) ∧
    (w.faults.halted = false → ¬shut → exec (.reopenRoad .operator) s = .next (w.respond .wrongState [])) ∧
    (w.faults.halted = false → idle → ∃ u : State, exec (.closeRoad .operator) s = .next (u.settle.respond .ok []) ∧
      u = { w with apA := u.apA, apB := u.apB } ∧
      ∀ x, (u.ap x).kept = (w.ap x).kept ∧
        if s.usesAp x = true ∧ ((w.ap x).closure = .openRoad ∨ (w.ap x).closure = .restart ∨ (w.ap x).closure = .reopening)
        then (u.ap x).closure = .prewarn ∧ (u.ap x).reopenStep = none ∧ (u.ap x).advancePending = false ∧
          (u.ap x).stateTimer = .running (s.items.road.prewarnTime * 1000).toNat
        else u.ap x = w.ap x) ∧
    (w.faults.halted = false → shut → ∃ u : State, exec (.reopenRoad .operator) s = .next (u.settle.respond .ok []) ∧
      u = { w with apA := u.apA, apB := u.apB } ∧
      ∀ x, (u.ap x).kept = (w.ap x).kept ∧
        if s.usesAp x = true then
          (u.ap x).closure = .reopening ∧ (u.ap x).reopenStep = some .exit ∧ (u.ap x).advancePending = false ∧
            (u.ap x).stateTimer = .stopped
        else u.ap x = w.ap x)

/-- RETRY_GATE (R86, R91): a code of no used gate is refused BAD_VALUE, a gate neither JAMMED nor UNKNOWN WRONG_STATE; else
the retry count is 0, the retry wait and the travel stop, and the gate takes its state from its limits. No other gate
changes. -/
def Obligations.GateRetried : Prop :=
  ∀ (s : State) (n : Nat),
    let w := s.asked
    ((∀ g : GateId, g.code = n → s.gateUsed g = false) →
      exec (.retryGate .operator n) s = .next (w.respond .badValue [])) ∧
    (∀ g : GateId, g.code = n → s.gateUsed g = true →
      ((w.gate g).state ≠ .jammed → (w.gate g).state ≠ .unknown →
        exec (.retryGate .operator n) s = .next (w.respond .wrongState [])) ∧
      ((w.gate g).state = .jammed ∨ (w.gate g).state = .unknown → ∃ u : State,
        exec (.retryGate .operator n) s = .next (u.settle.respond .ok []) ∧
        u = { w with apA := u.apA, apB := u.apB } ∧
        (∀ x, u.ap x = { w.ap x with gates := (u.ap x).gates }) ∧ (∀ h : GateId, h ≠ g → u.gate h = w.gate h) ∧
        u.gate g = { w.gate g with
          retryCount := 0, retryWait := .stopped, travel := .stopped, reversing := false,
          state :=
            match (w.gate g).limits with
            | some ⟨true, false⟩ => .up
            | some ⟨false, true⟩ => .down
            | _ => .unknown }))

/-- The gates' limits are established once (R86): every used gate at rest takes its state from them; a gate of an approach
out of service takes none (R84). That a second establishment changes nothing (entry 4), and that an UNUSED gate keeps the
reading (entry 30), are the model's choices. -/
def Obligations.GatesEstablished : Prop :=
  ∀ (s : State) (a b : Six GateLimits), ∃ u : State, exec (.gateLimitsEstablished a b) s = .next u.settle ∧
    u = { s.wake with apA := u.apA, apB := u.apB } ∧
    (∀ x, u.ap x = { s.wake.ap x with gates := (u.ap x).gates }) ∧
    ∀ g : GateId,
      let k := s.wake.gate g
      let l := (match g.ap with | .a => a | .b => b).at g.ix
      (s.usesAp g.ap = false ∨ k.limits ≠ none → u.gate g = k) ∧
      (s.usesAp g.ap = true → k.limits = none → (u.gate g).limits = some l ∧
        (s.gateUsed g = true → k.state = .up ∨ k.state = .down ∨ k.state = .unknown →
          (u.gate g).travel = .stopped ∧
          (u.gate g).state = (match l with | ⟨true, false⟩ => .up | ⟨false, true⟩ => .down | _ => .unknown)) ∧
        (s.gateUsed g = false ∨ k.state = .lowering ∨ k.state = .raising ∨ k.state = .jammed →
          (u.gate g) = { k with limits := some l }))

/-- A change of an established gate's limits on a used gate (R86, R89): a gate at rest follows them, with the retry count
cleared at DOWN (for a gate at rest, read from R90: entry 24) and the travel timer started at GATE_TIME where neither is
active; a JAMMED gate only takes the reading, and so does a moving one, whose travel its next round then ends: the HELD gate
on its way down that meets its DOWN limit alone is DOWN when the event has settled, its travel timer stopped and its retry
count 0. No other gate changes by the event itself. -/
def Obligations.GateLimitsTaken : Prop :=
  ∀ (s : State) (g : GateId) (l : GateLimits), s.gateUsed g = true → (s.gate g).limits ≠ none →
    let k := s.wake.gate g
    ∃ u : State, exec (.gateLimitChange g l) s = .next u.settle ∧ u = { s.wake with apA := u.apA, apB := u.apB } ∧
      (∀ x, u.ap x = { s.wake.ap x with gates := (u.ap x).gates }) ∧ (∀ h : GateId, h ≠ g → u.gate h = s.wake.gate h) ∧
      (k.state = .lowering ∨ k.state = .raising ∨ k.state = .jammed → u.gate g = { k with limits := some l }) ∧
      (k.state = .lowering → (s.gate g).held = true → l = ⟨false, true⟩ →
        (u.settle.gate g).state = .down ∧ (u.settle.gate g).travel = .stopped ∧ (u.settle.gate g).retryCount = 0) ∧
      (k.state = .up ∨ k.state = .down ∨ k.state = .unknown →
        (l = ⟨true, true⟩ → u.gate g = { k with limits := some l, state := .unknown, travel := .stopped }) ∧
        (l = ⟨true, false⟩ → u.gate g = { k with limits := some l, state := .up, travel := .stopped }) ∧
        (l = ⟨false, true⟩ →
          u.gate g = { k with limits := some l, state := .down, travel := .stopped, retryCount := 0 }) ∧
        (l = ⟨false, false⟩ → k.state = .unknown ∨ k.travel.isRunning = true → u.gate g = { k with limits := some l }) ∧
        (l = ⟨false, false⟩ → k.state ≠ .unknown → k.travel.isRunning = false →
          u.gate g = { k with limits := some l, travel := .running (s.items.road.gateTime * 1000).toNat }))

/-- The expiries of a used gate (R86, R89, R90, R108): the travel timer of a moving gate jams it and that of a gate at rest
makes it UNKNOWN; the retry wait ends, with the retry count stepped up where the demand is DOWN; the hold flash ends. The
debounced OBSTRUCT input is taken; a HELD gate on its way down, away from its limits, then stops: UNKNOWN with its retry wait
at OBSTRUCT_WAIT, or JAMMED at retry count 3 (R90). No other gate changes by the event itself. Every round gives a used gate
what its travel and its obstruction ask (R89, R90): the end of the travel at the limit it moves to, or at both; reversed, with
a retry wait once it is up; stopped; or JAMMED at count 3. -/
def Obligations.GateEvents : Prop :=
  (∀ (s : State) (g : GateId) (c : Instr) (k : Gate), s.gateUsed g = true → k = s.wake.gate g →
    (∃ active, c = .gateObstruction g active) ∨ (c = .gateTravelExpiry g ∧ k.travel.isRunning = true) ∨
      (c = .retryWaitExpiry g ∧ k.retryWait.isRunning = true) ∨ c = .holdFlashExpiry g →
    ∃ u : State, exec c s = .next u.settle ∧ u = { s.wake with apA := u.apA, apB := u.apB } ∧
      (∀ x, u.ap x = { s.wake.ap x with gates := (u.ap x).gates }) ∧ (∀ h : GateId, h ≠ g → u.gate h = s.wake.gate h) ∧
      (∀ active, c = .gateObstruction g active → u.gate g = { k with obstruct := active }) ∧
      (c = .gateObstruction g true → k.state = .lowering → k.held = true → (∀ l, k.limits = some l → l.down = false) →
        (u.settle.gate g).travel = .stopped ∧
        (k.retryCount < 3 → (u.settle.gate g).state = .unknown ∧ (u.settle.gate g).retryCount = k.retryCount ∧
          (u.settle.gate g).retryWait = .running (s.items.road.obstructWait * 1000).toNat) ∧
        (3 ≤ k.retryCount → (u.settle.gate g).state = .jammed ∧
          (s.FaultsRight → u.settle.latched .gateJammed = true))) ∧
      (c = .gateTravelExpiry g →
        (k.state = .lowering ∨ k.state = .raising → (u.gate g).state = .jammed) ∧
        (k.state = .up ∨ k.state = .down ∨ k.state = .unknown → (u.gate g).state = .unknown) ∧
        (u.gate g).travel = .stopped ∧ (u.gate g).retryCount = k.retryCount ∧ (u.gate g).retryWait = k.retryWait ∧
        (u.gate g).kept = k.kept) ∧
      (c = .retryWaitExpiry g → u.gate g =
        { k with retryWait := .stopped, retryCount := if k.demand = .down then k.retryCount + 1 else k.retryCount }) ∧
      (c = .holdFlashExpiry g → u.gate g = { k with holdFlash := .stopped })) ∧
  ∀ (s : State) (g : GateId), s.gateUsed g = true →
    let k := s.gate g
    let d := demandOf (s.ap g.ap).closure (s.ap g.ap).reopenStep ((s.kinds g.ap).at g.ix) k
    let v := s.roadStage.gate g
    let count := if d = .up ∧ k.demand ≠ .up then 0 else k.retryCount
    let rises : Prop := k.held = false ∧ s.motion.state = .seatedLocked
    let up : Prop := ∃ l, k.limits = some l ∧ l.up = true
    let down : Prop := ∃ l, k.limits = some l ∧ l.down = true
    (v.demand = d ∧ v.kept = k.kept) ∧
    (k.state = .lowering ∨ k.state = .raising → up → down → v.state = .unknown ∧ v.travel = .stopped) ∧
    (k.state = .lowering → ¬(d = .up ∧ rises) → down → ¬up →
      v.state = .down ∧ v.travel = .stopped ∧ v.retryCount = 0) ∧
    (k.state = .raising → rises → d ≠ .down → up → ¬down → v.state = .up ∧ v.travel = .stopped ∧
      (k.reversing = true → v.retryWait = .running (s.items.road.obstructWait * 1000).toNat)) ∧
    (k.state = .raising → rises → d = .down → k.demand = .down → k.reversing = true → up → ¬down →
      v.state = .up ∧ v.travel = .stopped ∧ v.retryWait = .running (s.items.road.obstructWait * 1000).toNat) ∧
    (k.state = .lowering → ¬(d = .up ∧ rises) → ¬down → k.obstruct = true →
      (count < 3 → rises → v.state = .raising ∧ v.reversing = true ∧ v.retryCount = count ∧
        v.travel = .running (s.items.road.gateTime * 1000).toNat) ∧
      (count < 3 → ¬rises → v.state = .unknown ∧ v.travel = .stopped ∧ v.retryCount = count ∧
        v.retryWait = .running (s.items.road.obstructWait * 1000).toNat) ∧
      (3 ≤ count → v.state = .jammed ∧ v.travel = .stopped))

/-- The running state timer of an approach expires in PREWARN, STOPPING or CLEARING (R98 to R100, R109): out of span halt
the next closure state is entered, with STOP_TIME timed in STOPPING; in span halt the approach stays, with its timer
stopped and its advance pending. No other approach changes. -/
def Obligations.ClosureTimers : Prop :=
  ∀ (s : State) (x : Ap) (c : Instr) (now next : Closure) (timer : Timer) (ms : Nat), s.usesAp x = true →
    (s.wake.ap x).closure = now → (s.wake.ap x).stateTimer = .running ms →
    c = .prewarnExpiry x ∧ now = .prewarn ∧ next = .stopping ∧ timer = .running (s.items.road.stopTime * 1000).toNat ∨
      c = .stopTimeExpiry x ∧ now = .stopping ∧ next = .entryLowering ∧ timer = .stopped ∨
      c = .clearMinExpiry x ∧ now = .clearing ∧ next = .exitLowering ∧ timer = .stopped →
    ∃ u : State, exec c s = .next u.settle ∧ u = { s.wake with apA := u.apA, apB := u.apB } ∧
      (∀ y, y ≠ x → u.ap y = s.wake.ap y) ∧ (u.ap x).kept = (s.wake.ap x).kept ∧
      (s.wake.faults.halted = true → u.ap x = { s.wake.ap x with stateTimer := .stopped, advancePending := true }) ∧
      (s.wake.faults.halted = false →
        (u.ap x).closure = next ∧ (u.ap x).stateTimer = timer ∧ (u.ap x).alertTimer = .stopped ∧
          (u.ap x).reopenStep = none ∧ (u.ap x).delayed = false)

/-- CLEAR_ALERT_EXPIRY makes CLEARANCE_DELAY's cause true and stops the alert timer, and changes nothing else (R100). A
used detector takes its reading, and an UNUSED one is not read (R95). A lamp of a used gate, or the amber group of a used
approach, is judged for what it is
meant to show (R94, as the model reads it, entry 22). -/
def Obligations.ZonesAndLamps : Prop :=
  ∀ (s : State) (x : Ap),
    (∀ ms, s.usesAp x = true → (s.wake.ap x).alertTimer = .running ms → exec (.clearAlertExpiry x) s =
      .next (s.wake.setAp x { s.wake.ap x with alertTimer := .stopped, delayed := true }).settle) ∧
    (∀ i occupied, ∃ t, exec (.zoneDetectorChange x i occupied) s = .next t ∧
      t.kept = { s.kept with apA := t.apA.kept, apB := t.apB.kept } ∧
      (∀ y, y ≠ x → (t.ap y).kept = (s.ap y).kept) ∧
      (t.ap x).kept =
        if (s.zoneUse x).at i = true then { (s.ap x).kept with zones := (s.ap x).zones.put i (some occupied) }
        else (s.ap x).kept) ∧
    (∀ (proof : Proving), s.usesAp x = true → ∃ t, exec (.lampProvingSpan (.amber x) proof) s = .next t ∧
      t.kept = { s.kept with apA := t.apA.kept, apB := t.apB.kept } ∧
      (∀ y, y ≠ x → (t.ap y).kept = (s.ap y).kept) ∧
      (t.ap x).kept =
        { (s.ap x).kept with
            amberHealth :=
              match proof with
              | .noCurrent =>
                if (s.wake.ap x).closure ≠ .openRoad then .out
                else if (s.ap x).amberHealth = .out then .out else .normal
              | .current =>
                if (s.wake.ap x).closure = .openRoad then .stuck
                else if (s.ap x).amberHealth = .stuck then .stuck else .normal
              | .mixed => (s.ap x).amberHealth }) ∧
    (∀ (g : GateId) (proof : Proving), s.gateUsed g = true → ∃ t, exec (.lampProvingSpan (.lane g) proof) s = .next t ∧
      t.kept = { s.kept with apA := t.apA.kept, apB := t.apB.kept } ∧
      (∀ h, h ≠ g → (t.gate h).kept = (s.gate h).kept) ∧
      (let meant : Bool := (s.wake.gate g).lamp = .red ∨ (s.wake.gate g).lamp = .redFlash ∧ s.flashOn = true
       (t.gate g).kept =
        { (s.gate g).kept with
            health :=
              match proof with
              | .noCurrent => if meant then .out else if (s.gate g).health = .out then .out else .normal
              | .current => if meant then (if (s.gate g).health = .stuck then .stuck else .normal) else .stuck
              | .mixed => (s.gate g).health }))

/-! ### The request port (chapter 11) -/

/-- A selection (R189 to R191). The state of the port at the fall of SEL decides. In WORKING the bytes are discarded. Else
bytes whose first is 0x00, or none, are no request and clear a ready response; bytes that are taken are judged, and a good
frame is handed to its block, against the state as it stands at that event: the request does then and there what the
request's own command does. A frame that is not good is answered with its result. The port is WORKING while it holds that
response back (entry 26). A reset ends any selection and any request: the port is EMPTY with no response, and the rise of SEL
that follows discards its bytes. The frames are judged by R190: the length from 4 to 64, the bytes clocked in and their sum,
and the station, each BAD_FRAME; the code from 0x01 to 0x27, else UNKNOWN_REQUEST; and the number of the parameter bytes that
each request calls for, else BAD_FRAME; bytes beyond the length are ignored. A good frame carries the request of its code with
the values of its parameters, high byte first (R193). Where the rules leave the frame of a parameter open the model chose
(entry 13). -/
def Obligations.SelectionTaken : Prop :=
  (∀ bytes : List Byte,
    let len := (bytes.map (·.toNat)).headD 0
    len < 4 ∨ 64 < len ∨ bytes.length < len ∨ ((bytes.take len).map (·.toNat)).sum % 256 ≠ 0 →
      judgeFrame bytes = .error .badFrame) ∧
  (∀ (l st k : Byte) (rest : List Byte),
    let bytes := l :: st :: k :: rest
    let p := rest.take (l.toNat - 4)
    let big := fun (bs : List Byte) => bs.foldl (fun (n : Nat) b => n * 256 + b.toNat) 0
    let signed := fun (bs : List Byte) => if big bs < 32768 then (big bs : Int) else (big bs : Int) - 65536
    4 ≤ l.toNat → l.toNat ≤ 64 → l.toNat ≤ bytes.length → ((bytes.take l.toNat).map (·.toNat)).sum % 256 = 0 →
    (st.toNat = 0 ∨ 3 < st.toNat → judgeFrame bytes = .error .badFrame) ∧
    ∀ who : Station, st.toNat = (match who with | .operator => 1 | .harbour => 2 | .maintenance => 3) →
      let gives := fun (code : Nat) (i : Option Instr) => k.toNat = code →
        judgeFrame bytes = (match i with | some i => .ok i | none => .error .badFrame)
      (k.toNat = 0 ∨ 0x27 < k.toNat → judgeFrame bytes = .error .unknownRequest) ∧
      (∀ code i, (code, i) ∈
          [(0x06, Instr.listChanged who), (0x0A, .enterCreep who), (0x0B, .leaveCreep who), (0x0C, .teachSeat who),
           (0x0D, .recoverLower who), (0x0E, .stopSpan who), (0x10, .reopenRoad who), (0x11, .closeRoad who),
           (0x14, .releaseAll who), (0x15, .holdAll who), (0x16, .openSpan who), (0x17, .closeNow who),
           (0x18, .abortOpening who), (0x19, .continueOpening who), (0x1B, .ackFaults who), (0x1C, .resumePrepare who),
           (0x1D, .resume who), (0x21, .readStatus who), (0x22, .readLeaf who), (0x24, .readSignals who),
           (0x25, .readFaults who), (0x26, .readLink who)] →
        gives code (if p = [] then some i else none)) ∧
      (∀ code f, (code, f) ∈
          [(0x0F, Instr.retryGate who), (0x12, .releaseLane who), (0x13, .holdLane who), (0x1F, .storeSettings who),
           (0x20, .setProtect who), (0x23, .readApproach who)] →
        gives code (match p with | [a] => some (f a.toNat) | _ => none)) ∧
      (∀ code f, (code, f) ∈ [(0x03, Instr.cancel who), (0x07, .forget who), (0x08, .markPassed who)] →
        gives code (if p.length = 2 then some (f (big p)) else none)) ∧
      (∀ code f, (code, f) ∈ [(0x1A, Instr.setMask who), (0x27, .readSetting who)] →
        gives code (match p with | [a, b] => some (f a.toNat b.toNat) | _ => none)) ∧
      gives 0x09 (if p.length = 2 then some (.setWater who (signed p)) else none) ∧
      gives 0x05
        (match p with
          | [f] => some (.listBook who f.toNat none)
          | [f, a, b] => some (.listBook who f.toNat (some (big [a, b])))
          | _ => none) ∧
      gives 0x04
        (match p with
          | [] => none
          | sel :: q =>
            if sel.toNat = 0 then (if q.length = 2 then some (.lookup who (.number (big q))) else none)
            else if sel.toNat = 1 then (if q.length = 4 then some (.lookup who (.vessel (big q))) else none)
            else some (.lookup who .other)) ∧
      (let value := fun (i n : Nat) => big ((p.drop i).take n)
       let flag := value 8 1
       let at_ := if flag = 1 then 13 else 9
       gives 0x01
        (if p.length = at_ + 2 then
          some (.book who (value 0 4) (value 4 1) (signed ((p.drop 5).take 2)) (value 7 1)
            ⟨flag, if flag = 1 then value 9 4 else 0⟩ (value at_ 2))
         else none)) ∧
      (let bit := fun (i : Nat) => ((p.map BitVec.toNat).headD 0).testBit i
       let draft := if bit 0 then 2 else 0
       let priority := draft + if bit 1 then 1 else 0
       let notBefore := priority + if bit 2 then 4 else 0
       let q := p.drop 3
       gives 0x02
        (if p.length = 3 + notBefore + (if bit 4 then 2 else 0) then
          some (.amend who (big ((p.drop 1).take 2))
            { draft := if bit 0 then some (signed (q.take 2)) else none,
              priority := if bit 1 then some (big ((q.drop draft).take 1)) else none,
              notBefore := if bit 2 then some (big ((q.drop priority).take 4)) else none, dropNotBefore := bit 3,
              follows := if bit 4 then some (big ((q.drop notBefore).take 2)) else none, dropFollows := bit 5 })
         else none)) ∧
      (k.toNat = 0x1E → p = [] → judgeFrame bytes = .error .badFrame) ∧
      ∀ n q, k.toNat = 0x1E → p = n :: q →
        (allItems[n.toNat]? = none → judgeFrame bytes = .ok (.writeSetting who n.toNat (.num 0))) ∧
        ∀ i, allItems[n.toNat]? = some i →
          let count := (q.map (·.toNat)).headD 0
          let due := if i = .table then 1 + 4 * count else if i = .bands then 1 + 7 * count else i.width
          (q.length ≠ due → judgeFrame bytes = .error .badFrame) ∧
          (q.length = due → ∃ v, i.valueBytes v = q ∧ judgeFrame bytes = .ok (.writeSetting who n.toNat v))) ∧
  ∀ s : State,
    let done : Port := { s.port with selection := none }
    (∃ t, exec .selectionStart s = .next t ∧
      t.kept = { s.kept with port := { s.port with selection := some (s.port.selection.getD s.port.state) } }) ∧
    (∀ a b e, ∃ t, exec (.reset a b e) s = .next t ∧
      t.port = { state := .empty, selection := none, request := [], response := none }) ∧
    ∀ bytes : List Byte,
      (s.port.selection = none → ∃ t, exec (.selectionEnd bytes) s = .next t ∧ t.kept = s.kept) ∧
      (s.port.selection = some .working → ∃ t, exec (.selectionEnd bytes) s = .next t ∧
        t.kept = { s.kept with port := done }) ∧
      (s.port.selection = some .empty ∨ s.port.selection = some .ready →
        (bytes.head? = none ∨ bytes.head? = some 0 → ∃ t, exec (.selectionEnd bytes) s = .next t ∧
          t.kept = { s.kept with port := { done with state := .empty, response := none } }) ∧
        (bytes.head? ≠ none → bytes.head? ≠ some 0 →
          (∀ r, judgeFrame bytes = .error r → exec (.selectionEnd bytes) s =
            .next { s.wake with port := { done.answered r [] with state := .working, request := bytes } }) ∧
          (∀ i, judgeFrame bytes = .ok i → ∃ u, exec i { s.wake with port := done } = .next u ∧
            u.port = { done with state := .ready, request := [], response := u.port.response } ∧
            u.port.response.isSome = true ∧
            exec (.selectionEnd bytes) s =
              .next { u with port := { u.port with state := .working, request := bytes } })))

/-- The seven state reads, from any station (R191, R192): each changes nothing but the port, and answers the records of its
table, in their order and encoded by R193: the water record (R26), the opening record (R128) and the interval (R134), the
motion record (R57), the channels (R36), the locks (R74), an approach with its gates and detectors (R84, R85, R95), the
direction records and the call context (R111, R119), the faults (R167) and the link (R161, R162). The places that R193 leaves
open are the model's (entry 14), and so are a level's age across a wrap of the clock (entry 33), the shape of an empty
partner view and the codes of the KEY reading (entry 14), what an approach out of service shows beside its UNUSED gates (entry
45), the PAIR_MISMATCH condition while it is masked (entry 47), a view's age that no longer fits four bytes (entry 54), and a
window start or a speed beyond 32 bits, of which READ_LEAF shows the low 32 (entry 43). READ_SETTING answers the working or the
stored value, or that there is none (R181). READ_APPROACH and READ_SETTING answer BAD_VALUE to a number of no approach, item or
copy (R190). -/
def Obligations.ReadsAnswer : Prop :=
  ∀ (s : State) (st : Station),
    let w := s.wake
    let o := w.opening
    let m := w.motion
    let set := s.settings
    let reading := fun (r : Option Bool) => optCode (r.map fun b => if b then 1 else 0)
    exec (.readStatus st) s = .next (w.respond .ok
      (u8 s.role.code ++ be32 s.clock ++
        (u8 s.water.source.code ++ be16 s.effectiveWater ++ optAngle s.water.level ++
          optClock (s.water.time.map fun t => (s.clock + 4294967296 - t) % 4294967296)) ++
        (be16 s.opening.number ++ u8 o.phase.code ++ u8 o.group.length ++ (o.group.flatMap fun n => be16 n) ++
          optAngle o.target ++ flagByte o.frozen ++ flagByte o.creditUsed ++ optCode (o.runDir.map Dir.code) ++
          flagByte o.suspended ++ optCode (o.resumePoint.map Phase.code) ++ flagByte o.closeRequested ++
          timerBytes o.linger) ++
        u8 o.interval.code ++ timerBytes o.intervalTimer ++ be32 o.credits ++ timerBytes s.opening.settle ++
        flagByte set.writing.isSome ++ optCode (set.lastTarget.map StoreTarget.code) ++ u8 set.lastOutcome.code ++
        flagByte set.protect ++ reading s.lines.key)) ∧
    (let channel := fun (t : Track) =>
       be32 t.counter ++ u8 (match t.travel with | none => 0 | some .up => 1 | some .down => 2) ++ u8 t.ref.code ++
         optCount (t.firstMark.map (·.count)) ++ optCode (t.firstMark.map (·.way.code)) ++ be32 t.windowStart ++
         be32 t.speed ++ flagByte t.failed
     exec (.readLeaf st) s = .next (w.respond .ok
      ((u8 m.state.code ++ u8 m.kind.code ++ flagByte m.correction ++ flagByte s.motion.creep ++
          optCount w.targetCount ++ optAngle w.skew ++ u8 m.teachStep.code ++ u8 m.teachResult.code ++
          optCount s.motion.teachCandidate ++ flagByte m.permit ++ u8 m.direction.code ++ u8 m.speedClass.code ++
          flagByte m.brakeRelease) ++
        be16 w.angle ++ be32 w.speed ++ optAngle w.target ++ u8 s.pos.source.code ++ reading (s.pos.seat.map (!·)) ++
        channel s.pos.p ++ channel s.pos.c ++ (u8 w.locks.tail.state.code ++ timerBytes w.locks.tail.timer) ++
        (u8 w.locks.toe.state.code ++ timerBytes w.locks.toe.timer)))) ∧
    (∀ ap : Nat,
      (∀ x : Ap, ap = (match x with | .a => 0 | .b => 1) →
        let r := w.ap x
        let gate := fun (i : Fin 6) =>
          let g := w.gate ⟨x, i⟩
          u8 (ap * 6 + i.val) ++ u8 ((s.kinds x).at i).code ++ u8 g.state.code ++ u8 (if g.held then 0 else 1) ++
            u8 g.demand.code ++ timerBytes g.holdFlash ++ u8 g.lamp.code ++ u8 g.health.code ++ be32 g.retryCount ++
            timerBytes g.retryWait ++ timerBytes g.travel
        let zone := fun (i : Fin 3) => u8 (if (s.zoneUse x).at i then 0 else 1) ++ reading ((s.ap x).zones.at i)
        exec (.readApproach st ap) s = .next (w.respond .ok
          (u8 r.closure.code ++ optCode (r.reopenStep.map ReopenStep.code) ++ timerBytes r.stateTimer ++
            timerBytes r.alertTimer ++ flagByte r.advancePending ++ u8 r.amberHealth.code ++
            (gate 0 ++ gate 1 ++ gate 2 ++ gate 3 ++ gate 4 ++ gate 5) ++ (zone 0 ++ zone 1 ++ zone 2)))) ∧
      (1 < ap → exec (.readApproach st ap) s = .next (w.respond .badValue []))) ∧
    (let dir := fun (d : DirRec) =>
       u8 d.aspect.code ++ u8 d.red.code ++ u8 d.amber.code ++ u8 d.green.code ++ timerBytes d.gap
     let c := w.signals.call
     exec (.readSignals st) s = .next (w.respond .ok
      (dir w.signals.inbound ++ dir w.signals.outbound ++ reading s.signals.downstream ++ reading s.signals.upstream ++
        (optCode (c.serving.map Dir.code) ++ optNumber c.called ++ timerBytes c.callTimer ++ optNumber c.passing ++
          flagByte c.exitSeen ++ optCode (c.lastEnd.map Dir.code))))) ∧
    (∃ d, exec (.readFaults st) s = .next (w.respond .ok d) ∧
      (∀ f : FaultId, (d.drop (3 * f.index.val)).take 3 =
        flagByte (w.fault f).cond ++ flagByte (w.fault f).latch ++ flagByte (w.fault f).mask) ∧
      d.drop 87 = u8 (if w.faults.halted then 1 else 0) ++ optCode (w.faults.entryFault.map fun f => f.index.val) ++
        optClock w.faults.enteredAt ++ flagByte s.faults.prepare) ∧
    exec (.readLink st) s = .next (w.respond .ok
      (u8 (if s.link.paired then 0 else 1) ++ u8 w.link.buffer.code ++ be32 s.link.mismatch ++
        flagByte (w.fault .pairMismatch).cond ++
        (match s.link.view with
         | none => be16 0x8000 ++ be16 0x8000 ++ [0xFF, 0xFF, 0xFF, 0, 0, 0] ++ be16 0x8000 ++ be16 0
         | some v =>
           be16 v.angle ++ be16 v.speed ++ u8 v.motion ++ u8 v.closure ++ u8 v.phase ++
             u8 (([v.creep, v.closed, v.withdrawn, v.holding, v.seated, v.locked, v.haltActive, v.haltCause].zipIdx.map
               fun (b, i) => if b then 2 ^ i else 0).sum) ++
             u8 v.seat ++ u8 (v.runDir + if v.holdActive then 128 else 0) ++ optAngle v.target ++ be16 v.number) ++
        optClock (if s.link.view = none then none else some s.link.age))) ∧
    (∀ (n : Nat) (i : Item), allItems[n]? = some i →
      exec (.readSetting st n 0) s = .next (w.respond .ok
        (match s.items.get i with | some v => flagByte true ++ i.valueBytes v | none => flagByte false)) ∧
      exec (.readSetting st n 1) s = .next (w.respond .ok
        (if set.rejected.at i.block = true then flagByte false
         else match set.stored.get i with | some v => flagByte true ++ i.valueBytes v | none => flagByte false))) ∧
    (∀ n copy : Nat, 58 < n ∨ 1 < copy → exec (.readSetting st n copy) s = .next (w.respond .badValue []))

/-- LOOKUP and LIST_BOOK outside FOLLOW role, from any station (R12, R13): by number the record of that number, by vessel
the live record or else the one that closed last (the latest in book order among equals), in the 25 bytes of a passage
record; a listing of at most 16 entries in book order, from after the resume record, with the more-indication. Each
changes nothing but the port. The BAD_VALUE of another selector, the bit 7 that is not read (entry 13), and the comparison of
closed-at values as plain numbers across a wrap of the clock (entry 42) are the model's choices. -/
def Obligations.BookRead : Prop :=
  ∀ (s : State) (st : Station), s.role ≠ .follow →
    let w := s.wake
    let rs := w.book.records
    (∀ n xs r ys, rs = xs ++ r :: ys → r.number = n → (∀ q ∈ xs, q.number ≠ n) →
      exec (.lookup st (.number n)) s = .next (w.respond .ok r.bytes) ∧ r.bytes.length = 25) ∧
    (∀ n, (∀ r ∈ rs, r.number ≠ n) → exec (.lookup st (.number n)) s = .next (w.respond .notFound [])) ∧
    (∀ v xs r ys, rs = xs ++ r :: ys → r.vessel = v →
      (r.live = true ∧ ∀ q ∈ xs, q.vessel = v → q.live = false) ∨
        (∀ q ∈ rs, q.vessel = v → q.live = false) ∧
          (∀ q ∈ xs, q.vessel = v → q.closedAt.getD 0 ≤ r.closedAt.getD 0) ∧
          (∀ q ∈ ys, q.vessel = v → q.closedAt.getD 0 < r.closedAt.getD 0) →
      exec (.lookup st (.vessel v)) s = .next (w.respond .ok r.bytes)) ∧
    (∀ v, (∀ r ∈ rs, r.vessel ≠ v) → exec (.lookup st (.vessel v)) s = .next (w.respond .notFound [])) ∧
    exec (.lookup st .other) s = .next (w.respond .badValue []) ∧
    (∀ filter after, filter % 128 = 0 → exec (.listBook st filter after) s = .next (w.respond .badValue [])) ∧
    (∀ filter n, filter % 128 ≠ 0 → (∀ r ∈ rs, r.number ≠ n) →
      exec (.listBook st filter (some n)) s = .next (w.respond .notFound [])) ∧
    (∀ filter after rest, filter % 128 ≠ 0 →
      after = none ∧ rest = rs ∨
        (∃ n xs r, after = some n ∧ rs = xs ++ r :: rest ∧ r.number = n ∧ ∀ q ∈ xs, q.number ≠ n) →
      let named := rest.filter fun r => filter.testBit r.state.code
      exec (.listBook st filter after) s = .next (w.respond .ok
        (u8 (min 16 named.length) ++ ((named.take 16).flatMap fun r => be16 r.number ++ u8 r.state.code) ++
          flagByte (decide (16 < named.length)))))

/-- A request from a station that the table of R191 does not permit it to is refused NOT_PERMITTED, and so for each non-read
request; the reads are any station's (ReadsAnswer, BookRead). In FOLLOW role the requests on the
book, the water and the opening are refused NOT_LEAD (R6, R35, R149). Such a refusal changes nothing but the port, and that of
a non-read request the resume-prepare flag (R176; that a RESUME_PREPARE refused NOT_PERMITTED clears it too is the model's
reading, entry 15). -/
def Obligations.RequestsRefused : Prop :=
  ∀ s : State,
    let no := fun (i : Instr) => exec i s = .next (s.asked.respond .notPermitted [])
    (∀ st, st ≠ .harbour →
      (∀ vessel dir draft priority notBefore follows, no (.book st vessel dir draft priority notBefore follows)) ∧
      (∀ n change, no (.amend st n change)) ∧ (∀ n, no (.cancel st n) ∧ no (.forget st n)) ∧ no (.listChanged st)) ∧
    (∀ level, no (.setWater .maintenance level)) ∧
    (∀ st, st ≠ .operator →
      (∀ n, no (.markPassed st n) ∧ no (.retryGate st n) ∧ no (.releaseLane st n) ∧ no (.holdLane st n)) ∧
      no (.recoverLower st) ∧ no (.stopSpan st) ∧ no (.reopenRoad st) ∧ no (.closeRoad st) ∧ no (.releaseAll st) ∧
      no (.holdAll st) ∧ no (.openSpan st) ∧ no (.closeNow st) ∧ no (.abortOpening st) ∧ no (.continueOpening st) ∧
      no (.ackFaults st) ∧ no (.resumePrepare st) ∧ no (.resume st)) ∧
    (∀ st, st ≠ .maintenance →
      no (.enterCreep st) ∧ no (.leaveCreep st) ∧ no (.teachSeat st) ∧
      (∀ n v, no (.setMask st n v)) ∧ (∀ n v, no (.writeSetting st n v)) ∧ (∀ n, no (.storeSettings st n)) ∧
      ∀ v, no (.setProtect st v)) ∧
    (s.role = .follow →
      (∀ vessel dir draft priority notBefore follows,
        exec (.book .harbour vessel dir draft priority notBefore follows) s = .next (s.asked.respond .notLead [])) ∧
      (∀ n change, exec (.amend .harbour n change) s = .next (s.asked.respond .notLead [])) ∧
      (∀ n, exec (.cancel .harbour n) s = .next (s.asked.respond .notLead []) ∧
        exec (.forget .harbour n) s = .next (s.asked.respond .notLead []) ∧
        exec (.markPassed .operator n) s = .next (s.asked.respond .notLead [])) ∧
      exec (.listChanged .harbour) s = .next (s.asked.respond .notLead []) ∧
      (∀ st level, st = .operator ∨ st = .harbour →
        exec (.setWater st level) s = .next (s.asked.respond .notLead [])) ∧
      exec (.openSpan .operator) s = .next (s.asked.respond .notLead []) ∧
      exec (.closeNow .operator) s = .next (s.asked.respond .notLead []) ∧
      exec (.abortOpening .operator) s = .next (s.asked.respond .notLead []) ∧
      (∀ st key, exec (.lookup st key) s = .next (s.wake.respond .notLead [])) ∧
      (∀ st filter after, exec (.listBook st filter after) s = .next (s.wake.respond .notLead [])))

/-! ### The passage book and the water level (chapters 1 and 2) -/

/-- BOOK (R4, R7, R8): its refusals in their order; and an accepted booking stands at the end of the book under the first
number from the counter on that no record holds, its changed flag set, a full book losing its oldest closed record; and it is
offered to the sequencer, which examines the book for joins (R8, R139). That a presence flag other than 0 and 1 is refused
with check 3 (entry 31), that a BOOK after a FORGET takes the free place, where the last sentence of R20 has it overwrite
another record or be BOOK_FULL (entry 32), and that closed-at values are compared as plain numbers across a wrap of the clock
(entry 42), are the model's choices. -/
def Obligations.BookPlaced : Prop :=
  ∀ (s : State) (vessel dir : Nat) (draft : Int) (priority : Nat) (nb : NotBeforeParam) (follows : Nat),
    s.BookNumbered → s.role ≠ .follow →
    let w := s.asked
    let rs := w.book.records
    let req := w.requiredFor draft
    let c := Instr.book .harbour vessel dir draft priority nb follows
    let formed := 100 ≤ draft ∧ draft ≤ 6000 ∧ nb.flag ≤ 1 ∧ dir ≤ 1 ∧ priority ≤ 1
    let led := follows = 0 ∨ ∃ r ∈ rs, r.number = follows ∧ r.live = true ∧ r.dir.code = dir
    let known := ∃ r ∈ rs, r.live = true ∧ r.vessel = vessel
    let full := rs.length = 24 ∧ ∀ r ∈ rs, r.live = true
    ((w.fault .unconfigured).cond = true → exec c s = .next (w.respond .unconfigured [])) ∧
    ((w.fault .unconfigured).cond = false →
      (¬(formed ∧ led) → exec c s = .next (w.respond .badValue [])) ∧
      (formed → led → known → exec c s = .next (w.respond .duplicateVessel [])) ∧
      (formed → led → ¬known → req = .unachievable → exec c s = .next (w.respond .clearanceExceeded [])) ∧
      (formed → led → ¬known → req ≠ .unachievable → full → exec c s = .next (w.respond .bookFull [])) ∧
      (formed → led → ¬known → req ≠ .unachievable → ¬full → ∃ (u : State) (n k : Nat) (stay : List Rec),
        exec c s = .next (u.settle.respond .ok (be16 n ++ req.bytes)) ∧
        n = nextNumber^[k] s.book.counter ∧ (∀ j < k, ∃ r ∈ rs, r.number = nextNumber^[j] s.book.counter) ∧
        (∀ r ∈ rs, r.number ≠ n) ∧
        (rs.length < 24 → stay = rs) ∧
        (rs.length = 24 → ∃ xs q ys, rs = xs ++ q :: ys ∧ stay = xs ++ ys ∧ q.live = false ∧
          (∀ p ∈ xs, p.live = false → q.closedAt.getD 0 < p.closedAt.getD 0) ∧
          (∀ p ∈ ys, p.live = false → q.closedAt.getD 0 ≤ p.closedAt.getD 0)) ∧
        let placed : Rec :=
          { number := n, vessel := vessel, dir := if dir = 0 then .inbound else .outbound, draft := draft,
            priority := if priority = 0 then .routine else .urgent,
            notBefore := if nb.flag = 1 then some nb.value else none,
            follows := if follows = 0 then none else some follows,
            required := req, state := .booked, changed := true, closedAt := none }
        (∃ q ∈ u.book.records, q.number = n ∧ q.changed = true) ∧
        u.kept =
          { s.kept with
              prepare := false
              lapse := .stopped
              counter := if n = 65535 then 1 else n + 1
              keys := stay.map Rec.key ++ [placed.key] } ∧
        (w.FollowsEarlier →
          Joins { w with book := { records := stay ++ [placed], counter := if n = 65535 then 1 else n + 1 } } u)))

/-- AMEND outside FOLLOW role (R9, R10, R21): its refusals in their order; and an accepted one writes each change it carries
into the record, sets the changed flag exactly where a field then differs, and answers the required angle as it then stands;
one that carries no change has no effect. A BOOKED record is then offered to the sequencer, which examines the book for
joins; a GROUPED one whose draft is amended is tested with its new required angle, and joins are examined after it; any other
change leaves a GROUPED record in its place (R10, R139, R140). That a change byte which marks a value and its removal is
refused with check 2 is the model's choice (entry 31). -/
def Obligations.AmendWritten : Prop :=
  ∀ (s : State) (n : Nat) (c : AmendChange), s.BookNumbered → s.role ≠ .follow →
    let w := s.asked
    let rs := w.book.records
    let i := Instr.amend .harbour n c
    let formed := (∀ d, c.draft = some d → 100 ≤ d ∧ d ≤ 6000) ∧ (∀ p, c.priority = some p → p ≤ 1) ∧
      ¬(c.notBefore ≠ none ∧ c.dropNotBefore = true) ∧ ¬(c.follows ≠ none ∧ c.dropFollows = true)
    let nothing : AmendChange := { draft := none, priority := none, notBefore := none, dropNotBefore := false,
                                   follows := none, dropFollows := false }
    (¬formed → exec i s = .next (w.respond .badValue [])) ∧
    (formed → (∀ r ∈ rs, r.number ≠ n) → exec i s = .next (w.respond .notFound [])) ∧
    (∀ xs r ys, formed → rs = xs ++ r :: ys → r.number = n →
      let led := ∀ f, c.follows = some f → ∃ q ∈ xs, q.number = f ∧ q.live = true ∧ q.dir = r.dir
      let req := match c.draft with | some d => w.requiredFor d | none => r.required
      let short := c.draft ≠ none ∧ req = .unachievable
      (r.live = false → exec i s = .next (w.respond .wrongState [])) ∧
      (r.state = .called ∨ r.state = .passing → exec i s = .next (w.respond .inPassage [])) ∧
      (r.state = .booked ∨ r.state = .grouped → ¬led → exec i s = .next (w.respond .badValue [])) ∧
      (r.state = .booked ∨ r.state = .grouped → led → short → exec i s = .next (w.respond .clearanceExceeded [])) ∧
      (r.state = .booked ∨ r.state = .grouped → led → ¬short → ∃ u : State,
        exec i s = .next (u.settle.respond .ok req.bytes) ∧
        (∃ q ∈ u.book.records, q.number = n ∧
          (q.changed = true ↔ r.changed = true ∨ q.key ≠ r.key ∨ q.state ≠ r.state)) ∧
        (c = nothing → u = w) ∧
        let changed : Rec :=
          { r with
              draft := c.draft.getD r.draft, required := req,
              priority := match c.priority with | some 0 => .routine | some _ => .urgent | none => r.priority,
              notBefore := if c.dropNotBefore then none else if c.notBefore = none then r.notBefore else c.notBefore,
              follows := if c.dropFollows then none else if c.follows = none then r.follows else c.follows }
        u.kept =
          { s.kept with
              prepare := false
              lapse := .stopped
              keys := xs.map Rec.key ++ changed.key :: ys.map Rec.key } ∧
        let written := { changed with changed := r.changed || decide (changed ≠ r) }
        let v : State := { w with book := { w.book with records := xs ++ written :: ys } }
        (r.state = .booked → w.FollowsEarlier → c ≠ nothing → Joins v u) ∧
        (r.state = .grouped → c.draft = none → u = v) ∧
        (r.state = .grouped → c.draft ≠ none → w.OpeningSound →
          ∃ m, Tested v m (fun q => q.number = n) ∧ Joins m u)))

/-- A record enters a closed state, by CANCEL, MARK_PASSED, CALL_TIME or the beams (R11, R16, R18, R118, R122, R123): its
closed-at and state are written with its changed flag set, it is off the group list, with what that brings to the opening
(R129, R138, R141), and the live records that followed it are freed, their changed flags set, whereupon the book is examined
for joins (R139). The closing of a CALLED or PASSING record is a call end: the context is emptied, FOLLOW_GAP runs for its own
direction and TURNAROUND for the other. Nothing changes but the book, the opening record and the signals. CANCEL and
MARK_PASSED refuse a number of no record NOT_FOUND; CANCEL refuses a PASSING record IN_PASSAGE and a closed one WRONG_STATE, and
MARK_PASSED any but a PASSING one WRONG_STATE (R11, R16). -/
def Obligations.RecordCloses : Prop :=
  (∀ (s : State) (n : Nat), s.role ≠ .follow →
    let w := s.asked
    let cancel := exec (.cancel .harbour n) s
    let passed := exec (.markPassed .operator n) s
    ((∀ r ∈ w.book.records, r.number ≠ n) →
      cancel = .next (w.respond .notFound []) ∧ passed = .next (w.respond .notFound [])) ∧
    (∀ r, w.findRec n = some r →
      (r.state = .passing → cancel = .next (w.respond .inPassage [])) ∧
      (r.live = false → cancel = .next (w.respond .wrongState [])) ∧
      (r.state ≠ .passing → passed = .next (w.respond .wrongState [])))) ∧
  ∀ (s : State) (c : Instr) (r : Rec) (fin : RecState), s.BookNumbered → s.role ≠ .follow →
    let w := s.wake
    let x := w.signals
    let asks := c = .cancel .harbour r.number ∨ c = .markPassed .operator r.number
    let ended : Bool := r.state = .called ∨ r.state = .passing
    r ∈ w.book.records →
    (c = .cancel .harbour r.number ∧ fin = .cancelled ∧ (r.state = .booked ∨ r.state = .grouped ∨ r.state = .called)) ∨
      (c = .markPassed .operator r.number ∧ fin = .passed ∧ r.state = .passing) ∨
      (c = .callTimeExpiry ∧ fin = .lapsed ∧ r.state = .called ∧ x.call.called = some r.number ∧
        x.call.callTimer.isRunning = true) ∨
      (c = .beamClear .downstream ∧ fin = .passed ∧ r.state = .passing ∧ x.call.passing = some r.number ∧
        x.call.exitSeen = true ∧ x.downstream = some true ∧ x.upstream = some false) ∨
      (c = .beamClear .upstream ∧ fin = .passed ∧ r.state = .passing ∧ x.call.passing = some r.number ∧
        x.call.exitSeen = true ∧ x.downstream = some false ∧ x.upstream = some true) →
    let base := if asks then s.asked else w
    let ends := if ended then w.callEnded r.dir else x
    ∃ m u : State,
      (asks → exec c s = .next (u.settle.respond .ok [])) ∧ (¬asks → exec c s = .next u.settle) ∧
      m = { base with
        book := { w.book with
          records := w.book.records.map fun q =>
            if q.number = r.number then { q with state := fin, closedAt := some s.clock, changed := true }
            else if q.live = true ∧ q.follows = some r.number then { q with follows := none, changed := true }
            else q },
        opening := m.opening,
        signals := { ends with
          downstream := if c = .beamClear .downstream then some false else x.downstream,
          upstream := if c = .beamClear .upstream then some false else x.upstream } } ∧
      (r.number ∉ w.opening.group → m.opening = w.opening) ∧
      (r.number ∈ w.opening.group →
        m.opening.group = w.opening.group.filter (fun n => n != r.number) ∧ GroupLeft base m) ∧
      (w.FollowsEarlier → Joins m u) ∧
      u = { base with book := u.book, opening := u.opening, signals := m.signals } ∧
      u.book.records.map Rec.key = w.closedKeys r.number ∧ u.book.counter = s.book.counter ∧
      (∃ q ∈ u.book.records, q.number = r.number ∧ q.state = fin ∧ q.changed = true) ∧ r.number ∉ u.opening.group

/-- R15: FORGET removes a closed record from the book order, its number then named by no record, and touches no other
record; it is refused NOT_LEAD in FOLLOW role, NOT_FOUND where no record holds the number, and WRONG_STATE for a live
record, which stays. -/
def Obligations.ForgetRemoves : Prop :=
  ∀ (s : State) (n : Nat), s.BookNumbered →
    let w := s.asked
    (s.role = .follow → exec (.forget .harbour n) s = .next (w.respond .notLead [])) ∧
    (s.role ≠ .follow → (∀ r ∈ w.book.records, r.number ≠ n) →
      exec (.forget .harbour n) s = .next (w.respond .notFound [])) ∧
    (s.role ≠ .follow → ∀ r ∈ w.book.records, r.number = n → r.live = true →
      exec (.forget .harbour n) s = .next (w.respond .wrongState [])) ∧
    (s.role ≠ .follow → ∀ xs r ys, w.book.records = xs ++ r :: ys → r.number = n → r.live = false →
      exec (.forget .harbour n) s =
        .next (({ w with book := { w.book with records := xs ++ ys } }).settle.respond .ok []) ∧
      (xs ++ ys).length + 1 = w.book.records.length ∧ ∀ q ∈ xs ++ ys, q.number ≠ n)

/-- LIST_CHANGED outside FOLLOW role (R14, R21): it answers the numbers of the first 16 records, in book order, whose
changed flag is set, and the more-indication, and clears the flags of the records it reports and of no others. -/
def Obligations.ChangedListed : Prop :=
  ∀ (s : State) (said others : List Nat), s.BookNumbered → s.role ≠ .follow →
    let w := s.asked
    ((w.book.records.filter Rec.changed).map (·.number)) = said ++ others →
    (others ≠ [] → said.length = 16) → said.length ≤ 16 → ∃ u : State,
      exec (.listChanged .harbour) s = .next (u.settle.respond .ok
        (u8 said.length ++ (said.flatMap fun n => be16 n) ++ flagByte (decide (others ≠ [])))) ∧
      u = { w with book := { w.book with records := u.book.records } } ∧
      u.book.records = w.book.records.map (fun r => if r.number ∈ said then { r with changed := false } else r) ∧
      (u.bookAttention = true ↔ others ≠ [])

/-- SET_WATER and WATER_STALE_EXPIRY outside FOLLOW role (R26 to R28, R30): the water record is written, and where the
effective level changes the required angle of every live record is computed afresh and its changed flag set where it differs
(R19, R21), the records of the list are tested with it, with returns, ejections and CLEARANCE_SHORT (R140), and the book is
examined for joins (R139). A level outside -500 to 1500 is
refused BAD_VALUE. A level goes STALE once its age has reached its life; an expiry before that, or with the source not
FRESH, changes nothing (the model's choice, entries 3 and 33), and the age is counted across a wrap of the clock (entry
33). -/
def Obligations.WaterTaken : Prop :=
  ∀ s : State, s.role ≠ .follow →
    let keysAt := fun (level : Int) => if level = s.effectiveWater then s.kept.keys else s.wake.levelKeys level
    let brings := fun (level : Int) (v u : State) =>
      (level = s.effectiveWater → u = v) ∧ (level ≠ s.effectiveWater → s.wake.OpeningSound → Reevaluated v u)
    (∀ st level, st = .operator ∨ st = .harbour →
      (level < -500 ∨ 1500 < level → exec (.setWater st level) s = .next (s.asked.respond .badValue [])) ∧
      (-500 ≤ level → level ≤ 1500 → ∃ u : State, exec (.setWater st level) s = .next (u.settle.respond .ok (be16 level)) ∧
        let fresh : Water := { source := .fresh, level := some level, time := some s.clock,
                               life := some s.items.clearance.waterStale.toNat }
        u.kept = { s.kept with prepare := false, lapse := .stopped, keys := keysAt level, water := fresh } ∧
        brings level { s.asked with water := fresh } u)) ∧
    (∀ given life : Nat, s.water.source = .fresh → s.water.time = some given → s.water.life = some life →
      let age := (s.clock + 4294967296 - given) % 4294967296
      (age < life → exec .waterStaleExpiry s = .next s.wake.settle) ∧
      (life ≤ age → ∃ u : State, exec .waterStaleExpiry s = .next u.settle ∧
        u.kept =
          { s.kept with
              keys := keysAt s.items.clearance.waterHigh
              water := { s.water with source := .stale } } ∧
        brings s.items.clearance.waterHigh { s.wake with water := { s.water with source := .stale } } u ∧
        (s.FaultsRight → (s.fault .waterStale).mask = false →
          u.settle.latched .waterStale = true ∧ (u.settle.fault .waterStale).cond = true))) ∧
    (s.water.source ≠ .fresh → exec .waterStaleExpiry s = .next s.wake.settle)

/-! ### The opening cycle (chapter 7) -/

/-- OPEN outside FOLLOW role and the start of an opening (R128 to R134, R138). The refusals of OPEN in their order,
NO_PASSAGES where no record is eligible; and an accepted one steps the opening number, takes eligible records into the group
in their order (`Taken`), sets the run direction and the target, and enters PENDING. The response carries the opening number,
the target and the phase as the event leaves them. No event leaves an opening in PENDING whose start test passes: that has
the road interval elapsed, or a record of the list URGENT and a credit left. With the interval elapsed CLOSING_ROAD is
entered at no cost; on a credit the credit is spent, and the interval is CUT. Every used approach in OPEN_ROAD, RESTART or
REOPENING is then in PREWARN. That is said of the ends of the settle interval and of the road interval, with a used approach
in one of those states. -/
def Obligations.OpenStarts : Prop :=
  (∀ s : State, s.BookNumbered → s.role ≠ .follow → s.asked.FollowsEarlier →
    let w := s.asked
    let o := w.opening
    let ready := w.motion.state = .seatedLocked ∧ (s.role = .lead → s.link.paired = true)
    let c := Instr.openSpan .operator
    (o.phase ≠ .idle → exec c s = .next (w.respond .wrongState [])) ∧
    (o.phase = .idle → w.faults.halted = true → exec c s = .next (w.respond .halted [])) ∧
    (o.phase = .idle → w.faults.halted = false → (w.fault .unconfigured).cond = true →
      exec c s = .next (w.respond .unconfigured [])) ∧
    (o.phase = .idle → w.faults.halted = false → (w.fault .unconfigured).cond = false →
      (¬ready → exec c s = .next (w.respond .wrongState [])) ∧
      (ready → (∀ r, ¬Eligible w none r) ∨ 6 ≤ o.group.length → exec c s = .next (w.respond .noPassages [])) ∧
      (ready → (∃ r, Eligible w none r) → o.group.length < 6 →
        ∃ (u : State) (ns : List Nat) (target : Int), exec c s = .next (u.settle.respond .ok
            (be16 u.settle.opening.number ++ optAngle u.settle.opening.target ++ u8 u.settle.opening.phase.code)) ∧
          Taken w none ns ∧
          u = { w with book := u.book, opening := u.opening } ∧
          u.book.records = w.book.records.map (fun r =>
            if r.number ∈ ns then { r with state := .grouped, changed := true } else r) ∧
          u.book.counter = s.book.counter ∧
          u.opening =
            { o with
                number := if 65535 ≤ o.number then 1 else o.number + 1, phase := .pending, group := o.group ++ ns,
                target := some target, frozen := false, creditUsed := false, command := none,
                runDir := (o.group ++ ns).head?.bind fun n => (w.findRec n).map Rec.dir } ∧
          TargetIs u target))) ∧
  (let urgent := fun (s : State) => ∃ r, Grouped s r ∧ r.priority = .urgent
   let open_ := fun (a : Approach) => a.closure = .openRoad ∨ a.closure = .restart ∨ a.closure = .reopening
   let started := fun (s t : State) => t.opening.phase = .closingRoad ∧
     ∀ x, s.usesAp x = true → open_ (s.ap x) →
       (t.ap x).closure = .prewarn ∧ (t.ap x).stateTimer = .running (s.items.road.prewarnTime * 1000).toNat
   (∀ u : State,
     let t := u.settle
     t.opening.phase = .pending → t.MayAdvance → (∀ ms, t.opening.settle ≠ .running ms) →
       t.opening.interval ≠ .elapsed ∧ ¬(urgent t ∧ 0 < t.opening.credits)) ∧
   ∀ s : State, s.Settled → s.MayAdvance → s.opening.phase = .pending → (∃ x, s.usesAp x = true ∧ open_ (s.ap x)) →
     let o := s.opening
     (∀ ms, o.settle = .running ms →
       (o.interval = .elapsed → ∃ t, exec .settleIntervalExpiry s = .next t ∧ started s t ∧
         t.opening.credits = o.credits ∧ t.opening.creditUsed = o.creditUsed ∧ t.opening.interval = .elapsed) ∧
       (o.interval ≠ .elapsed → urgent s → 0 < o.credits → ∃ t, exec .settleIntervalExpiry s = .next t ∧ started s t ∧
         t.opening.credits + 1 = o.credits ∧ t.opening.creditUsed = true ∧ t.opening.interval = .cut ∧
         t.opening.intervalTimer = .stopped)) ∧
     ((∀ ms, o.settle ≠ .running ms) → o.interval = .running → ∃ t, exec .roadIntervalExpiry s = .next t ∧ started s t ∧
       t.opening.credits = (if (o.credits : Int) < s.items.road.roadCredits then o.credits + 1 else o.credits) ∧
       t.opening.creditUsed = o.creditUsed ∧ t.opening.interval = .elapsed))

/-- CLOSE_NOW, ABORT_OPENING, CONTINUE and the expiries of the linger timer, the road interval and the settle interval
(R129, R133, R134, R141 to R143, R146, R149): the refusals of each in their order, what each does to the opening record
before the blocks react, and the return of every GROUPED and CALLED record of the group to BOOKED. That the settle timer and
the timer of an interval that has elapsed are then stopped is the model's choice (entry 48). The advances (R135 to R137): in a
settled state no phase is left to advance, and the sequencer's part of each round (`State.advancePhase`) enters the next phase
with its step where the condition of R136 holds and nothing holds it back, and changes nothing elsewhere. A step that a block may
refuse stands as the outstanding command, the model's own field, until it is taken. That the run direction stays until IDLE is
the model's choice (entry 53). -/
def Obligations.OpeningRequests : Prop :=
  (∀ t : State, t.Settled → t.MayAdvance → ¬t.PhaseDone) ∧
  (∀ s : State, ¬(s.MayAdvance ∧ s.PhaseDone) → s.advancePhase = s) ∧
  (∀ s : State, s.MayAdvance → s.PhaseDone →
    let o := s.opening
    let call := s.signals.call
    let serving := fun (d : Option Dir) => { s.signals with call := { call with serving := d } }
    (o.phase = .closingRoad →
      s.advancePhase = { s with opening := { o with phase := .unlocking, command := some .withdraw } }) ∧
    (o.phase = .unlocking →
      s.advancePhase = { s with opening := { o with phase := .raising, command := some .raise, frozen := true } }) ∧
    (o.phase = .raising → s.advancePhase = { s with
      signals := serving o.runDir,
      opening := { o with
        phase := .heldOpen, command := none,
        linger := if o.group ≠ [] then o.linger
                  else if s.items.channel.linger = 0 then .expired
                  else .running (s.items.channel.linger * 1000).toNat } }) ∧
    (o.phase = .heldOpen → s.advancePhase = { s with
      signals := serving none, opening := { o with phase := .lowering, command := some .lower, linger := .stopped } }) ∧
    (o.phase = .lowering →
      s.advancePhase = { s with opening := { o with phase := .locking, command := some .drive } }) ∧
    (o.phase = .locking → ∃ u, s.advancePhase = u ∧
      u = { s with opening := { o with phase := .reopeningRoad, command := none }, apA := u.apA, apB := u.apB } ∧
      ∀ x, (s.usesAp x = false → u.ap x = s.ap x) ∧
        (s.usesAp x = true → (s.ap x).closure ≠ .openRoad → (u.ap x).closure = .reopening)) ∧
    (o.phase = .reopeningRoad → s.advancePhase = { s with opening := { o with
      phase := .idle, command := none, target := none, runDir := none, resumePoint := none, frozen := false,
      suspended := false, closeRequested := false, linger := .stopped,
      interval := if s.items.road.roadMin = 0 then .elapsed else .running,
      intervalTimer := if s.items.road.roadMin = 0 then .stopped else .running (s.items.road.roadMin * 1000).toNat,
      credits := if s.items.road.roadMin = 0 ∧ (o.credits : Int) < s.items.road.roadCredits then o.credits + 1
                 else o.credits } })) ∧
  ∀ s : State,
    let w := s.asked
    let o := w.opening
    let lead := s.role ≠ .follow
    let quiet : Kept := { s.kept with prepare := false, lapse := .stopped }
    let returned := fun (u : State) => ∀ n ∈ o.group, ∀ r, w.findRec n = some r → r.state = .grouped ∨ r.state = .called →
      n ∉ u.opening.group ∧ ∃ r', u.findRec n = some r' ∧ r'.state = .booked ∧ r'.changed = true
    let goesOn := o.resumePoint = some .raising ∨ o.resumePoint = some .heldOpen ∨ o.resumePoint = some .lowering
    let fit := s.pos.source = .p ∧ s.motion.creep = false ∧ (s.role ≠ .sole → s.link.paired = true)
    (lead → o.phase ≠ .heldOpen → exec (.closeNow .operator) s = .next (w.respond .wrongState [])) ∧
    (lead → o.phase = .heldOpen → ∃ u : State, exec (.closeNow .operator) s = .next (u.settle.respond .ok []) ∧
      u.kept = quiet ∧ returned u ∧ u.opening.phase = .heldOpen ∧ u.opening.closeRequested = true ∧
      u.opening.linger = .stopped) ∧
    (lead → w.faults.halted = true → exec (.abortOpening .operator) s = .next (w.respond .halted [])) ∧
    (lead → w.faults.halted = false → o.phase ≠ .pending → o.phase ≠ .closingRoad →
      exec (.abortOpening .operator) s = .next (w.respond .wrongState [])) ∧
    (lead → w.faults.halted = false → o.phase = .pending ∨ o.phase = .closingRoad → ∃ u : State,
      exec (.abortOpening .operator) s = .next (u.settle.respond .ok []) ∧ u.kept = quiet ∧ returned u ∧
      u.opening.phase = (if o.phase = .pending then .idle else .reopeningRoad) ∧ u.opening.target = none ∧
      u.opening.suspended = false ∧ u.opening.resumePoint = none ∧ u.opening.credits = o.credits ∧
      u.opening.interval = o.interval ∧ u.opening.creditUsed = o.creditUsed) ∧
    (w.faults.halted = true → exec (.continueOpening .operator) s = .next (w.respond .halted [])) ∧
    (w.faults.halted = false → ¬(o.suspended = true ∧ w.motion.state = .stopped ∧ goesOn ∧ fit) →
      exec (.continueOpening .operator) s = .next (w.respond .wrongState [])) ∧
    (w.faults.halted = false → o.suspended = true → w.motion.state = .stopped → goesOn → fit →
      (s.pos.p.ref ≠ .referenced → exec (.continueOpening .operator) s = .next (w.respond .notReferenced [])) ∧
      (s.pos.p.ref = .referenced → ∃ u : State,
        exec (.continueOpening .operator) s = .next (u.settle.respond .ok []) ∧ u.kept = quiet ∧
        u.opening.suspended = false ∧ u.opening.resumePoint = none ∧ u.book = w.book ∧ u.motion = w.motion ∧
        (lead → o.resumePoint = some u.opening.phase) ∧ (s.role = .follow → u.opening.phase = o.phase) ∧
        (u.opening.phase = .raising → u.opening.command = some .raise) ∧
        (u.opening.phase = .heldOpen → u.opening.command = some .hold) ∧
        (u.opening.phase = .lowering → u.opening.command = some .lower))) ∧
    (∀ ms, s.wake.opening.linger = .running ms → exec .lingerExpiry s =
      .next ({ s.wake with opening := { s.wake.opening with linger := .expired } }).settle) ∧
    (s.wake.opening.interval = .running → exec .roadIntervalExpiry s =
      .next ({ s.wake with opening := { s.wake.opening with
        interval := .elapsed, intervalTimer := .stopped,
        credits := if (s.wake.opening.credits : Int) < s.items.road.roadCredits then s.wake.opening.credits + 1
                   else s.wake.opening.credits } }).settle) ∧
    exec .settleIntervalExpiry s =
      .next ({ s.wake with opening := { s.wake.opening with settle := .stopped } }).settle

/-! ### The fault unit (chapter 9) -/

/-- SET_MASK, ACK_FAULTS and the lapse of the resume-prepare flag (R168, R171, R172, R176). A mask is written for a
WARNING fault alone, and a mask that is set clears the latch and the condition; any other fault, code or value is refused
BAD_VALUE; for a value other than 0 and 1 that is the model's choice (entry 19). ACK_FAULTS clears every latch whose
condition is false and answers the number of latches left. -/
def Obligations.FaultRequests : Prop :=
  ∀ s : State,
    let w := s.asked
    (∀ (f : FaultId) (v : Nat), f.cls = .warning → v ≤ 1 → ∃ t, exec (.setMask .maintenance f.index.val v) s = .next t ∧
      t.kept = { s.keptAnswer .ok [] with masks := s.kept.masks.set f.index.val (decide (v = 1)) } ∧
      (t.fault f).mask = decide (v = 1) ∧
      (v = 1 → (t.fault f).cond = false ∧ (t.fault f).latch = false)) ∧
    (∀ n v : Nat, 28 < n ∨ 1 < v ∨ (∃ f : FaultId, n = f.index.val ∧ f.cls ≠ .warning) →
      exec (.setMask .maintenance n v) s = .next (w.respond .badValue [])) ∧
    (∃ u : State, exec (.ackFaults .operator) s = .next (u.settle.respond .ok (be32 (allFaults.countP u.latched))) ∧
      u = { w with faults := { w.faults with recs := u.faults.recs } } ∧
      ∀ f, u.fault f = { w.fault f with latch := w.latched f && (w.fault f).cond }) ∧
    (∀ ms, s.faults.lapse = .running ms → ∃ t, exec .resumePrepareLapse s = .next t ∧
      t.kept = { s.kept with prepare := false, lapse := .stopped })

/-- RESUME_PREPARE (R175): refused WRONG_STATE while not halted; accepted while halted, in every role and whatever the
latches: the flag is set and its lapse timer runs at 5 s, again at 5 s where the flag was set. From another station than the
OPERATOR it is refused NOT_PERMITTED (R191), and then it clears the flag like any other request so refused (the model's
reading, entry 15). -/
def Obligations.ResumePrepared : Prop :=
  ∀ s : State,
    (∀ st, st ≠ .operator → exec (.resumePrepare st) s = .next (s.asked.respond .notPermitted [])) ∧
    (s.wake.faults.halted = false → exec (.resumePrepare .operator) s = .next (s.wake.respond .wrongState [])) ∧
    (s.wake.faults.halted = true → ∃ t, exec (.resumePrepare .operator) s = .next t ∧
      t.kept = { s.kept with prepare := true, lapse := .running 5000, port := s.port.answered .ok [] })

/-- RESUME (R83, R109, R158, R177, R178): its refusals in their order, the resume-prepare flag cleared whatever the outcome;
and an accepted one ends the span halt with the last entry kept, the leaf seated or STOPPED by its seat reading, the tone
timer stopped, and no fault record touched. An absent seat reading gives STOPPED (the model's choice, entry 20). -/
def Obligations.ResumeEnds : Prop :=
  ∀ s : State,
    let w := s.asked
    let standing := ∃ f : FaultId, f.cls = .halt ∧ (w.latched f = true ∨ (w.fault f).cond = true)
    (w.faults.halted = false → exec (.resume .operator) s = .next (w.respond .wrongState [])) ∧
    (w.faults.halted = true → s.faults.prepare = false → exec (.resume .operator) s = .next (w.respond .sequence [])) ∧
    (w.faults.halted = true → s.faults.prepare = true → standing →
      exec (.resume .operator) s = .next (w.respond .halted [])) ∧
    (w.faults.halted = true → s.faults.prepare = true → ¬standing → ∃ u : State,
      exec (.resume .operator) s = .next (u.settle.respond .ok []) ∧
      u = { w with faults := { w.faults with halted := false },
                   motion := { w.motion with state := u.motion.state },
                   link := { w.link with toneTimer := .stopped }, apA := u.apA, apB := u.apB } ∧
      u.motion.state =
        (if s.pos.seat = some true then
           if w.locks.tail.state = .driven ∧ (s.role = .follow ∨ w.locks.toe.state = .driven) then .seatedLocked
           else .seatedFree
         else .stopped) ∧
      ∀ x, (u.ap x).kept = (w.ap x).kept ∧
        (s.usesAp x = false ∨ (w.ap x).advancePending = false → u.ap x = w.ap x) ∧
        (s.usesAp x = true → (w.ap x).advancePending = true → (u.ap x).advancePending = false ∧
          ((w.ap x).closure = .prewarn → (u.ap x).closure = .stopping ∧
            (u.ap x).stateTimer = .running (s.items.road.stopTime * 1000).toNat) ∧
          ((w.ap x).closure = .stopping → (u.ap x).closure = .entryLowering)))

/-! ### The settings store (chapter 10) -/

/-- WRITE_SETTING (R24, R25, R67, R70, R92, R181, R184, R185), of a number, of the whole clearance table or of the whole set
of envelope bands: its refusals in their order; and an accepted write replaces the working value, starts the settle interval
for a rest-only item, and has its consequence in the owning block: the seat presets (R51), the required angles of every live
record with their changed flags, returns, ejections and joins (R19, R21, R30, R139, R140), the credits (R134), the gates and
detectors (R92). A detector's reading after a change of its use (entry 30), the kept end of the gathering window (entry 41),
and STORE_BUSY before PROTECTED while the write of a SET_PROTECT runs (entry 55) are the model's choices. -/
def Obligations.SettingWritten : Prop :=
  ∀ (s : State) (k : Nat) (value : SettingValue),
    let w := s.asked
    let c := Instr.writeSetting .maintenance k value
    let shut := s.settings.protect = true ∧ s.lines.key ≠ some true
    let idle := w.opening.phase = .idle ∧ (s.role = .follow → s.link.paired = true)
    let road := idle ∧ ∀ x, s.usesAp x = true →
      (w.ap x).closure = .openRoad ∨ (w.ap x).closure = .closed ∨ (w.ap x).closure = .restart
    (s.settings.writing ≠ none → exec c s = .next (w.respond .storeBusy [])) ∧
    (s.settings.writing = none → shut → exec c s = .next (w.respond .protected_ [])) ∧
    (s.settings.writing = none → ¬shut → 58 < k → exec c s = .next (w.respond .badValue [])) ∧
    (∀ i : Item, s.settings.writing = none → ¬shut → allItems[k]? = some i →
      let restOnly : Bool := i.block = .geometry ∨ i.block = .clearance ∨ i.block = .envelope
      let rests := idle ∧ w.motion.state = .seatedLocked
      let good :=
        match value with
        | .table table => i = .table ∧ TableFits s.fullOpen table
        | .bands bands => i = .bands ∧ BandsFit s.fullOpen bands
        | .num n =>
          i.range.1 ≤ n ∧ n ≤ i.range.2 ∧ i ≠ .table ∧ i ≠ .bands ∧
            (i = .fullOpen → s.minOpen ≤ n ∧ ∀ t p, s.items.clearance.table = some t → t.getLast? = some p → p.1 ≤ n) ∧
            (i = .minOpen → n ≤ s.fullOpen) ∧ (i = .skewSlow → n < s.skewHalt) ∧ (i = .skewHalt → s.skewSlow < n) ∧
            (∀ g, i = .gateKind g → s.role = .sole ∨ g.ap = .a ∨ n = 3) ∧
            (∀ x j, i = .zoneUse x j → s.role = .sole ∨ x = .a ∨ n = 1)
      let onRoad := (∃ g, i = .gateKind g) ∨ ∃ x j, i = .zoneUse x j
      (restOnly = true → ¬rests → exec c s = .next (w.respond .notAtRest [])) ∧
      ((restOnly = true → rests) → ¬good → exec c s = .next (w.respond .badValue [])) ∧
      (good → onRoad → ¬road → exec c s = .next (w.respond .notAtRest [])) ∧
      ((restOnly = true → rests) → good → (onRoad → road) → ∃ u : State,
        exec c s = .next (u.settle.respond .ok (i.valueBytes value)) ∧
        (∀ n, value = .num n → i.valueBytes value = numBytes i.width n) ∧
        let v : State :=
          { w with settings := { s.settings with working := s.items.put i value },
                   opening := if restOnly then { w.opening with settle := .running 2000 } else w.opening }
        u.settings = v.settings ∧ u.opening.settle = v.opening.settle ∧ u.items.get i = some value ∧
        (i ≠ .seatCount → i ≠ .table → i ≠ .clearanceMargin → i ≠ .waterHigh → i ≠ .roadCredits → i ≠ .gatherWindow →
          ¬onRoad → u = v) ∧
        (i = .table ∨ i = .clearanceMargin → u.kept = { v.kept with keys := v.levelKeys s.effectiveWater } ∧
          (s.role ≠ .follow → w.OpeningSound → Reevaluated v u)) ∧
        (∀ table, value = .table table → u.items.clearance = { s.items.clearance with table := some table }) ∧
        (∀ bands, value = .bands bands → u.items.envelope = { s.items.envelope with
          bands := bands.map fun b => ⟨b.upper, b.upLimit, b.downLimit, decide (b.cls = 0)⟩ }) ∧
        ∀ n, value = .num n →
          (i = .seatCount → (s.pos.seat ≠ some true → u = v) ∧
            (s.pos.seat = some true → ∀ ch, (u.track ch).counter =
              if (s.track ch).ref ≠ .referenced ∧ (s.track ch).sensorFault = false then n else (s.track ch).counter)) ∧
          (i = .waterHigh → u.kept =
            { v.kept with keys := if s.water.source = .fresh ∧ s.water.level ≠ none ∨ n = s.items.clearance.waterHigh
                                  then v.kept.keys else v.levelKeys n } ∧
            let same := s.water.source = .fresh ∧ s.water.level ≠ none ∨ n = s.items.clearance.waterHigh
            (same → u = v) ∧ (¬same → s.role ≠ .follow → w.OpeningSound → Reevaluated v u)) ∧
          (i = .gatherWindow → u = { v with horizon := min s.horizon (s.clock + n) }) ∧
          (i = .roadCredits → u = { v with opening := { v.opening with credits := min v.opening.credits n.toNat } }) ∧
          (∀ g, i = .gateKind g → (∀ h, h ≠ g → u.gate h = v.gate h) ∧
            (s.gateUsed g = true → n ≠ 3 → u.gate g = v.gate g) ∧
            (s.gateUsed g = true → n = 3 → (u.gate g).lamp = .dark ∧ (u.gate g).retryWait = .stopped ∧
              (u.gate g).travel = .stopped ∧ (u.gate g).holdFlash = .stopped) ∧
            (s.gateUsed g = false → s.usesAp g.ap = true → n ≠ 3 → (u.gate g).held = true ∧ (u.gate g).retryCount = 0 ∧
              (u.gate g).state =
                match (v.gate g).limits with
                | some ⟨true, false⟩ => .up
                | some ⟨false, true⟩ => .down
                | _ => .unknown)) ∧
          (∀ x j, i = .zoneUse x j → ∀ y, (u.ap y) =
            if y = x ∧ s.usesAp x = true ∧ (s.zoneUse x).at j ≠ decide (n = 0)
            then { v.ap x with zones := (v.ap x).zones.put j none } else v.ap y)))

/-- STORE_SETTINGS, SET_PROTECT and the completion of a store write (R169, R181, R186, R187): the refusals in their order;
a store write copies the block and sets store-busy; PROTECT changes at once and its write starts; a passed verify puts the
copy and its check value into the store, and a failed one keeps the old and latches STORE_FAIL; a waiting teach store
then starts. That completions with no write in progress change nothing (entry 4), and that the record of the last store
write names its target from the start of the write (entry 21), are the model's choices. -/
def Obligations.StoreWrites : Prop :=
  ∀ s : State,
    let w := s.asked
    let x := s.settings
    let shut := x.protect = true ∧ s.lines.key ≠ some true
    (∀ b : BlockId,
      let c := Instr.storeSettings .maintenance b.code
      (x.writing ≠ none → exec c s = .next (w.respond .storeBusy [])) ∧
      (x.writing = none → shut → exec c s = .next (w.respond .protected_ [])) ∧
      (x.writing = none → ¬shut → (∃ i ∈ b.items, s.items.get i = none) → exec c s = .next (w.respond .unconfigured [])) ∧
      (x.writing = none → ¬shut → (∀ i ∈ b.items, s.items.get i ≠ none) → ∃ t, exec c s = .next t ∧
        t.kept = { s.keptAnswer .ok [] with
          settings := { x with writing := some (.block b s.items), lastTarget := some (.block b) } })) ∧
    (∀ n : Nat, 6 < n → x.writing = none → ¬shut →
      exec (.storeSettings .maintenance n) s = .next (w.respond .badValue [])) ∧
    (∀ n : Nat, n ≤ 1 →
      let c := Instr.setProtect .maintenance n
      let on := decide (n = 1)
      (x.writing ≠ none → exec c s = .next (w.respond .storeBusy [])) ∧
      (x.writing = none → n = 0 → shut → exec c s = .next (w.respond .protected_ [])) ∧
      (x.writing = none → ¬(n = 0 ∧ shut) → ∃ t, exec c s = .next t ∧ t.kept = { s.keptAnswer .ok [] with
        settings := if x.protect = on then x
                    else { x with protect := on, writing := some (.protect on), lastTarget := some .protect } })) ∧
    (x.writing = none → ∀ ok, exec (.storeWriteComplete ok) s = .next s.wake.settle) ∧
    (∀ job ok, x.writing = some job → ∃ t, exec (.storeWriteComplete ok) s = .next t ∧
      t.kept = { s.kept with settings := t.settings } ∧ t.items = s.items ∧ t.settings.protect = x.protect ∧
      t.settings.lastOutcome = (if ok then .done else .failed) ∧ t.settings.teachStoreWaiting = false ∧
      t.settings.writing = (if x.teachStoreWaiting then some (.block .geometry s.items) else none) ∧
      t.settings.lastTarget = (if x.teachStoreWaiting then some (.block .geometry) else x.lastTarget) ∧
      (ok = false → t.settings.stored = x.stored ∧ t.settings.checks = x.checks ∧ t.settings.rejected = x.rejected ∧
        t.settings.storedProtect = x.storedProtect ∧
        ((s.fault .storeFail).mask = false → t.latched .storeFail = true)) ∧
      (ok = true → (∀ v, job = .protect v → t.settings.storedProtect = v ∧ t.settings.protectLoads = true ∧
          t.settings.stored = x.stored) ∧
        (∀ b copy, job = .block b copy → t.settings.rejected.at b = false ∧
          t.settings.checks.at b = crc16 (copy.blockBytes b) ∧
          (∀ i, t.settings.stored.get i = if i.block = b then copy.get i else x.stored.get i) ∧
          ∀ d, d ≠ b → t.settings.checks.at d = x.checks.at d ∧ t.settings.rejected.at d = x.rejected.at d)))

/-! ### The channel signals and beams (chapter 6) -/

/-- The gap timers, the signal lamps and the beams outside FOLLOW role (R114, R116 to R118, R122): the expiry stops the timer;
a lamp is judged for what its aspect means it to show (entry 22); a reading is established without a break. A break is the
entry of the called vessel, or, at the exit beam of the passing one, sets the exit-seen flag; any other break is
UNANNOUNCED_VESSEL, and changes no record, no call and no motion. A clear that completes no passage changes the reading alone.
In FOLLOW role the heads and the beams are out of service (R127). A second establishment, a break of a beam that is not CLEAR
and a clear of one that is not BROKEN change nothing (the model's choice, entry 4). Calls outside FOLLOW role: no event leaves a
record CALLED whose direction is out of service or whose required angle is above the GO angle, or above the own angle where
there is none (R115, R124); such a call is revoked to GROUPED with a call end, in each round of the reactions
(`State.driftStage`; also at the return of a fresh view, entry 46). No event leaves a due call unmade: the first candidate of the
serving direction waits for its gap timer alone, and the serving direction has a candidate where the other has one (R120). At
that timer's expiry in a settled state that candidate is CALLED and its direction shows GO (R121). -/
def Obligations.ChannelEvents : Prop :=
  (∀ u : State, u.role ≠ .follow →
    let t := u.settle
    (∀ r, t.signals.call.called = some r.number → t.findRec r.number = some r → r.state = .called →
      (t.dirRec r.dir).red = .normal ∧ (t.dirRec r.dir).green = .normal ∧
      ∃ a, r.required = .angle a ∧ a ≤ t.angle ∧
        (t.role = .lead → t.link.paired = true → ∀ v, t.link.view = some v → a ≤ v.angle)) ∧
    (t.CallIsDue → ∀ d, t.signals.call.serving = some d →
      (∀ n, t.FirstCandidate n d → (t.dirRec d).gap ≠ .stopped) ∧
      ((∀ n, ¬t.IsCandidate n d) → ∀ n, ¬t.IsCandidate n d.other))) ∧
  (∀ (s : State) (r : Rec), s.role ≠ .follow → s.signals.call.called = some r.number → s.findRec r.number = some r →
    r.state = .called →
    let reaches := fun (a : Int) => a ≤ s.angle ∧
      (s.role = .lead → s.link.paired = true → ∀ v, s.link.view = some v → a ≤ v.angle)
    let keeps := (s.dirRec r.dir).red = .normal ∧ (s.dirRec r.dir).green = .normal ∧
      ∃ a, r.required = .angle a ∧ reaches a
    (keeps → s.driftStage = s) ∧
    (¬keeps → s.driftStage = { s with
      book := { s.book with
        records := s.book.records.map fun q =>
          if q.number = r.number then { q with state := .grouped, changed := true } else q },
      signals := s.callEnded r.dir })) ∧
  (∀ (s : State) (n : Nat) (d : Dir), s.Settled → s.CallIsDue → s.signals.call.serving = some d → s.FirstCandidate n d →
    ∃ t, exec (.gapTimerExpiry d) s = .next t ∧ (t.dirRec d).aspect = .go ∧
      t.signals.call = { s.signals.call with
        called := some n, callTimer := .running (s.items.channel.callTime * 1000).toNat } ∧
      ∃ r, t.findRec n = some r ∧ r.state = .called ∧ r.changed = true) ∧
  ∀ s : State,
    let w := s.wake
    let call := w.signals.call
    (∀ d : Dir, exec (.gapTimerExpiry d) s = .next (w.setDirRec d { w.dirRec d with gap := .stopped }).settle) ∧
    (s.role = .follow → ∀ d k p b on,
      exec (.signalLampProvingSpan d k p) s = .next w.settle ∧ exec (.beamEstablished b on) s = .next w.settle ∧
      exec (.beamBreak b) s = .next w.settle ∧ exec (.beamClear b) s = .next w.settle) ∧
    (s.role ≠ .follow → ∀ (d : Dir) (p : Proving),
      let r := w.dirRec d
      let judged := fun (h : Health) (on : Bool) =>
        match p with
        | .noCurrent => if on then Health.out else if h = .out then .out else .normal
        | .current => if on then (if h = .stuck then .stuck else .normal) else .stuck
        | .mixed => h
      exec (.signalLampProvingSpan d .red p) s =
        .next (w.setDirRec d { r with red := judged r.red (decide (r.aspect ≠ .go)) }).settle ∧
      exec (.signalLampProvingSpan d .amber p) s =
        .next (w.setDirRec d { r with amber := judged r.amber (decide (r.aspect = .prepare)) }).settle ∧
      exec (.signalLampProvingSpan d .green p) s =
        .next (w.setDirRec d { r with green := judged r.green (decide (r.aspect = .go)) }).settle) ∧
    (s.role ≠ .follow → ∀ (b : Beam) (on : Bool),
      let now := (match b with | .downstream => s.signals.downstream | .upstream => s.signals.upstream)
      let across := (match b with | .downstream => s.signals.upstream | .upstream => s.signals.downstream)
      let taken := fun (v : Bool) =>
        (match b with
          | .downstream => { w.signals with downstream := some v }
          | .upstream => { w.signals with upstream := some v } : Signals)
      let entry := (match b with | .downstream => Dir.inbound | .upstream => Dir.outbound)
      let calledIn : Rec → Prop := fun r =>
        call.called = some r.number ∧ w.findRec r.number = some r ∧ r.state = .called ∧ r.dir = entry
      let passes : Rec → Prop := fun r =>
        call.passing = some r.number ∧ w.findRec r.number = some r ∧ r.state = .passing
      (now = none → exec (.beamEstablished b on) s = .next ({ w with signals := taken on }).settle) ∧
      (now ≠ none → exec (.beamEstablished b on) s = .next w.settle) ∧
      (now ≠ some false → exec (.beamBreak b) s = .next w.settle) ∧
      (now ≠ some true → exec (.beamClear b) s = .next w.settle) ∧
      (now = some false →
        (∀ r, calledIn r → ∃ u : State, exec (.beamBreak b) s = .next u.settle ∧
          u = { w with book := u.book, signals := { taken true with
            call := { call with called := none, callTimer := .stopped, passing := some r.number, exitSeen := false } } } ∧
          u.kept = { w.kept with beams := u.kept.beams } ∧
          ∃ r', u.findRec r.number = some r' ∧ r'.state = .passing ∧ r'.changed = true) ∧
        (∀ r, (∀ q, ¬calledIn q) → passes r → r.dir = entry.other →
          exec (.beamBreak b) s =
            .next ({ w with signals := { taken true with call := { call with exitSeen := true } } }).settle) ∧
        ((∀ q, ¬calledIn q) → (∀ r, passes r → r.dir ≠ entry.other) → ∃ u : State,
          exec (.beamBreak b) s = .next u.settle ∧
          u = { w with signals := taken true, faults := { w.faults with recs := u.faults.recs } } ∧
          (∀ f, u.fault f = if f = .unannouncedVessel ∧ (w.fault f).mask = false then { w.fault f with latch := true }
                            else w.fault f) ∧
          ((s.fault .unannouncedVessel).mask = false → u.settle.latched .unannouncedVessel = true))) ∧
      (now = some true → (∀ r, passes r → call.exitSeen = true → across ≠ some false) →
        exec (.beamClear b) s = .next ({ w with signals := taken false }).settle))

/-! ### The span link (chapter 8) -/

/-- A STATUS frame as its partner sends it is taken in whole (R152 to R154, R157, R161, R162). It is 24 bytes: two of
preamble, 0xA7, five of header, fourteen of body, two of CRC. Where sender and receiver are the LEAD and the FOLLOW of one
bridge, the receiver, which may lose the preamble or a part of it, accepts exactly the fields of R154, each as the sender's
state gives it, as its partner view of age 0, pairs, starts its freshness timer, clears the mismatch count, and a FOLLOW starts
its reply timer. Which value the preamble begins with is free (entry 25). -/
def Obligations.FramesRoundTrip : Prop :=
  (∀ p : State, p.statusFrame.length = 24 ∧ p.statusFrame[2]? = some 0xA7 ∧
    (p.statusFrame.take 2 = [0xAA, 0xAA] ∨ p.statusFrame.take 2 = [0x55, 0x55])) ∧
  ∀ (s p : State) (still : Bool) (lost : Nat),
    s.role = .lead ∧ p.role = .follow ∨ s.role = .follow ∧ p.role = .lead → lost ≤ 2 →
    s.wake.link.buffer = .receiving → p.items.link.bridgeId = s.items.link.bridgeId →
    0 ≤ s.items.link.bridgeId → s.items.link.bridgeId ≤ 65535 → -32768 ≤ p.angle → p.angle ≤ 32767 →
    (∀ t, p.opening.target = some t → -32768 < t ∧ t ≤ 32767) → p.opening.number ≤ 65535 →
    ∃ (t : State) (v : PartnerView), exec (.receiveEnd (p.statusFrame.drop lost) still) s = .next t ∧
      v.angle = p.angle ∧ v.speed = max (-32767) (min 32767 p.speed) ∧ v.motion = p.motion.state.code ∧
      v.creep = p.motion.creep ∧ v.seat = (match p.pos.seat with | none => 0 | some true => 1 | some false => 2) ∧
      v.closure = p.apA.closure.code ∧ (v.closed = true ↔ p.apA.closure = .closed) ∧
      (v.withdrawn = true ↔
        p.locks.tail.state = .withdrawn ∧ (p.role ≠ .follow → p.locks.toe.state = .withdrawn)) ∧
      (v.holding = true ↔ p.motion.state = .holding) ∧
      (v.seated = true ↔ p.motion.state = .seatedFree ∨ p.motion.state = .seatedLocked) ∧
      (v.locked = true ↔ p.motion.state = .seatedLocked) ∧ v.phase = p.opening.phase.code ∧
      v.runDir = (match p.opening.runDir with | none => 0 | some .inbound => 1 | some .outbound => 2) ∧
      v.target = p.opening.target ∧ v.number = p.opening.number ∧ v.haltActive = p.faults.halted ∧
      (v.haltCause = true ↔
        ∃ f, f.cls = .halt ∧ f ≠ .partnerHalt ∧ (p.latched f = true ∨ (p.fault f).cond = true)) ∧
      (v.holdActive = true ↔ ∃ f, f.cls = .hold ∧ p.latched f = true) ∧
      t.kept =
        { s.kept with
            paired := true, view := some v, age := 0, mismatch := 0,
            number := if s.role = .follow then p.opening.number else s.opening.number,
            timers := (.running s.items.link.linkTimeout.toNat,
                       if s.role = .follow then .running 2 else s.link.reply, s.link.startup, s.link.period) } ∧
      (s.role = .follow → t.opening.target = p.opening.target ∧ t.opening.runDir = p.opening.runDir ∧
        t.opening.phase = p.opening.phase)

/-- The other events that reach the link in a twin role (R151 to R153, R159, R160, R162, R163): a receive starts on a quiet
line, and in a receive the line's return to frame bits is given as a start. A receive that finds no start delimiter, one
whose frame is not whole or whose CRC does not match, and a good frame of the right bridge and sender that is no STATUS frame
or has another body length, is discarded; a good frame of another bridge or sender counts as a mismatch, up to 3. Freshness
lapses, with PARTNER_STALE_MOVING where the brake was released after the start-up wait; and a halt tone is recognised once
for each tone, as PARTNER_HALT unless a fresh frame shows halt active. What the receiver hands on, and how the return to
frame bits is told, is the model's choice (entry 25). -/
def Obligations.LinkEvents : Prop :=
  ∀ s : State, s.role ≠ .sole →
    let w := s.wake
    let l := w.link
    let ends := fun (still : Bool) => if still then BufferState.receiving else .quiet
    let crcOf := fun (bs : List Byte) => bs.foldl (fun n b => n * 256 + b.setWidth 16) 0
    (l.buffer = .quiet ∨ l.buffer = .receiving → exec .receiveStart s =
      .next ({ w with link := { l with buffer := .receiving, toneHeard := false } }).settle) ∧
    (∀ bytes still, l.buffer = .receiving →
      let discarded := exec (.receiveEnd bytes still) s =
        .next ({ w with link := { l with buffer := ends still, toneHeard := false } }).settle
      (0xA7 ∉ bytes → discarded) ∧
      ∀ pre rest, bytes = pre ++ 0xA7 :: rest → 0xA7 ∉ pre →
        (rest.length < 7 ∨ 55 < rest.length → discarded) ∧
        ((∀ n, rest[4]? = some n → rest.length ≠ n.toNat + 7) → discarded) ∧
        (crc16 (rest.take (rest.length - 2)) ≠ crcOf (rest.drop (rest.length - 2)) → discarded) ∧
        ∀ kind sender i1 i0 body c1 c0, rest = [kind, sender, i1, i0, BitVec.ofNat 8 body.length] ++ body ++ [c1, c0] →
          body.length ≤ 48 → crc16 (rest.take (rest.length - 2)) = crcOf [c1, c0] →
          let ours := (i1.toNat * 256 + i0.toNat : Int) = s.items.link.bridgeId ∧
            sender.toNat = if s.role = .lead then 2 else 1
          (¬ours → exec (.receiveEnd bytes still) s = .next ({ w with link := { l with
            buffer := ends still, toneHeard := false, mismatch := min 3 (l.mismatch + 1) } }).settle) ∧
          (ours → kind ≠ 1 ∨ body.length ≠ 14 → discarded)) ∧
    (∀ ms, l.freshness = .running ms → ∃ t, exec .freshnessExpiry s = .next t ∧
      t.kept = { s.kept with paired := false,
                             timers := (.stopped, s.link.reply, s.link.startup, s.link.period) } ∧
      (w.motion.brakeRelease = true → s.link.startup = .expired → (s.fault .partnerStaleMoving).mask = false →
        t.latched .partnerStaleMoving = true ∧ t.faults.halted = true)) ∧
    (∀ ms, s.link.startup = .running ms → ∃ t, exec .startupWaitEnd s = .next t ∧
      t.kept = { s.kept with timers := (s.link.freshness, s.link.reply, .expired, s.link.period) } ∧
      (s.FaultsRight → s.link.paired = false → (s.fault .partnerStale).mask = false → t.latched .partnerStale = true)) ∧
    (l.buffer ≠ .receiving ∨ l.toneHeard = true → exec .haltToneRecognised s = .next w.settle) ∧
    (l.buffer = .receiving → l.toneHeard = false →
      ((∃ v, s.link.paired = true ∧ s.link.view = some v ∧ v.haltActive = true) →
        exec .haltToneRecognised s = .next ({ w with link := { l with toneHeard := true } }).settle) ∧
      (¬(∃ v, s.link.paired = true ∧ s.link.view = some v ∧ v.haltActive = true) →
        ∃ t, exec .haltToneRecognised s = .next t ∧ t.kept = s.kept ∧
          ((s.fault .partnerHalt).mask = false → t.latched .partnerHalt = true ∧ t.faults.halted = true)))

/-- The turns on the line (R155 to R158): a frame falls due at the LEAD's 50 ms period or at the end of a FOLLOW's reply
timer, and is loaded as the state then stands if the line is quiet, or else withdrawn; the preamble is followed by the
sending and that by quiet, or is abandoned for the partner's frame; a halt tone is repeated while the part is halted, and
ends in quiet. -/
def Obligations.LinkTurns : Prop :=
  ∀ s : State,
    let w := s.wake
    let l := w.link
    let sent := fun (k : Link) =>
      if l.buffer = .quiet then { k with buffer := .preamble, txFrame := w.statusFrame } else k
    (s.role = .lead → exec .leadPeriod s = .next ({ w with link := sent { l with period := .running 50 } }).settle) ∧
    (∀ ms, s.role = .follow → l.reply = .running ms →
      exec .replyTimerExpiry s = .next ({ w with link := sent { l with reply := .stopped } }).settle) ∧
    (l.buffer = .preamble →
      exec .preambleEnd s = .next ({ w with link := { l with buffer := .sending } }).settle ∧
      exec .preambleAbandon s =
        .next ({ w with link := { l with buffer := .receiving, txFrame := [], toneHeard := false } }).settle) ∧
    (l.buffer = .sending →
      exec .sendEnd s = .next ({ w with link := { l with buffer := .quiet, txFrame := [] } }).settle) ∧
    (∀ ms, s.role ≠ .sole → w.faults.halted = true → l.toneTimer = .running ms → exec .toneRepeat s =
      .next ({ w with link := { l with buffer := .tone, txFrame := [], toneLength := .running 20,
                                       toneTimer := .running 250, toneHeard := false } }).settle) ∧
    (l.buffer = .tone →
      exec .toneEnd s = .next ({ w with link := { l with buffer := .quiet, toneLength := .stopped } }).settle)
end

