-- ==== Sys2Proof/Laws/State.lean ====
section
/-!
SUPPORT. One lemma per field for each update of the state, true by unfolding, so that no later proof unfolds one.
-/

namespace Sys2Proof.Machine

open Sys2Proof

namespace State

@[simp] theorem modMotion_role (s : State) (f : Motion → Motion) : (s.modMotion f).role = s.role := rfl
@[simp] theorem modMotion_roleValid (s : State) (f : Motion → Motion) : (s.modMotion f).roleValid = s.roleValid := rfl
@[simp] theorem modMotion_clock (s : State) (f : Motion → Motion) : (s.modMotion f).clock = s.clock := rfl
@[simp] theorem modMotion_flashOn (s : State) (f : Motion → Motion) : (s.modMotion f).flashOn = s.flashOn := rfl
@[simp] theorem modMotion_lines (s : State) (f : Motion → Motion) : (s.modMotion f).lines = s.lines := rfl
@[simp] theorem modMotion_book (s : State) (f : Motion → Motion) : (s.modMotion f).book = s.book := rfl
@[simp] theorem modMotion_water (s : State) (f : Motion → Motion) : (s.modMotion f).water = s.water := rfl
@[simp] theorem modMotion_pos (s : State) (f : Motion → Motion) : (s.modMotion f).pos = s.pos := rfl
@[simp] theorem modMotion_motion (s : State) (f : Motion → Motion) : (s.modMotion f).motion = f s.motion := rfl
@[simp] theorem modMotion_locks (s : State) (f : Motion → Motion) : (s.modMotion f).locks = s.locks := rfl
@[simp] theorem modMotion_apA (s : State) (f : Motion → Motion) : (s.modMotion f).apA = s.apA := rfl
@[simp] theorem modMotion_apB (s : State) (f : Motion → Motion) : (s.modMotion f).apB = s.apB := rfl
@[simp] theorem modMotion_signals (s : State) (f : Motion → Motion) : (s.modMotion f).signals = s.signals := rfl
@[simp] theorem modMotion_opening (s : State) (f : Motion → Motion) : (s.modMotion f).opening = s.opening := rfl
@[simp] theorem modMotion_link (s : State) (f : Motion → Motion) : (s.modMotion f).link = s.link := rfl
@[simp] theorem modMotion_faults (s : State) (f : Motion → Motion) : (s.modMotion f).faults = s.faults := rfl
@[simp] theorem modMotion_settings (s : State) (f : Motion → Motion) : (s.modMotion f).settings = s.settings := rfl
@[simp] theorem modMotion_port (s : State) (f : Motion → Motion) : (s.modMotion f).port = s.port := rfl
@[simp] theorem modMotion_justReset (s : State) (f : Motion → Motion) : (s.modMotion f).justReset = s.justReset := rfl
@[simp] theorem modMotion_horizon (s : State) (f : Motion → Motion) : (s.modMotion f).horizon = s.horizon := rfl
@[simp] theorem modMotion_cutCount (s : State) (f : Motion → Motion) : (s.modMotion f).cutCount = s.cutCount := rfl
@[simp] theorem modMotion_pending (s : State) (f : Motion → Motion) : (s.modMotion f).pending = s.pending := rfl

@[simp] theorem modOpening_role (s : State) (f : Opening → Opening) : (s.modOpening f).role = s.role := rfl
@[simp] theorem modOpening_roleValid (s : State) (f : Opening → Opening) : (s.modOpening f).roleValid = s.roleValid :=
  rfl
@[simp] theorem modOpening_clock (s : State) (f : Opening → Opening) : (s.modOpening f).clock = s.clock := rfl
@[simp] theorem modOpening_flashOn (s : State) (f : Opening → Opening) : (s.modOpening f).flashOn = s.flashOn := rfl
@[simp] theorem modOpening_lines (s : State) (f : Opening → Opening) : (s.modOpening f).lines = s.lines := rfl
@[simp] theorem modOpening_book (s : State) (f : Opening → Opening) : (s.modOpening f).book = s.book := rfl
@[simp] theorem modOpening_water (s : State) (f : Opening → Opening) : (s.modOpening f).water = s.water := rfl
@[simp] theorem modOpening_pos (s : State) (f : Opening → Opening) : (s.modOpening f).pos = s.pos := rfl
@[simp] theorem modOpening_motion (s : State) (f : Opening → Opening) : (s.modOpening f).motion = s.motion := rfl
@[simp] theorem modOpening_locks (s : State) (f : Opening → Opening) : (s.modOpening f).locks = s.locks := rfl
@[simp] theorem modOpening_apA (s : State) (f : Opening → Opening) : (s.modOpening f).apA = s.apA := rfl
@[simp] theorem modOpening_apB (s : State) (f : Opening → Opening) : (s.modOpening f).apB = s.apB := rfl
@[simp] theorem modOpening_signals (s : State) (f : Opening → Opening) : (s.modOpening f).signals = s.signals := rfl
@[simp] theorem modOpening_opening (s : State) (f : Opening → Opening) : (s.modOpening f).opening = f s.opening := rfl
@[simp] theorem modOpening_link (s : State) (f : Opening → Opening) : (s.modOpening f).link = s.link := rfl
@[simp] theorem modOpening_faults (s : State) (f : Opening → Opening) : (s.modOpening f).faults = s.faults := rfl
@[simp] theorem modOpening_settings (s : State) (f : Opening → Opening) : (s.modOpening f).settings = s.settings :=
  rfl
@[simp] theorem modOpening_port (s : State) (f : Opening → Opening) : (s.modOpening f).port = s.port := rfl
@[simp] theorem modOpening_justReset (s : State) (f : Opening → Opening) : (s.modOpening f).justReset = s.justReset :=
  rfl
@[simp] theorem modOpening_horizon (s : State) (f : Opening → Opening) : (s.modOpening f).horizon = s.horizon := rfl
@[simp] theorem modOpening_cutCount (s : State) (f : Opening → Opening) : (s.modOpening f).cutCount = s.cutCount :=
  rfl
@[simp] theorem modOpening_pending (s : State) (f : Opening → Opening) : (s.modOpening f).pending = s.pending := rfl

@[simp] theorem modLocks_role (s : State) (f : Locks → Locks) : (s.modLocks f).role = s.role := rfl
@[simp] theorem modLocks_roleValid (s : State) (f : Locks → Locks) : (s.modLocks f).roleValid = s.roleValid := rfl
@[simp] theorem modLocks_clock (s : State) (f : Locks → Locks) : (s.modLocks f).clock = s.clock := rfl
@[simp] theorem modLocks_flashOn (s : State) (f : Locks → Locks) : (s.modLocks f).flashOn = s.flashOn := rfl
@[simp] theorem modLocks_lines (s : State) (f : Locks → Locks) : (s.modLocks f).lines = s.lines := rfl
@[simp] theorem modLocks_book (s : State) (f : Locks → Locks) : (s.modLocks f).book = s.book := rfl
@[simp] theorem modLocks_water (s : State) (f : Locks → Locks) : (s.modLocks f).water = s.water := rfl
@[simp] theorem modLocks_pos (s : State) (f : Locks → Locks) : (s.modLocks f).pos = s.pos := rfl
@[simp] theorem modLocks_motion (s : State) (f : Locks → Locks) : (s.modLocks f).motion = s.motion := rfl
@[simp] theorem modLocks_locks (s : State) (f : Locks → Locks) : (s.modLocks f).locks = f s.locks := rfl
@[simp] theorem modLocks_apA (s : State) (f : Locks → Locks) : (s.modLocks f).apA = s.apA := rfl
@[simp] theorem modLocks_apB (s : State) (f : Locks → Locks) : (s.modLocks f).apB = s.apB := rfl
@[simp] theorem modLocks_signals (s : State) (f : Locks → Locks) : (s.modLocks f).signals = s.signals := rfl
@[simp] theorem modLocks_opening (s : State) (f : Locks → Locks) : (s.modLocks f).opening = s.opening := rfl
@[simp] theorem modLocks_link (s : State) (f : Locks → Locks) : (s.modLocks f).link = s.link := rfl
@[simp] theorem modLocks_faults (s : State) (f : Locks → Locks) : (s.modLocks f).faults = s.faults := rfl
@[simp] theorem modLocks_settings (s : State) (f : Locks → Locks) : (s.modLocks f).settings = s.settings := rfl
@[simp] theorem modLocks_port (s : State) (f : Locks → Locks) : (s.modLocks f).port = s.port := rfl
@[simp] theorem modLocks_justReset (s : State) (f : Locks → Locks) : (s.modLocks f).justReset = s.justReset := rfl
@[simp] theorem modLocks_horizon (s : State) (f : Locks → Locks) : (s.modLocks f).horizon = s.horizon := rfl
@[simp] theorem modLocks_cutCount (s : State) (f : Locks → Locks) : (s.modLocks f).cutCount = s.cutCount := rfl
@[simp] theorem modLocks_pending (s : State) (f : Locks → Locks) : (s.modLocks f).pending = s.pending := rfl

@[simp] theorem modLines_role (s : State) (f : Lines → Lines) : (s.modLines f).role = s.role := rfl
@[simp] theorem modLines_roleValid (s : State) (f : Lines → Lines) : (s.modLines f).roleValid = s.roleValid := rfl
@[simp] theorem modLines_clock (s : State) (f : Lines → Lines) : (s.modLines f).clock = s.clock := rfl
@[simp] theorem modLines_flashOn (s : State) (f : Lines → Lines) : (s.modLines f).flashOn = s.flashOn := rfl
@[simp] theorem modLines_lines (s : State) (f : Lines → Lines) : (s.modLines f).lines = f s.lines := rfl
@[simp] theorem modLines_book (s : State) (f : Lines → Lines) : (s.modLines f).book = s.book := rfl
@[simp] theorem modLines_water (s : State) (f : Lines → Lines) : (s.modLines f).water = s.water := rfl
@[simp] theorem modLines_pos (s : State) (f : Lines → Lines) : (s.modLines f).pos = s.pos := rfl
@[simp] theorem modLines_motion (s : State) (f : Lines → Lines) : (s.modLines f).motion = s.motion := rfl
@[simp] theorem modLines_locks (s : State) (f : Lines → Lines) : (s.modLines f).locks = s.locks := rfl
@[simp] theorem modLines_apA (s : State) (f : Lines → Lines) : (s.modLines f).apA = s.apA := rfl
@[simp] theorem modLines_apB (s : State) (f : Lines → Lines) : (s.modLines f).apB = s.apB := rfl
@[simp] theorem modLines_signals (s : State) (f : Lines → Lines) : (s.modLines f).signals = s.signals := rfl
@[simp] theorem modLines_opening (s : State) (f : Lines → Lines) : (s.modLines f).opening = s.opening := rfl
@[simp] theorem modLines_link (s : State) (f : Lines → Lines) : (s.modLines f).link = s.link := rfl
@[simp] theorem modLines_faults (s : State) (f : Lines → Lines) : (s.modLines f).faults = s.faults := rfl
@[simp] theorem modLines_settings (s : State) (f : Lines → Lines) : (s.modLines f).settings = s.settings := rfl
@[simp] theorem modLines_port (s : State) (f : Lines → Lines) : (s.modLines f).port = s.port := rfl
@[simp] theorem modLines_justReset (s : State) (f : Lines → Lines) : (s.modLines f).justReset = s.justReset := rfl
@[simp] theorem modLines_horizon (s : State) (f : Lines → Lines) : (s.modLines f).horizon = s.horizon := rfl
@[simp] theorem modLines_cutCount (s : State) (f : Lines → Lines) : (s.modLines f).cutCount = s.cutCount := rfl
@[simp] theorem modLines_pending (s : State) (f : Lines → Lines) : (s.modLines f).pending = s.pending := rfl

@[simp] theorem modLink_role (s : State) (f : Link → Link) : (s.modLink f).role = s.role := rfl
@[simp] theorem modLink_roleValid (s : State) (f : Link → Link) : (s.modLink f).roleValid = s.roleValid := rfl
@[simp] theorem modLink_clock (s : State) (f : Link → Link) : (s.modLink f).clock = s.clock := rfl
@[simp] theorem modLink_flashOn (s : State) (f : Link → Link) : (s.modLink f).flashOn = s.flashOn := rfl
@[simp] theorem modLink_lines (s : State) (f : Link → Link) : (s.modLink f).lines = s.lines := rfl
@[simp] theorem modLink_book (s : State) (f : Link → Link) : (s.modLink f).book = s.book := rfl
@[simp] theorem modLink_water (s : State) (f : Link → Link) : (s.modLink f).water = s.water := rfl
@[simp] theorem modLink_pos (s : State) (f : Link → Link) : (s.modLink f).pos = s.pos := rfl
@[simp] theorem modLink_motion (s : State) (f : Link → Link) : (s.modLink f).motion = s.motion := rfl
@[simp] theorem modLink_locks (s : State) (f : Link → Link) : (s.modLink f).locks = s.locks := rfl
@[simp] theorem modLink_apA (s : State) (f : Link → Link) : (s.modLink f).apA = s.apA := rfl
@[simp] theorem modLink_apB (s : State) (f : Link → Link) : (s.modLink f).apB = s.apB := rfl
@[simp] theorem modLink_signals (s : State) (f : Link → Link) : (s.modLink f).signals = s.signals := rfl
@[simp] theorem modLink_opening (s : State) (f : Link → Link) : (s.modLink f).opening = s.opening := rfl
@[simp] theorem modLink_link (s : State) (f : Link → Link) : (s.modLink f).link = f s.link := rfl
@[simp] theorem modLink_faults (s : State) (f : Link → Link) : (s.modLink f).faults = s.faults := rfl
@[simp] theorem modLink_settings (s : State) (f : Link → Link) : (s.modLink f).settings = s.settings := rfl
@[simp] theorem modLink_port (s : State) (f : Link → Link) : (s.modLink f).port = s.port := rfl
@[simp] theorem modLink_justReset (s : State) (f : Link → Link) : (s.modLink f).justReset = s.justReset := rfl
@[simp] theorem modLink_horizon (s : State) (f : Link → Link) : (s.modLink f).horizon = s.horizon := rfl
@[simp] theorem modLink_cutCount (s : State) (f : Link → Link) : (s.modLink f).cutCount = s.cutCount := rfl
@[simp] theorem modLink_pending (s : State) (f : Link → Link) : (s.modLink f).pending = s.pending := rfl

@[simp] theorem modCall_role (s : State) (f : CallCtx → CallCtx) : (s.modCall f).role = s.role := rfl
@[simp] theorem modCall_roleValid (s : State) (f : CallCtx → CallCtx) : (s.modCall f).roleValid = s.roleValid := rfl
@[simp] theorem modCall_clock (s : State) (f : CallCtx → CallCtx) : (s.modCall f).clock = s.clock := rfl
@[simp] theorem modCall_flashOn (s : State) (f : CallCtx → CallCtx) : (s.modCall f).flashOn = s.flashOn := rfl
@[simp] theorem modCall_lines (s : State) (f : CallCtx → CallCtx) : (s.modCall f).lines = s.lines := rfl
@[simp] theorem modCall_book (s : State) (f : CallCtx → CallCtx) : (s.modCall f).book = s.book := rfl
@[simp] theorem modCall_water (s : State) (f : CallCtx → CallCtx) : (s.modCall f).water = s.water := rfl
@[simp] theorem modCall_pos (s : State) (f : CallCtx → CallCtx) : (s.modCall f).pos = s.pos := rfl
@[simp] theorem modCall_motion (s : State) (f : CallCtx → CallCtx) : (s.modCall f).motion = s.motion := rfl
@[simp] theorem modCall_locks (s : State) (f : CallCtx → CallCtx) : (s.modCall f).locks = s.locks := rfl
@[simp] theorem modCall_apA (s : State) (f : CallCtx → CallCtx) : (s.modCall f).apA = s.apA := rfl
@[simp] theorem modCall_apB (s : State) (f : CallCtx → CallCtx) : (s.modCall f).apB = s.apB := rfl
@[simp] theorem modCall_signals (s : State) (f : CallCtx → CallCtx) :
    (s.modCall f).signals = { s.signals with call := f s.signals.call } :=
  rfl
@[simp] theorem modCall_opening (s : State) (f : CallCtx → CallCtx) : (s.modCall f).opening = s.opening := rfl
@[simp] theorem modCall_link (s : State) (f : CallCtx → CallCtx) : (s.modCall f).link = s.link := rfl
@[simp] theorem modCall_faults (s : State) (f : CallCtx → CallCtx) : (s.modCall f).faults = s.faults := rfl
@[simp] theorem modCall_settings (s : State) (f : CallCtx → CallCtx) : (s.modCall f).settings = s.settings := rfl
@[simp] theorem modCall_port (s : State) (f : CallCtx → CallCtx) : (s.modCall f).port = s.port := rfl
@[simp] theorem modCall_justReset (s : State) (f : CallCtx → CallCtx) : (s.modCall f).justReset = s.justReset := rfl
@[simp] theorem modCall_horizon (s : State) (f : CallCtx → CallCtx) : (s.modCall f).horizon = s.horizon := rfl
@[simp] theorem modCall_cutCount (s : State) (f : CallCtx → CallCtx) : (s.modCall f).cutCount = s.cutCount := rfl
@[simp] theorem modCall_pending (s : State) (f : CallCtx → CallCtx) : (s.modCall f).pending = s.pending := rfl

@[simp] theorem modRec_role (s : State) (n : Nat) (f : Rec → Rec) : (s.modRec n f).role = s.role := rfl
@[simp] theorem modRec_roleValid (s : State) (n : Nat) (f : Rec → Rec) : (s.modRec n f).roleValid = s.roleValid := rfl
@[simp] theorem modRec_clock (s : State) (n : Nat) (f : Rec → Rec) : (s.modRec n f).clock = s.clock := rfl
@[simp] theorem modRec_flashOn (s : State) (n : Nat) (f : Rec → Rec) : (s.modRec n f).flashOn = s.flashOn := rfl
@[simp] theorem modRec_lines (s : State) (n : Nat) (f : Rec → Rec) : (s.modRec n f).lines = s.lines := rfl
@[simp] theorem modRec_book (s : State) (n : Nat) (f : Rec → Rec) :
    (s.modRec n f).book = { s.book with records := s.book.records.map fun r => if r.number == n then f r else r } :=
  rfl
@[simp] theorem modRec_water (s : State) (n : Nat) (f : Rec → Rec) : (s.modRec n f).water = s.water := rfl
@[simp] theorem modRec_pos (s : State) (n : Nat) (f : Rec → Rec) : (s.modRec n f).pos = s.pos := rfl
@[simp] theorem modRec_motion (s : State) (n : Nat) (f : Rec → Rec) : (s.modRec n f).motion = s.motion := rfl
@[simp] theorem modRec_locks (s : State) (n : Nat) (f : Rec → Rec) : (s.modRec n f).locks = s.locks := rfl
@[simp] theorem modRec_apA (s : State) (n : Nat) (f : Rec → Rec) : (s.modRec n f).apA = s.apA := rfl
@[simp] theorem modRec_apB (s : State) (n : Nat) (f : Rec → Rec) : (s.modRec n f).apB = s.apB := rfl
@[simp] theorem modRec_signals (s : State) (n : Nat) (f : Rec → Rec) : (s.modRec n f).signals = s.signals := rfl
@[simp] theorem modRec_opening (s : State) (n : Nat) (f : Rec → Rec) : (s.modRec n f).opening = s.opening := rfl
@[simp] theorem modRec_link (s : State) (n : Nat) (f : Rec → Rec) : (s.modRec n f).link = s.link := rfl
@[simp] theorem modRec_faults (s : State) (n : Nat) (f : Rec → Rec) : (s.modRec n f).faults = s.faults := rfl
@[simp] theorem modRec_settings (s : State) (n : Nat) (f : Rec → Rec) : (s.modRec n f).settings = s.settings := rfl
@[simp] theorem modRec_port (s : State) (n : Nat) (f : Rec → Rec) : (s.modRec n f).port = s.port := rfl
@[simp] theorem modRec_justReset (s : State) (n : Nat) (f : Rec → Rec) : (s.modRec n f).justReset = s.justReset := rfl
@[simp] theorem modRec_horizon (s : State) (n : Nat) (f : Rec → Rec) : (s.modRec n f).horizon = s.horizon := rfl
@[simp] theorem modRec_cutCount (s : State) (n : Nat) (f : Rec → Rec) : (s.modRec n f).cutCount = s.cutCount := rfl
@[simp] theorem modRec_pending (s : State) (n : Nat) (f : Rec → Rec) : (s.modRec n f).pending = s.pending := rfl

@[simp] theorem setFault_role (s : State) (f : FaultId) (r : FaultRec) : (s.setFault f r).role = s.role := rfl
@[simp] theorem setFault_roleValid (s : State) (f : FaultId) (r : FaultRec) :
    (s.setFault f r).roleValid = s.roleValid :=
  rfl
@[simp] theorem setFault_clock (s : State) (f : FaultId) (r : FaultRec) : (s.setFault f r).clock = s.clock := rfl
@[simp] theorem setFault_flashOn (s : State) (f : FaultId) (r : FaultRec) : (s.setFault f r).flashOn = s.flashOn :=
  rfl
@[simp] theorem setFault_lines (s : State) (f : FaultId) (r : FaultRec) : (s.setFault f r).lines = s.lines := rfl
@[simp] theorem setFault_book (s : State) (f : FaultId) (r : FaultRec) : (s.setFault f r).book = s.book := rfl
@[simp] theorem setFault_water (s : State) (f : FaultId) (r : FaultRec) : (s.setFault f r).water = s.water := rfl
@[simp] theorem setFault_pos (s : State) (f : FaultId) (r : FaultRec) : (s.setFault f r).pos = s.pos := rfl
@[simp] theorem setFault_motion (s : State) (f : FaultId) (r : FaultRec) : (s.setFault f r).motion = s.motion := rfl
@[simp] theorem setFault_locks (s : State) (f : FaultId) (r : FaultRec) : (s.setFault f r).locks = s.locks := rfl
@[simp] theorem setFault_apA (s : State) (f : FaultId) (r : FaultRec) : (s.setFault f r).apA = s.apA := rfl
@[simp] theorem setFault_apB (s : State) (f : FaultId) (r : FaultRec) : (s.setFault f r).apB = s.apB := rfl
@[simp] theorem setFault_signals (s : State) (f : FaultId) (r : FaultRec) : (s.setFault f r).signals = s.signals :=
  rfl
@[simp] theorem setFault_opening (s : State) (f : FaultId) (r : FaultRec) : (s.setFault f r).opening = s.opening :=
  rfl
@[simp] theorem setFault_link (s : State) (f : FaultId) (r : FaultRec) : (s.setFault f r).link = s.link := rfl
@[simp] theorem setFault_faults (s : State) (f : FaultId) (r : FaultRec) :
    (s.setFault f r).faults = { s.faults with recs := s.faults.recs.set f.index r } :=
  rfl
@[simp] theorem setFault_settings (s : State) (f : FaultId) (r : FaultRec) : (s.setFault f r).settings = s.settings :=
  rfl
@[simp] theorem setFault_port (s : State) (f : FaultId) (r : FaultRec) : (s.setFault f r).port = s.port := rfl
@[simp] theorem setFault_justReset (s : State) (f : FaultId) (r : FaultRec) :
    (s.setFault f r).justReset = s.justReset :=
  rfl
@[simp] theorem setFault_horizon (s : State) (f : FaultId) (r : FaultRec) : (s.setFault f r).horizon = s.horizon :=
  rfl
@[simp] theorem setFault_cutCount (s : State) (f : FaultId) (r : FaultRec) : (s.setFault f r).cutCount = s.cutCount :=
  rfl
@[simp] theorem setFault_pending (s : State) (f : FaultId) (r : FaultRec) : (s.setFault f r).pending = s.pending :=
  rfl

@[simp] theorem setHalted_role (s : State) (f : FaultId) : (s.setHalted f).role = s.role := rfl
@[simp] theorem setHalted_roleValid (s : State) (f : FaultId) : (s.setHalted f).roleValid = s.roleValid := rfl
@[simp] theorem setHalted_clock (s : State) (f : FaultId) : (s.setHalted f).clock = s.clock := rfl
@[simp] theorem setHalted_flashOn (s : State) (f : FaultId) : (s.setHalted f).flashOn = s.flashOn := rfl
@[simp] theorem setHalted_lines (s : State) (f : FaultId) : (s.setHalted f).lines = s.lines := rfl
@[simp] theorem setHalted_book (s : State) (f : FaultId) : (s.setHalted f).book = s.book := rfl
@[simp] theorem setHalted_water (s : State) (f : FaultId) : (s.setHalted f).water = s.water := rfl
@[simp] theorem setHalted_pos (s : State) (f : FaultId) : (s.setHalted f).pos = s.pos := rfl
@[simp] theorem setHalted_motion (s : State) (f : FaultId) : (s.setHalted f).motion = s.motion := rfl
@[simp] theorem setHalted_locks (s : State) (f : FaultId) : (s.setHalted f).locks = s.locks := rfl
@[simp] theorem setHalted_apA (s : State) (f : FaultId) : (s.setHalted f).apA = s.apA := rfl
@[simp] theorem setHalted_apB (s : State) (f : FaultId) : (s.setHalted f).apB = s.apB := rfl
@[simp] theorem setHalted_signals (s : State) (f : FaultId) : (s.setHalted f).signals = s.signals := rfl
@[simp] theorem setHalted_opening (s : State) (f : FaultId) : (s.setHalted f).opening = s.opening := rfl
@[simp] theorem setHalted_link (s : State) (f : FaultId) : (s.setHalted f).link = s.link := rfl
@[simp] theorem setHalted_faults (s : State) (f : FaultId) :
    (s.setHalted f).faults = { s.faults with halted := true, entryFault := some f, enteredAt := some s.clock } :=
  rfl
@[simp] theorem setHalted_settings (s : State) (f : FaultId) : (s.setHalted f).settings = s.settings := rfl
@[simp] theorem setHalted_port (s : State) (f : FaultId) : (s.setHalted f).port = s.port := rfl
@[simp] theorem setHalted_justReset (s : State) (f : FaultId) : (s.setHalted f).justReset = s.justReset := rfl
@[simp] theorem setHalted_horizon (s : State) (f : FaultId) : (s.setHalted f).horizon = s.horizon := rfl
@[simp] theorem setHalted_cutCount (s : State) (f : FaultId) : (s.setHalted f).cutCount = s.cutCount := rfl
@[simp] theorem setHalted_pending (s : State) (f : FaultId) : (s.setHalted f).pending = s.pending := rfl

@[simp] theorem setTrack_role (s : State) (ch : Channel) (t : Track) : (s.setTrack ch t).role = s.role :=
  by cases ch <;> rfl
@[simp] theorem setTrack_roleValid (s : State) (ch : Channel) (t : Track) :
    (s.setTrack ch t).roleValid = s.roleValid :=
  by cases ch <;> rfl
@[simp] theorem setTrack_clock (s : State) (ch : Channel) (t : Track) : (s.setTrack ch t).clock = s.clock :=
  by cases ch <;> rfl
@[simp] theorem setTrack_flashOn (s : State) (ch : Channel) (t : Track) : (s.setTrack ch t).flashOn = s.flashOn :=
  by cases ch <;> rfl
@[simp] theorem setTrack_lines (s : State) (ch : Channel) (t : Track) : (s.setTrack ch t).lines = s.lines :=
  by cases ch <;> rfl
@[simp] theorem setTrack_book (s : State) (ch : Channel) (t : Track) : (s.setTrack ch t).book = s.book :=
  by cases ch <;> rfl
@[simp] theorem setTrack_water (s : State) (ch : Channel) (t : Track) : (s.setTrack ch t).water = s.water :=
  by cases ch <;> rfl
@[simp] theorem setTrack_motion (s : State) (ch : Channel) (t : Track) : (s.setTrack ch t).motion = s.motion :=
  by cases ch <;> rfl
@[simp] theorem setTrack_locks (s : State) (ch : Channel) (t : Track) : (s.setTrack ch t).locks = s.locks :=
  by cases ch <;> rfl
@[simp] theorem setTrack_apA (s : State) (ch : Channel) (t : Track) : (s.setTrack ch t).apA = s.apA :=
  by cases ch <;> rfl
@[simp] theorem setTrack_apB (s : State) (ch : Channel) (t : Track) : (s.setTrack ch t).apB = s.apB :=
  by cases ch <;> rfl
@[simp] theorem setTrack_signals (s : State) (ch : Channel) (t : Track) : (s.setTrack ch t).signals = s.signals :=
  by cases ch <;> rfl
@[simp] theorem setTrack_opening (s : State) (ch : Channel) (t : Track) : (s.setTrack ch t).opening = s.opening :=
  by cases ch <;> rfl
@[simp] theorem setTrack_link (s : State) (ch : Channel) (t : Track) : (s.setTrack ch t).link = s.link :=
  by cases ch <;> rfl
@[simp] theorem setTrack_faults (s : State) (ch : Channel) (t : Track) : (s.setTrack ch t).faults = s.faults :=
  by cases ch <;> rfl
@[simp] theorem setTrack_settings (s : State) (ch : Channel) (t : Track) : (s.setTrack ch t).settings = s.settings :=
  by cases ch <;> rfl
@[simp] theorem setTrack_port (s : State) (ch : Channel) (t : Track) : (s.setTrack ch t).port = s.port :=
  by cases ch <;> rfl
@[simp] theorem setTrack_justReset (s : State) (ch : Channel) (t : Track) :
    (s.setTrack ch t).justReset = s.justReset :=
  by cases ch <;> rfl
@[simp] theorem setTrack_horizon (s : State) (ch : Channel) (t : Track) : (s.setTrack ch t).horizon = s.horizon :=
  by cases ch <;> rfl
@[simp] theorem setTrack_cutCount (s : State) (ch : Channel) (t : Track) : (s.setTrack ch t).cutCount = s.cutCount :=
  by cases ch <;> rfl
@[simp] theorem setTrack_pending (s : State) (ch : Channel) (t : Track) : (s.setTrack ch t).pending = s.pending :=
  by cases ch <;> rfl

@[simp] theorem setDirRec_role (s : State) (d : Dir) (r : DirRec) : (s.setDirRec d r).role = s.role :=
  by cases d <;> rfl
@[simp] theorem setDirRec_roleValid (s : State) (d : Dir) (r : DirRec) : (s.setDirRec d r).roleValid = s.roleValid :=
  by cases d <;> rfl
@[simp] theorem setDirRec_clock (s : State) (d : Dir) (r : DirRec) : (s.setDirRec d r).clock = s.clock :=
  by cases d <;> rfl
@[simp] theorem setDirRec_flashOn (s : State) (d : Dir) (r : DirRec) : (s.setDirRec d r).flashOn = s.flashOn :=
  by cases d <;> rfl
@[simp] theorem setDirRec_lines (s : State) (d : Dir) (r : DirRec) : (s.setDirRec d r).lines = s.lines :=
  by cases d <;> rfl
@[simp] theorem setDirRec_book (s : State) (d : Dir) (r : DirRec) : (s.setDirRec d r).book = s.book :=
  by cases d <;> rfl
@[simp] theorem setDirRec_water (s : State) (d : Dir) (r : DirRec) : (s.setDirRec d r).water = s.water :=
  by cases d <;> rfl
@[simp] theorem setDirRec_pos (s : State) (d : Dir) (r : DirRec) : (s.setDirRec d r).pos = s.pos := by cases d <;> rfl
@[simp] theorem setDirRec_motion (s : State) (d : Dir) (r : DirRec) : (s.setDirRec d r).motion = s.motion :=
  by cases d <;> rfl
@[simp] theorem setDirRec_locks (s : State) (d : Dir) (r : DirRec) : (s.setDirRec d r).locks = s.locks :=
  by cases d <;> rfl
@[simp] theorem setDirRec_apA (s : State) (d : Dir) (r : DirRec) : (s.setDirRec d r).apA = s.apA := by cases d <;> rfl
@[simp] theorem setDirRec_apB (s : State) (d : Dir) (r : DirRec) : (s.setDirRec d r).apB = s.apB := by cases d <;> rfl
@[simp] theorem setDirRec_opening (s : State) (d : Dir) (r : DirRec) : (s.setDirRec d r).opening = s.opening :=
  by cases d <;> rfl
@[simp] theorem setDirRec_link (s : State) (d : Dir) (r : DirRec) : (s.setDirRec d r).link = s.link :=
  by cases d <;> rfl
@[simp] theorem setDirRec_faults (s : State) (d : Dir) (r : DirRec) : (s.setDirRec d r).faults = s.faults :=
  by cases d <;> rfl
@[simp] theorem setDirRec_settings (s : State) (d : Dir) (r : DirRec) : (s.setDirRec d r).settings = s.settings :=
  by cases d <;> rfl
@[simp] theorem setDirRec_port (s : State) (d : Dir) (r : DirRec) : (s.setDirRec d r).port = s.port :=
  by cases d <;> rfl
@[simp] theorem setDirRec_justReset (s : State) (d : Dir) (r : DirRec) : (s.setDirRec d r).justReset = s.justReset :=
  by cases d <;> rfl
@[simp] theorem setDirRec_horizon (s : State) (d : Dir) (r : DirRec) : (s.setDirRec d r).horizon = s.horizon :=
  by cases d <;> rfl
@[simp] theorem setDirRec_cutCount (s : State) (d : Dir) (r : DirRec) : (s.setDirRec d r).cutCount = s.cutCount :=
  by cases d <;> rfl
@[simp] theorem setDirRec_pending (s : State) (d : Dir) (r : DirRec) : (s.setDirRec d r).pending = s.pending :=
  by cases d <;> rfl

@[simp] theorem setBeam_role (s : State) (b : Beam) (v : Bool) : (s.setBeam b v).role = s.role := by cases b <;> rfl
@[simp] theorem setBeam_roleValid (s : State) (b : Beam) (v : Bool) : (s.setBeam b v).roleValid = s.roleValid :=
  by cases b <;> rfl
@[simp] theorem setBeam_clock (s : State) (b : Beam) (v : Bool) : (s.setBeam b v).clock = s.clock :=
  by cases b <;> rfl
@[simp] theorem setBeam_flashOn (s : State) (b : Beam) (v : Bool) : (s.setBeam b v).flashOn = s.flashOn :=
  by cases b <;> rfl
@[simp] theorem setBeam_lines (s : State) (b : Beam) (v : Bool) : (s.setBeam b v).lines = s.lines :=
  by cases b <;> rfl
@[simp] theorem setBeam_book (s : State) (b : Beam) (v : Bool) : (s.setBeam b v).book = s.book := by cases b <;> rfl
@[simp] theorem setBeam_water (s : State) (b : Beam) (v : Bool) : (s.setBeam b v).water = s.water :=
  by cases b <;> rfl
@[simp] theorem setBeam_pos (s : State) (b : Beam) (v : Bool) : (s.setBeam b v).pos = s.pos := by cases b <;> rfl
@[simp] theorem setBeam_motion (s : State) (b : Beam) (v : Bool) : (s.setBeam b v).motion = s.motion :=
  by cases b <;> rfl
@[simp] theorem setBeam_locks (s : State) (b : Beam) (v : Bool) : (s.setBeam b v).locks = s.locks :=
  by cases b <;> rfl
@[simp] theorem setBeam_apA (s : State) (b : Beam) (v : Bool) : (s.setBeam b v).apA = s.apA := by cases b <;> rfl
@[simp] theorem setBeam_apB (s : State) (b : Beam) (v : Bool) : (s.setBeam b v).apB = s.apB := by cases b <;> rfl
@[simp] theorem setBeam_opening (s : State) (b : Beam) (v : Bool) : (s.setBeam b v).opening = s.opening :=
  by cases b <;> rfl
@[simp] theorem setBeam_link (s : State) (b : Beam) (v : Bool) : (s.setBeam b v).link = s.link := by cases b <;> rfl
@[simp] theorem setBeam_faults (s : State) (b : Beam) (v : Bool) : (s.setBeam b v).faults = s.faults :=
  by cases b <;> rfl
@[simp] theorem setBeam_settings (s : State) (b : Beam) (v : Bool) : (s.setBeam b v).settings = s.settings :=
  by cases b <;> rfl
@[simp] theorem setBeam_port (s : State) (b : Beam) (v : Bool) : (s.setBeam b v).port = s.port := by cases b <;> rfl
@[simp] theorem setBeam_justReset (s : State) (b : Beam) (v : Bool) : (s.setBeam b v).justReset = s.justReset :=
  by cases b <;> rfl
@[simp] theorem setBeam_horizon (s : State) (b : Beam) (v : Bool) : (s.setBeam b v).horizon = s.horizon :=
  by cases b <;> rfl
@[simp] theorem setBeam_cutCount (s : State) (b : Beam) (v : Bool) : (s.setBeam b v).cutCount = s.cutCount :=
  by cases b <;> rfl
@[simp] theorem setBeam_pending (s : State) (b : Beam) (v : Bool) : (s.setBeam b v).pending = s.pending :=
  by cases b <;> rfl

@[simp] theorem respond_role (s : State) (r : Result) (d : List Byte) : (s.respond r d).role = s.role := rfl
@[simp] theorem respond_roleValid (s : State) (r : Result) (d : List Byte) :
    (s.respond r d).roleValid = s.roleValid :=
  rfl
@[simp] theorem respond_clock (s : State) (r : Result) (d : List Byte) : (s.respond r d).clock = s.clock := rfl
@[simp] theorem respond_flashOn (s : State) (r : Result) (d : List Byte) : (s.respond r d).flashOn = s.flashOn := rfl
@[simp] theorem respond_lines (s : State) (r : Result) (d : List Byte) : (s.respond r d).lines = s.lines := rfl
@[simp] theorem respond_book (s : State) (r : Result) (d : List Byte) : (s.respond r d).book = s.book := rfl
@[simp] theorem respond_water (s : State) (r : Result) (d : List Byte) : (s.respond r d).water = s.water := rfl
@[simp] theorem respond_pos (s : State) (r : Result) (d : List Byte) : (s.respond r d).pos = s.pos := rfl
@[simp] theorem respond_motion (s : State) (r : Result) (d : List Byte) : (s.respond r d).motion = s.motion := rfl
@[simp] theorem respond_locks (s : State) (r : Result) (d : List Byte) : (s.respond r d).locks = s.locks := rfl
@[simp] theorem respond_apA (s : State) (r : Result) (d : List Byte) : (s.respond r d).apA = s.apA := rfl
@[simp] theorem respond_apB (s : State) (r : Result) (d : List Byte) : (s.respond r d).apB = s.apB := rfl
@[simp] theorem respond_signals (s : State) (r : Result) (d : List Byte) : (s.respond r d).signals = s.signals := rfl
@[simp] theorem respond_opening (s : State) (r : Result) (d : List Byte) : (s.respond r d).opening = s.opening := rfl
@[simp] theorem respond_link (s : State) (r : Result) (d : List Byte) : (s.respond r d).link = s.link := rfl
@[simp] theorem respond_faults (s : State) (r : Result) (d : List Byte) : (s.respond r d).faults = s.faults := rfl
@[simp] theorem respond_settings (s : State) (r : Result) (d : List Byte) : (s.respond r d).settings = s.settings :=
  rfl
@[simp] theorem respond_port (s : State) (r : Result) (d : List Byte) :
    (s.respond r d).port =
      { s.port with state := .ready, request := [], response := some { result := r, data := if r == .ok then d else [] } } :=
  rfl
@[simp] theorem respond_justReset (s : State) (r : Result) (d : List Byte) :
    (s.respond r d).justReset = s.justReset :=
  rfl
@[simp] theorem respond_horizon (s : State) (r : Result) (d : List Byte) : (s.respond r d).horizon = s.horizon := rfl
@[simp] theorem respond_cutCount (s : State) (r : Result) (d : List Byte) : (s.respond r d).cutCount = s.cutCount :=
  rfl
@[simp] theorem respond_pending (s : State) (r : Result) (d : List Byte) : (s.respond r d).pending = s.pending := rfl

@[simp] theorem clearPrepare_role (s : State) : (s.clearPrepare).role = s.role := rfl
@[simp] theorem clearPrepare_roleValid (s : State) : (s.clearPrepare).roleValid = s.roleValid := rfl
@[simp] theorem clearPrepare_clock (s : State) : (s.clearPrepare).clock = s.clock := rfl
@[simp] theorem clearPrepare_flashOn (s : State) : (s.clearPrepare).flashOn = s.flashOn := rfl
@[simp] theorem clearPrepare_lines (s : State) : (s.clearPrepare).lines = s.lines := rfl
@[simp] theorem clearPrepare_book (s : State) : (s.clearPrepare).book = s.book := rfl
@[simp] theorem clearPrepare_water (s : State) : (s.clearPrepare).water = s.water := rfl
@[simp] theorem clearPrepare_pos (s : State) : (s.clearPrepare).pos = s.pos := rfl
@[simp] theorem clearPrepare_motion (s : State) : (s.clearPrepare).motion = s.motion := rfl
@[simp] theorem clearPrepare_locks (s : State) : (s.clearPrepare).locks = s.locks := rfl
@[simp] theorem clearPrepare_apA (s : State) : (s.clearPrepare).apA = s.apA := rfl
@[simp] theorem clearPrepare_apB (s : State) : (s.clearPrepare).apB = s.apB := rfl
@[simp] theorem clearPrepare_signals (s : State) : (s.clearPrepare).signals = s.signals := rfl
@[simp] theorem clearPrepare_opening (s : State) : (s.clearPrepare).opening = s.opening := rfl
@[simp] theorem clearPrepare_link (s : State) : (s.clearPrepare).link = s.link := rfl
@[simp] theorem clearPrepare_faults (s : State) :
    (s.clearPrepare).faults = { s.faults with prepare := false, lapse := .stopped } :=
  rfl
@[simp] theorem clearPrepare_settings (s : State) : (s.clearPrepare).settings = s.settings := rfl
@[simp] theorem clearPrepare_port (s : State) : (s.clearPrepare).port = s.port := rfl
@[simp] theorem clearPrepare_justReset (s : State) : (s.clearPrepare).justReset = s.justReset := rfl
@[simp] theorem clearPrepare_horizon (s : State) : (s.clearPrepare).horizon = s.horizon := rfl
@[simp] theorem clearPrepare_cutCount (s : State) : (s.clearPrepare).cutCount = s.cutCount := rfl
@[simp] theorem clearPrepare_pending (s : State) : (s.clearPrepare).pending = s.pending := rfl

@[simp] theorem putItem_role (s : State) (i : Item) (v : SettingValue) : (s.putItem i v).role = s.role := rfl
@[simp] theorem putItem_roleValid (s : State) (i : Item) (v : SettingValue) :
    (s.putItem i v).roleValid = s.roleValid :=
  rfl
@[simp] theorem putItem_clock (s : State) (i : Item) (v : SettingValue) : (s.putItem i v).clock = s.clock := rfl
@[simp] theorem putItem_flashOn (s : State) (i : Item) (v : SettingValue) : (s.putItem i v).flashOn = s.flashOn := rfl
@[simp] theorem putItem_lines (s : State) (i : Item) (v : SettingValue) : (s.putItem i v).lines = s.lines := rfl
@[simp] theorem putItem_book (s : State) (i : Item) (v : SettingValue) : (s.putItem i v).book = s.book := rfl
@[simp] theorem putItem_water (s : State) (i : Item) (v : SettingValue) : (s.putItem i v).water = s.water := rfl
@[simp] theorem putItem_pos (s : State) (i : Item) (v : SettingValue) : (s.putItem i v).pos = s.pos := rfl
@[simp] theorem putItem_motion (s : State) (i : Item) (v : SettingValue) : (s.putItem i v).motion = s.motion := rfl
@[simp] theorem putItem_locks (s : State) (i : Item) (v : SettingValue) : (s.putItem i v).locks = s.locks := rfl
@[simp] theorem putItem_apA (s : State) (i : Item) (v : SettingValue) : (s.putItem i v).apA = s.apA := rfl
@[simp] theorem putItem_apB (s : State) (i : Item) (v : SettingValue) : (s.putItem i v).apB = s.apB := rfl
@[simp] theorem putItem_signals (s : State) (i : Item) (v : SettingValue) : (s.putItem i v).signals = s.signals := rfl
@[simp] theorem putItem_opening (s : State) (i : Item) (v : SettingValue) : (s.putItem i v).opening = s.opening := rfl
@[simp] theorem putItem_link (s : State) (i : Item) (v : SettingValue) : (s.putItem i v).link = s.link := rfl
@[simp] theorem putItem_faults (s : State) (i : Item) (v : SettingValue) : (s.putItem i v).faults = s.faults := rfl
@[simp] theorem putItem_settings (s : State) (i : Item) (v : SettingValue) :
    (s.putItem i v).settings = { s.settings with working := s.settings.working.put i v } :=
  rfl
@[simp] theorem putItem_port (s : State) (i : Item) (v : SettingValue) : (s.putItem i v).port = s.port := rfl
@[simp] theorem putItem_justReset (s : State) (i : Item) (v : SettingValue) :
    (s.putItem i v).justReset = s.justReset :=
  rfl
@[simp] theorem putItem_horizon (s : State) (i : Item) (v : SettingValue) : (s.putItem i v).horizon = s.horizon := rfl
@[simp] theorem putItem_cutCount (s : State) (i : Item) (v : SettingValue) : (s.putItem i v).cutCount = s.cutCount :=
  rfl
@[simp] theorem putItem_pending (s : State) (i : Item) (v : SettingValue) : (s.putItem i v).pending = s.pending := rfl

@[simp] theorem setAp_role (s : State) (x : Ap) (a : Approach) : (s.setAp x a).role = s.role := by cases x <;> rfl
@[simp] theorem setAp_roleValid (s : State) (x : Ap) (a : Approach) : (s.setAp x a).roleValid = s.roleValid :=
  by cases x <;> rfl
@[simp] theorem setAp_clock (s : State) (x : Ap) (a : Approach) : (s.setAp x a).clock = s.clock := by cases x <;> rfl
@[simp] theorem setAp_flashOn (s : State) (x : Ap) (a : Approach) : (s.setAp x a).flashOn = s.flashOn :=
  by cases x <;> rfl
@[simp] theorem setAp_lines (s : State) (x : Ap) (a : Approach) : (s.setAp x a).lines = s.lines := by cases x <;> rfl
@[simp] theorem setAp_book (s : State) (x : Ap) (a : Approach) : (s.setAp x a).book = s.book := by cases x <;> rfl
@[simp] theorem setAp_water (s : State) (x : Ap) (a : Approach) : (s.setAp x a).water = s.water := by cases x <;> rfl
@[simp] theorem setAp_pos (s : State) (x : Ap) (a : Approach) : (s.setAp x a).pos = s.pos := by cases x <;> rfl
@[simp] theorem setAp_motion (s : State) (x : Ap) (a : Approach) : (s.setAp x a).motion = s.motion :=
  by cases x <;> rfl
@[simp] theorem setAp_locks (s : State) (x : Ap) (a : Approach) : (s.setAp x a).locks = s.locks := by cases x <;> rfl
@[simp] theorem setAp_signals (s : State) (x : Ap) (a : Approach) : (s.setAp x a).signals = s.signals :=
  by cases x <;> rfl
@[simp] theorem setAp_opening (s : State) (x : Ap) (a : Approach) : (s.setAp x a).opening = s.opening :=
  by cases x <;> rfl
@[simp] theorem setAp_link (s : State) (x : Ap) (a : Approach) : (s.setAp x a).link = s.link := by cases x <;> rfl
@[simp] theorem setAp_faults (s : State) (x : Ap) (a : Approach) : (s.setAp x a).faults = s.faults :=
  by cases x <;> rfl
@[simp] theorem setAp_settings (s : State) (x : Ap) (a : Approach) : (s.setAp x a).settings = s.settings :=
  by cases x <;> rfl
@[simp] theorem setAp_port (s : State) (x : Ap) (a : Approach) : (s.setAp x a).port = s.port := by cases x <;> rfl
@[simp] theorem setAp_justReset (s : State) (x : Ap) (a : Approach) : (s.setAp x a).justReset = s.justReset :=
  by cases x <;> rfl
@[simp] theorem setAp_horizon (s : State) (x : Ap) (a : Approach) : (s.setAp x a).horizon = s.horizon :=
  by cases x <;> rfl
@[simp] theorem setAp_cutCount (s : State) (x : Ap) (a : Approach) : (s.setAp x a).cutCount = s.cutCount :=
  by cases x <;> rfl
@[simp] theorem setAp_pending (s : State) (x : Ap) (a : Approach) : (s.setAp x a).pending = s.pending :=
  by cases x <;> rfl

@[simp] theorem setAp_ap (s : State) (x : Ap) (a : Approach) : (s.setAp x a).ap x = a := by cases x <;> rfl

@[simp] theorem setTrack_track (s : State) (ch : Channel) (t : Track) : (s.setTrack ch t).track ch = t := by
  cases ch <;> rfl

@[simp] theorem setDirRec_dirRec (s : State) (d : Dir) (r : DirRec) : (s.setDirRec d r).dirRec d = r := by
  cases d <;> rfl

@[simp] theorem setBeam_beam (s : State) (b : Beam) (v : Bool) : (s.setBeam b v).beam b = some v := by
  cases b <;> rfl

end State

end Sys2Proof.Machine
end

