-- ==== Sys2Proof/Laws/Kept.lean ====
section
/-!
SUPPORT. The settling of an event keeps everything that `State.kept` gathers: every stage of a round does.
-/

namespace Sys2Proof.Machine

open Sys2Proof

namespace State

/-! ### Updates of one record -/

theorem modOpening_kept (s : State) (f : Opening → Opening) (h : (f s.opening).number = s.opening.number)
    (h' : (f s.opening).settle = s.opening.settle) : (s.modOpening f).kept = s.kept := by
  simp [kept, h, h']

theorem modMotion_kept (s : State) (f : Motion → Motion) (h : (f s.motion).creep = s.motion.creep)
    (h' : (f s.motion).teachCandidate = s.motion.teachCandidate)
    (h'' : (f s.motion).teachLockout = s.motion.teachLockout) : (s.modMotion f).kept = s.kept := by
  simp [kept, h, h', h'']

theorem modLocks_kept (s : State) (f : Locks → Locks) (h : (f s.locks).tail.limits = s.locks.tail.limits)
    (h' : (f s.locks).toe.limits = s.locks.toe.limits) : (s.modLocks f).kept = s.kept := by
  simp [kept, h, h']

@[simp] theorem modCall_kept (s : State) (f : CallCtx → CallCtx) : (s.modCall f).kept = s.kept := by
  simp [kept]

@[simp] theorem setGap_kept (s : State) (d : Dir) (t : Timer) : (s.setGap d t).kept = s.kept := by
  cases d <;> rfl

theorem modRec_kept (s : State) (n : Nat) (f : Rec → Rec) (h : ∀ r, (f r).key = r.key) :
    (s.modRec n f).kept = s.kept := by
  have : (s.book.records.map fun r => if r.number == n then f r else r).map Rec.key = s.book.records.map Rec.key := by
    rw [List.map_map]
    apply List.map_congr_left
    intro r _
    show (if r.number == n then f r else r).key = r.key
    split
    · exact h r
    · rfl
  simp only [kept, modRec, this]

@[simp] theorem setRecState_kept (s : State) (n : Nat) (st : RecState) : (s.setRecState n st).kept = s.kept :=
  modRec_kept s n _ fun _ => rfl

/-! ### The halt and the faults -/

theorem setFault_masks (s : State) (f : FaultId) (r : FaultRec) (h : r.mask = (s.fault f).mask) :
    (s.setFault f r).faults.recs.toList.map (·.mask) = s.faults.recs.toList.map (·.mask) := by
  apply List.ext_getElem
  · simp
  · intro i h1 h2
    simp only [setFault_faults, Vector.toList_set, List.getElem_map]
    rw [List.getElem_set]
    split
    · rename_i e
      subst e
      simp [h, fault]
    · rfl

theorem setFault_kept (s : State) (f : FaultId) (r : FaultRec) (h : r.mask = (s.fault f).mask) :
    (s.setFault f r).kept = s.kept := by
  have := setFault_masks s f r h
  simp only [setFault_faults] at this
  simp [kept, this]

@[simp] theorem setHalted_kept (s : State) (f : FaultId) : (s.setHalted f).kept = s.kept := by simp [kept]

@[simp] theorem haltMotion_kept (s : State) : s.haltMotion.kept = s.kept := rfl

@[simp] theorem haltLocks_kept (s : State) : s.haltLocks.kept = s.kept := rfl

@[simp] theorem haltOpening_kept (s : State) : s.haltOpening.kept = s.kept := by
  unfold haltOpening
  split
  · rfl
  · exact modOpening_kept _ _ rfl rfl

@[simp] theorem startTone_kept (s : State) : s.startTone.kept = s.kept := by
  unfold startTone
  split <;> rfl

@[simp] theorem callEnd_kept (s : State) (d : Dir) : (s.callEnd d).kept = s.kept := by simp [callEnd]

@[simp] theorem revoke_kept (s : State) (r : Rec) : (s.revoke r).kept = s.kept := by simp [revoke]

@[simp] theorem revokeCalled_kept (s : State) : s.revokeCalled.kept = s.kept := by
  unfold revokeCalled
  split <;> simp

@[simp] theorem enterHalt_kept (s : State) (f : FaultId) : (s.enterHalt f).kept = s.kept := by simp [enterHalt]

@[simp] theorem raise_kept (s : State) (f : FaultId) : (s.raise f).kept = s.kept := by
  unfold raise
  split
  · rfl
  · have h := setFault_kept s f { s.fault f with latch := true } rfl
    dsimp only
    split <;> simp [h]

theorem reported_mask (s : State) (f : FaultId) : (s.reported f).mask = (s.fault f).mask := rfl

theorem allFaults_index : ∀ i : Fin 29, (allFaults[i.val]'(by exact i.isLt)).index = i := by decide

theorem reportedRecs_getElem (s : State) (f : FaultId) : s.reportedRecs[f.index] = s.reported f := by
  cases f <;> rfl

theorem index_surj : ∀ i : Fin 29, ∃ f : FaultId, f.index = i := by
  intro i
  exact ⟨_, allFaults_index i⟩

theorem reportedRecs_masks (s : State) :
    s.reportedRecs.toList.map (·.mask) = s.faults.recs.toList.map (·.mask) := by
  apply List.ext_getElem
  · simp
  · intro i h1 h2
    have hi : i < 29 := by simpa using h2
    obtain ⟨f, e⟩ := index_surj ⟨i, hi⟩
    have m : (s.reportedRecs[f.index]).mask = (s.faults.recs[f.index]).mask :=
      (congrArg FaultRec.mask (reportedRecs_getElem s f)).trans (reported_mask s f)
    have e' : f.index.val = i := congrArg Fin.val e
    subst e'
    simpa using m

@[simp] theorem reportAll_kept (s : State) : s.reportAll.kept = s.kept := by
  have h : ({ s with faults := { s.faults with recs := s.reportedRecs } } : State).kept = s.kept := by
    simp only [kept, reportedRecs_masks]
  unfold reportAll
  dsimp only
  split
  · exact h
  · split <;> simp [h]

/-! ### The leaf and the sequencer -/

@[simp] theorem order_kept (s : State) (c : SeqCmd) : (s.order c).kept = s.kept := modOpening_kept _ _ rfl rfl

@[simp] theorem clearCommand_kept (s : State) : s.clearCommand.kept = s.kept := modOpening_kept _ _ rfl rfl

@[simp] theorem clearSuspension_kept (s : State) : s.clearSuspension.kept = s.kept := modOpening_kept _ _ rfl rfl

@[simp] theorem startLinger_kept (s : State) : s.startLinger.kept = s.kept := modOpening_kept _ _ rfl rfl

@[simp] theorem setPhase_kept (s : State) (p : Phase) : (s.setPhase p).kept = s.kept := by
  have h : (s.modOpening fun o => { o with phase := p, command := none }).kept = s.kept := modOpening_kept _ _ rfl rfl
  unfold setPhase
  dsimp only
  split <;> simp [h]

@[simp] theorem permitStage_kept (s : State) : s.permitStage.kept = s.kept := by
  unfold permitStage
  repeat' split
  all_goals rfl

@[simp] theorem angleStage_kept (s : State) : s.angleStage.kept = s.kept := by
  unfold angleStage
  repeat' split
  all_goals rfl

@[simp] theorem seatLockStage_kept (s : State) : s.seatLockStage.kept = s.kept := by
  unfold seatLockStage
  split
  · exact modMotion_kept _ _ rfl rfl rfl
  · rfl

theorem Lock.drive_limits (l : Lock) (t : Int) : (l.drive t).limits = l.limits := by
  unfold Lock.drive
  repeat' split
  all_goals rfl

theorem Lock.withdraw_limits (l : Lock) (t : Int) : (l.withdraw t).limits = l.limits := by
  unfold Lock.withdraw
  repeat' split
  all_goals rfl

@[simp] theorem toeStage_kept (s : State) : s.toeStage.kept = s.kept := by
  unfold toeStage
  repeat' split
  · simp
  · exact modLocks_kept _ _ rfl (Lock.drive_limits _ _)
  all_goals rfl

@[simp] theorem withdrawLocks_kept (s : State) : s.withdrawLocks.kept = s.kept := by
  apply modLocks_kept
  · exact Lock.withdraw_limits _ _
  · split
    · rfl
    · exact Lock.withdraw_limits _ _

@[simp] theorem driveLocks_kept (s : State) : s.driveLocks.kept = s.kept := by
  apply modLocks_kept
  · exact Lock.drive_limits _ _
  · dsimp only
    split
    · exact Lock.drive_limits _ _
    · rfl

/-! ### The road -/

end State

/-- Six gates changed one by one keep what each keeps. -/
theorem zip_kept (f : GateKind → Gate → Gate) (h : ∀ k g, (f k g).kept = g.kept) (k : Six GateKind) (x : Six Gate) :
    Six.zip (fun _ g => Gate.kept g) (Six.zip f k x) (Six.zip f k x) = Six.zip (fun _ g => Gate.kept g) x x := by
  simp [Six.zip, h]

theorem Gate.demandTo_kept (g : Gate) (d : Demand) : (g.demandTo d).kept = g.kept := by
  unfold Gate.demandTo
  repeat' split
  all_goals rfl

theorem Gate.pursue_kept (c : RoadCtx) (g : Gate) : (g.pursue c).kept = g.kept := by
  unfold Gate.pursue
  dsimp only
  repeat' split
  all_goals rfl

theorem Gate.maybeFlash_kept (t : Int) (c : Closure) (k : GateKind) (g : Gate) : (g.maybeFlash t c k).kept = g.kept := by
  unfold Gate.maybeFlash
  split <;> rfl

theorem Gate.endTravel_kept (x : RoadCtx) (c : Closure) (k : GateKind) (g : Gate) : (g.endTravel x c k).kept = g.kept := by
  unfold Gate.endTravel
  dsimp only
  repeat' split
  all_goals first
    | rfl
    | exact Gate.maybeFlash_kept _ _ _ _

theorem Gate.meetObstruct_kept (x : RoadCtx) (g : Gate) : (g.meetObstruct x).kept = g.kept := by
  unfold Gate.meetObstruct
  repeat' split
  all_goals rfl

theorem Gate.round_kept (x : RoadCtx) (c : Closure) (st : Option ReopenStep) (k : GateKind) (g : Gate) :
    (g.round x c st k).kept = g.kept := by
  unfold Gate.round
  split
  · rfl
  · rw [Gate.meetObstruct_kept, Gate.endTravel_kept, Gate.pursue_kept, Gate.demandTo_kept]

theorem Gate.enterClosure_kept (t : Int) (c : Closure) (k : GateKind) (g : Gate) :
    (g.enterClosure t c k).kept = g.kept := by
  unfold Gate.enterClosure
  repeat' split
  all_goals first
    | rfl
    | exact Gate.maybeFlash_kept _ _ _ _

theorem Approach.enter_kept (x : RoadCtx) (a : Approach) (c : Closure) (st : Option ReopenStep) (t : Timer) :
    (a.enter x c st t).kept = a.kept := by
  simp only [Approach.kept, Approach.enter]
  rw [zip_kept _ fun k g => Gate.enterClosure_kept _ _ _ _]

theorem Approach.closureStart_kept (x : RoadCtx) (a : Approach) : (a.closureStart x).kept = a.kept := by
  unfold Approach.closureStart
  split <;> first | rfl | exact Approach.enter_kept _ _ _ _ _

theorem Approach.closureAbort_kept (x : RoadCtx) (a : Approach) : (a.closureAbort x).kept = a.kept := by
  unfold Approach.closureAbort
  split <;> first | rfl | exact Approach.enter_kept _ _ _ _ _

theorem Approach.reopeningStart_kept (x : RoadCtx) (a : Approach) : (a.reopeningStart x).kept = a.kept := by
  unfold Approach.reopeningStart
  split <;> first | rfl | exact Approach.enter_kept _ _ _ _ _

theorem Approach.gateAdvance_kept (x : RoadCtx) (a b : Approach) (h : a.gateAdvance x = some b) : b.kept = a.kept := by
  unfold Approach.gateAdvance at h
  repeat' split at h
  all_goals first
    | cases h; exact Approach.enter_kept _ _ _ _ _
    | cases h; rfl
    | cases h

theorem Approach.advance_kept (x : RoadCtx) (a : Approach) : (a.advance x).kept = a.kept := by
  unfold Approach.advance
  split
  · rename_i b h
    split
    · rfl
    · exact Approach.gateAdvance_kept x a b h
  · rfl

theorem Approach.followZones_kept (x : RoadCtx) (a : Approach) : (a.followZones x).kept = a.kept := by
  unfold Approach.followZones
  repeat' split
  all_goals rfl

theorem Approach.gates_kept (a : Approach) (f : GateKind → Gate → Gate) (k : Six GateKind)
    (h : ∀ k g, (f k g).kept = g.kept) : ({ a with gates := Six.zip f k a.gates } : Approach).kept = a.kept := by
  simp only [Approach.kept, zip_kept f h]

theorem Approach.round_kept (x : RoadCtx) (a : Approach) : (a.round x).kept = a.kept := by
  rw [Approach.round, Approach.advance_kept, Approach.followZones_kept]
  exact Approach.gates_kept a _ _ fun k g => Gate.round_kept _ _ _ _ _

theorem Approach.setLamps_kept (x : RoadCtx) (a : Approach) : (a.setLamps x).kept = a.kept :=
  Approach.gates_kept a _ _ fun _ _ => rfl

namespace State

theorem onAp_kept (s : State) (x : Ap) (f : RoadCtx → Approach → Approach) (h : ∀ c a, (f c a).kept = a.kept) :
    (s.onAp x f).kept = s.kept := by
  cases x <;> simp [onAp, setAp, kept, h, ap]

theorem onUsedAps_kept (s : State) (f : RoadCtx → Approach → Approach) (h : ∀ c a, (f c a).kept = a.kept) :
    (s.onUsedAps f).kept = s.kept := by
  unfold onUsedAps
  dsimp only
  split
  · rw [onAp_kept _ _ _ h, onAp_kept _ _ _ h]
  · rw [onAp_kept _ _ _ h]

@[simp] theorem roadStage_kept (s : State) : s.roadStage.kept = s.kept :=
  onUsedAps_kept _ _ fun _ _ => Approach.round_kept _ _

@[simp] theorem lampStage_kept (s : State) : s.lampStage.kept = s.kept :=
  onUsedAps_kept _ _ fun _ _ => Approach.setLamps_kept _ _

@[simp] theorem renewGreens_kept (s : State) : s.renewGreens.kept = s.kept := by
  simp only [renewGreens, kept]
  congr 1
  simp only [Prod.mk.injEq]
  refine ⟨?_, ?_, ?_, ?_⟩ <;> (split <;> rfl)

@[simp] theorem roadStep_kept (s : State) : s.roadStep.kept = s.kept := by
  unfold roadStep
  split
  · rw [renewGreens_kept, onUsedAps_kept _ _ fun _ _ => Approach.closureStart_kept _ _]
  · rw [onUsedAps_kept]
    intro c a
    rw [Approach.reopeningStart_kept, Approach.closureAbort_kept]
  · rfl

/-! ### Commands and phases -/

@[simp] theorem giveStep_kept (s : State) : s.giveStep.kept = s.kept := by
  unfold giveStep
  dsimp only
  repeat' split
  all_goals simp [modOpening_kept]

@[simp] theorem enterPhase_kept (s : State) (p : Phase) : (s.enterPhase p).kept = s.kept := by simp [enterPhase]

@[simp] theorem restoreCredit_kept (s : State) : s.restoreCredit.kept = s.kept := modOpening_kept _ _ rfl rfl

@[simp] theorem intervalElapses_kept (s : State) : s.intervalElapses.kept = s.kept := by
  simp [intervalElapses, modOpening_kept]

@[simp] theorem startInterval_kept (s : State) : s.startInterval.kept = s.kept := by
  unfold startInterval
  split <;> simp [modOpening_kept]

@[simp] theorem toIdle_kept (s : State) : s.toIdle.kept = s.kept := by
  simp [toIdle, modOpening_kept]

@[simp] theorem startTest_kept (s : State) : s.startTest.kept = s.kept := by
  unfold startTest
  repeat' split
  all_goals simp [modOpening_kept]

@[simp] theorem advancePhase_kept (s : State) : s.advancePhase.kept = s.kept := by
  unfold advancePhase
  repeat' split
  all_goals simp

@[simp] theorem endSuspension_kept (s : State) : s.endSuspension.kept = s.kept := by
  unfold endSuspension
  dsimp only
  repeat' split
  all_goals simp

theorem startDown_opening_kept (s : State) : (s.startDown .opening).kept = s.kept := by
  unfold startDown endAtSeat
  dsimp only
  split <;> rfl

theorem giveCommand_kept (s t : State) (c : SeqCmd) (h : s.giveCommand c = some t) : t.kept = s.kept := by
  cases c <;> simp only [giveCommand] at h <;> (try split at h) <;> simp at h <;> subst h <;>
    simp [modMotion_kept, startDown_opening_kept]

@[simp] theorem tryCommand_kept (s : State) : s.tryCommand.kept = s.kept := by
  unfold tryCommand
  repeat' split
  all_goals first
    | rfl
    | (rename_i h; rw [clearCommand_kept]; exact giveCommand_kept _ _ _ h)

/-! ### Calls and outputs -/

@[simp] theorem driftStage_kept (s : State) : s.driftStage.kept = s.kept := by
  unfold driftStage
  repeat' split
  all_goals simp

@[simp] theorem callIfReady_kept (s : State) (d : Dir) (n : Nat) : (s.callIfReady d n).kept = s.kept := by
  unfold callIfReady call
  split <;> simp

@[simp] theorem serve_kept (s : State) (d : Dir) : (s.serve d).kept = s.kept := rfl

@[simp] theorem callStage_kept (s : State) : s.callStage.kept = s.kept := by
  unfold callStage
  dsimp only
  repeat' split
  all_goals simp

@[simp] theorem channelStage_kept (s : State) : s.channelStage.kept = s.kept := by
  unfold channelStage
  split <;> simp

@[simp] theorem aspectStage_kept (s : State) : s.aspectStage.kept = s.kept := rfl

@[simp] theorem outputStage_kept (s : State) : s.outputStage.kept = s.kept := rfl

/-! ### The settling -/

@[simp] theorem react_kept (s : State) : s.react.kept = s.kept := by simp [react]

@[simp] theorem outputs_kept (s : State) : s.outputs.kept = s.kept := by simp [outputs]

@[simp] theorem round_kept (s : State) : s.round.kept = s.kept := by simp [round]

@[simp] theorem rounds_kept (n : Nat) (s : State) : (rounds n s).kept = s.kept := by
  induction n generalizing s with
  | zero => rfl
  | succ n ih => simp [rounds, ih]

/-- The settling keeps everything gathered in `kept`. -/
@[simp] theorem settle_kept (s : State) : s.settle.kept = s.kept := rounds_kept 8 s

/-- The first event's own reports keep it too. -/
@[simp] theorem wake_kept (s : State) : s.wake.kept = s.kept := by
  unfold wake
  split
  · rw [settle_kept]; rfl
  · rfl

end State

end Sys2Proof.Machine
end

