-- ==== Sys2Proof/Laws/Ops.lean ====
section
/-!
SUPPORT. What each shared operation can do, said once: the fields it may write (its frame, as one equation) and the facts
about what it writes that later proofs cite in place of unfolding it.
-/

namespace Sys2Proof.Machine

open Sys2Proof

namespace State

/-! ### The book and the group list -/

theorem recomputeTarget_frame (s : State) :
    s.recomputeTarget = { s with opening := { s.opening with target := s.recomputeTarget.opening.target } } := by
  unfold recomputeTarget
  split <;> rfl

theorem leaveGroup_frame (s : State) (n : Nat) : s.leaveGroup n = { s with opening := (s.leaveGroup n).opening } := by
  unfold leaveGroup
  split
  · dsimp only
    rw [recomputeTarget_frame]
    split
    · split <;> rfl
    · rfl
  · rfl

/-- Off the list, or never on it (R129). -/
theorem leaveGroup_group (s : State) (n : Nat) : (s.leaveGroup n).opening.group = s.opening.group.filter (· != n) := by
  unfold leaveGroup
  split
  · dsimp only
    rw [recomputeTarget_frame]
    split
    · split <;> rfl
    · rfl
  · rename_i h
    simp only [List.contains_iff_mem] at h
    refine (List.filter_eq_self.mpr fun m hm => ?_).symm
    have : m ≠ n := fun e => h (e ▸ hm)
    simpa using this

theorem callEnd_frame (s : State) (d : Dir) : s.callEnd d = { s with signals := (s.callEnd d).signals } := by
  cases d <;> rfl

/-- A call end leaves the context empty but for the serving direction and the last end (R119). -/
theorem callEnd_call (s : State) (d : Dir) : (s.callEnd d).signals.call =
    { serving := s.signals.call.serving, called := none, callTimer := .stopped, passing := none, exitSeen := false,
      lastEnd := some d } := by
  cases d <;> rfl

theorem revoke_frame (s : State) (r : Rec) :
    s.revoke r = { s with book := (s.revoke r).book, signals := (s.revoke r).signals } := by
  unfold revoke
  rw [callEnd_frame]
  rfl

theorem revokeCalled_frame (s : State) :
    s.revokeCalled = { s with book := s.revokeCalled.book, signals := s.revokeCalled.signals } := by
  unfold revokeCalled
  split
  · exact revoke_frame s _
  · rfl

theorem returnToBooked_frame (s : State) (n : Nat) : s.returnToBooked n =
    { s with book := (s.returnToBooked n).book, opening := (s.returnToBooked n).opening,
             signals := (s.returnToBooked n).signals } := by
  unfold returnToBooked
  split
  · split
    · rw [leaveGroup_frame]; rfl
    · rw [leaveGroup_frame, revoke_frame]; rfl
    · rfl
  · rfl

/-- A fold of operations that write some fields writes no other: the shape that the frames of folds share. -/
theorem foldl_frame {α : Type} (f : State → α → State) (p : State → State → Prop) (refl : ∀ s, p s s)
    (trans : ∀ s t u, p s t → p t u → p s u) (one : ∀ s a, p s (f s a)) (l : List α) (s : State) : p s (l.foldl f s) := by
  induction l generalizing s with
  | nil => exact refl s
  | cons a l ih => exact trans _ _ _ (one s a) (ih _)

theorem returnAll_frame (s : State) : s.returnAll =
    { s with book := s.returnAll.book, opening := s.returnAll.opening, signals := s.returnAll.signals } := by
  refine foldl_frame returnToBooked
    (fun s t => t = { s with book := t.book, opening := t.opening, signals := t.signals }) (fun _ => rfl) ?_
    (fun s n => returnToBooked_frame s n) s.opening.group s
  intro s t u h h'
  rw [h', h]

theorem groupThem_frame (s : State) (ns : List Nat) : s.groupThem ns =
    { s with book := (s.groupThem ns).book, opening := { s.opening with group := s.opening.group ++ ns } } := by
  have h : ∀ (ns : List Nat) (t : State), ns.foldl (fun t n => t.setRecState n .grouped) t =
      { t with book := (ns.foldl (fun t n => t.setRecState n .grouped) t).book } := by
    intro ns
    induction ns with
    | nil => intro t; rfl
    | cons n ns ih => intro t; rw [List.foldl_cons, ih]; rfl
  unfold groupThem
  rw [h]
  rfl

/-- Two states that differ in the book and the opening record at most. -/
def SameButBook (s t : State) : Prop := t = { s with book := t.book, opening := t.opening }

theorem SameButBook.refl (s : State) : s.SameButBook s := rfl

theorem SameButBook.trans {s t u : State} (h : s.SameButBook t) (h' : t.SameButBook u) : s.SameButBook u := by
  unfold SameButBook at *
  rw [h', h]

theorem SameButBook.modOpening (s : State) (f : Opening → Opening) : s.SameButBook (s.modOpening f) := rfl

theorem SameButBook.leaveGroup (s : State) (n : Nat) : s.SameButBook (s.leaveGroup n) := by
  unfold SameButBook
  rw [leaveGroup_frame]

theorem SameButBook.groupThem (s : State) (ns : List Nat) : s.SameButBook (s.groupThem ns) := by
  unfold SameButBook
  rw [groupThem_frame]

theorem SameButBook.recomputeTarget (s : State) : s.SameButBook s.recomputeTarget := by
  unfold SameButBook
  rw [recomputeTarget_frame]

theorem SameButBook.join (s : State) (ns : List Nat) : s.SameButBook (s.groupThem ns).recomputeTarget :=
  (SameButBook.groupThem s ns).trans (SameButBook.recomputeTarget _)

theorem examineJoins_frame (s : State) : s.SameButBook s.examineJoins := by
  unfold examineJoins
  split
  · generalize s.taken (if s.opening.frozen = true then s.opening.target else none) = ns
    have h := SameButBook.join s ns
    dsimp only
    split
    · exact .refl s
    · exact h.trans (.modOpening _ _)
  · exact .refl s

/-- Both channels failed leave no reference and no first mark; else nothing changes (R54). -/
theorem losePosition_eq (s : State) : s.losePosition =
    if s.pos.p.failed = true ∧ s.pos.c.failed = true then
      { s with pos := { s.pos with p := s.pos.p.unref, c := s.pos.c.unref } }
    else s := by
  unfold losePosition
  simp only [Bool.and_eq_true]

theorem closeRec_frame (s : State) (n : Nat) (st : RecState) : s.SameButBook (s.closeRec n st) := by
  unfold closeRec
  have h : s.SameButBook (s.modRec n fun r => { r with state := st, closedAt := some s.clock, changed := true }) := rfl
  generalize (s.modRec n fun r => { r with state := st, closedAt := some s.clock, changed := true }) = t at h
  have h' := h.trans (SameButBook.leaveGroup t n)
  dsimp only
  generalize t.leaveGroup n = u at h'
  exact (h'.trans (show u.SameButBook (u.freeFollowers n) from rfl)).trans (examineJoins_frame _)

/-! ### Span halt and fault latches -/

/-- The entry to span halt touches the leaf, the locks, the call, the opening, the line and the fault unit, and none of the
records of the faults (R173). -/
theorem enterHalt_frame (s : State) (f : FaultId) : s.enterHalt f =
    { s with motion := s.haltMotion.motion, locks := s.haltLocks.locks, book := (s.enterHalt f).book,
             signals := (s.enterHalt f).signals, opening := (s.enterHalt f).opening, link := (s.enterHalt f).link,
             faults := { s.faults with halted := true, entryFault := some f, enteredAt := some s.clock } } := by
  unfold enterHalt startTone
  split
  · unfold haltOpening
    split
    · rw [revokeCalled_frame]; rfl
    · rw [revokeCalled_frame]; rfl
  · unfold haltOpening
    split
    · rw [revokeCalled_frame]; rfl
    · rw [revokeCalled_frame]; rfl

theorem enterHalt_halted (s : State) (f : FaultId) : (s.enterHalt f).faults.halted = true := by
  rw [enterHalt_frame]

theorem enterHalt_recs (s : State) (f : FaultId) : (s.enterHalt f).faults.recs = s.faults.recs := by
  rw [enterHalt_frame]

/-- In span halt the leaf stands with its outputs quiet (R82). -/
theorem enterHalt_motion (s : State) (f : FaultId) : (s.enterHalt f).motion.state = .halted ∧
    (s.enterHalt f).motion.permit = false ∧ (s.enterHalt f).motion.brakeRelease = false ∧
    (s.enterHalt f).motion.speedClass = .zero := by
  rw [enterHalt_frame]
  exact ⟨rfl, rfl, rfl, rfl⟩

theorem setFault_fault (s : State) (f g : FaultId) (r : FaultRec) :
    (s.setFault f r).fault g = if f.index = g.index then r else s.fault g := by
  unfold fault setFault
  simp only [Fin.getElem_fin]
  rw [Vector.getElem_set]
  split
  · rename_i h
    rw [if_pos (Fin.ext h)]
  · rename_i h
    rw [if_neg fun e => h (congrArg Fin.val e)]

/-- A masked condition does nothing (R171). -/
theorem raise_masked (s : State) (f : FaultId) (h : (s.fault f).mask = true) : s.raise f = s := by
  simp [raise, h]

/-- A condition that is not masked sets its latch (R168). -/
theorem raise_latched (s : State) (f : FaultId) (h : (s.fault f).mask = false) : (s.raise f).latched f = true := by
  unfold raise
  rw [if_neg (by simp [h])]
  dsimp only
  split
  · unfold latched fault
    rw [enterHalt_recs]
    exact congrArg FaultRec.latch ((setFault_fault s f f _).trans (if_pos rfl))
  · exact congrArg FaultRec.latch ((setFault_fault s f f _).trans (if_pos rfl))

/-- A HALT-class condition that is not masked leaves the part in span halt (R173). -/
theorem raise_halts (s : State) (f : FaultId) (h : (s.fault f).mask = false) (c : f.cls = .halt) :
    (s.raise f).faults.halted = true := by
  unfold raise
  rw [if_neg (by simp [h])]
  dsimp only
  split
  · exact enterHalt_halted _ _
  · rename_i n
    simpa [c] using n

/-- Raising a fault changes no other fault's record (R168). -/
theorem raise_other (s : State) (f g : FaultId) (h : f.index ≠ g.index) : (s.raise f).fault g = s.fault g := by
  unfold raise
  split
  · rfl
  · dsimp only
    split
    · unfold fault
      rw [enterHalt_recs]
      exact (setFault_fault s f g _).trans (if_neg h)
    · exact (setFault_fault s f g _).trans (if_neg h)

/-- Outside the HALT class a raise writes the one fault record (R168). -/
theorem raise_frame (s : State) (f : FaultId) (c : f.cls ≠ .halt) :
    s.raise f = { s with faults := { s.faults with recs := (s.raise f).faults.recs } } := by
  unfold raise
  split
  · rfl
  · dsimp only
    rw [if_neg (by simp [c])]
    rfl

/-- Every record after a report is the reported one (R168). -/
theorem reportAll_fault (s : State) (f : FaultId) : s.reportAll.fault f = s.reported f := by
  unfold reportAll
  dsimp only
  split
  · exact reportedRecs_getElem s f
  · split
    · unfold fault
      rw [enterHalt_recs]
      exact reportedRecs_getElem s f
    · exact reportedRecs_getElem s f

/-! ### The position unit -/

theorem fixSource_frame (s : State) :
    s.fixSource = { s with pos := { s.pos with source := s.fixSource.pos.source } } := by
  unfold fixSource
  split <;> rfl

/-- Counters within tolerance, or a channel without position: the comparison does nothing (R52). -/
theorem compareTracks_agree (s : State)
    (h : ¬(s.pos.p.holds = true ∧ s.pos.c.holds = true ∧
      s.trackTol < ((s.pos.p.counter - s.pos.c.counter).natAbs : Int))) : s.compareTracks = s := by
  unfold compareTracks
  rw [if_neg]
  simpa [and_assoc] using h

/-- Counters out of tolerance: both channels lose their references, and TRACK_DISAGREE is raised (R52). -/
theorem compareTracks_differ (s : State) (p : s.pos.p.holds = true) (c : s.pos.c.holds = true)
    (h : s.trackTol < ((s.pos.p.counter - s.pos.c.counter).natAbs : Int)) : s.compareTracks =
      ({ s with pos := { s.pos with p := s.pos.p.unref, c := s.pos.c.unref } }).raise .trackDisagree := by
  unfold compareTracks
  rw [if_pos]
  simp only [p, c, Bool.and_self, Bool.true_and, decide_eq_true_eq]
  exact h

/-- With no SEAT_COUNT there is nothing to preset at (R50). -/
theorem presetWhere_blank (s : State) (f : Track → Bool) (h : s.items.geometry.seatCount = none) :
    s.presetWhere f = s := by
  simp [presetWhere, h]

/-! ### Settling and answers -/

theorem answer_refuse (s : State) (r : Result) : s.answer (.refuse r) = s.respond r [] := rfl

theorem answer_accept (s t : State) (d : State → List Byte) :
    s.answer (.accept t d) = t.settle.respond .ok (d t.settle) := rfl

theorem wake_of_not_justReset (s : State) (h : s.justReset = false) : s.wake = s := by
  simp [wake, h]

/-- What every round ends with stands after the settling: the drive outputs, the lamps and the aspects are formed last. -/
theorem settle_round (s : State) : s.settle = (rounds 7 s).round := by
  have h : ∀ (n : Nat) (t : State), rounds (n + 1) t = (rounds n t).round := by
    intro n
    induction n with
    | zero => intro t; rfl
    | succ n ih => intro t; exact ih t.round
  exact h 7 s

end State

end Sys2Proof.Machine
end

