-- ==== Sys2Proof/Laws/Awake.lean ====
section
/-!
SUPPORT. The first event after reset happens once: no stage of a round marks the state as just reset again, so a state that
has woken is awake.
-/

namespace Sys2Proof.Machine

open Sys2Proof

namespace State

@[simp] theorem setGap_justReset (s : State) (d : Dir) (t : Timer) : (s.setGap d t).justReset = s.justReset := by
  cases d <;> rfl

@[simp] theorem setRecState_justReset (s : State) (n : Nat) (st : RecState) : (s.setRecState n st).justReset = s.justReset := rfl

@[simp] theorem callEnd_justReset (s : State) (d : Dir) : (s.callEnd d).justReset = s.justReset := by simp [callEnd]

@[simp] theorem revoke_justReset (s : State) (r : Rec) : (s.revoke r).justReset = s.justReset := by simp [revoke]

@[simp] theorem revokeCalled_justReset (s : State) : s.revokeCalled.justReset = s.justReset := by
  unfold revokeCalled
  repeat' split
  all_goals simp

@[simp] theorem haltMotion_justReset (s : State) : s.haltMotion.justReset = s.justReset := rfl

@[simp] theorem haltLocks_justReset (s : State) : s.haltLocks.justReset = s.justReset := rfl

@[simp] theorem haltOpening_justReset (s : State) : s.haltOpening.justReset = s.justReset := by
  unfold haltOpening
  repeat' split
  all_goals simp

@[simp] theorem startTone_justReset (s : State) : s.startTone.justReset = s.justReset := by
  unfold startTone
  repeat' split
  all_goals simp

@[simp] theorem enterHalt_justReset (s : State) (f : FaultId) : (s.enterHalt f).justReset = s.justReset := by simp [enterHalt]

@[simp] theorem reportAll_justReset (s : State) : s.reportAll.justReset = s.justReset := by
  unfold reportAll
  dsimp only
  repeat' split
  all_goals simp

@[simp] theorem order_justReset (s : State) (c : SeqCmd) : (s.order c).justReset = s.justReset := rfl

@[simp] theorem clearCommand_justReset (s : State) : s.clearCommand.justReset = s.justReset := rfl

@[simp] theorem clearSuspension_justReset (s : State) : s.clearSuspension.justReset = s.justReset := rfl

@[simp] theorem startLinger_justReset (s : State) : s.startLinger.justReset = s.justReset := rfl

@[simp] theorem setPhase_justReset (s : State) (p : Phase) : (s.setPhase p).justReset = s.justReset := by
  unfold setPhase
  dsimp only
  repeat' split
  all_goals simp

@[simp] theorem permitStage_justReset (s : State) : s.permitStage.justReset = s.justReset := by
  unfold permitStage
  dsimp only
  repeat' split
  all_goals simp

@[simp] theorem angleStage_justReset (s : State) : s.angleStage.justReset = s.justReset := by
  unfold angleStage
  repeat' split
  all_goals simp

@[simp] theorem seatLockStage_justReset (s : State) : s.seatLockStage.justReset = s.justReset := by
  unfold seatLockStage
  repeat' split
  all_goals simp

@[simp] theorem withdrawLocks_justReset (s : State) : s.withdrawLocks.justReset = s.justReset := rfl

@[simp] theorem driveLocks_justReset (s : State) : s.driveLocks.justReset = s.justReset := rfl

@[simp] theorem toeStage_justReset (s : State) : s.toeStage.justReset = s.justReset := by
  unfold toeStage
  repeat' split
  all_goals simp

@[simp] theorem onAp_justReset (s : State) (x : Ap) (f : RoadCtx → Approach → Approach) :
    (s.onAp x f).justReset = s.justReset := by
  simp [onAp]

@[simp] theorem onUsedAps_justReset (s : State) (f : RoadCtx → Approach → Approach) :
    (s.onUsedAps f).justReset = s.justReset := by
  unfold onUsedAps
  dsimp only
  split <;> simp

@[simp] theorem roadStage_justReset (s : State) : s.roadStage.justReset = s.justReset := by simp [roadStage]

@[simp] theorem lampStage_justReset (s : State) : s.lampStage.justReset = s.justReset := by simp [lampStage]

@[simp] theorem renewGreens_justReset (s : State) : s.renewGreens.justReset = s.justReset := rfl

@[simp] theorem roadStep_justReset (s : State) : s.roadStep.justReset = s.justReset := by
  unfold roadStep
  repeat' split
  all_goals simp

@[simp] theorem giveStep_justReset (s : State) : s.giveStep.justReset = s.justReset := by
  unfold giveStep
  dsimp only
  repeat' split
  all_goals simp

@[simp] theorem enterPhase_justReset (s : State) (p : Phase) : (s.enterPhase p).justReset = s.justReset := by
  simp [enterPhase]

@[simp] theorem restoreCredit_justReset (s : State) : s.restoreCredit.justReset = s.justReset := rfl

@[simp] theorem intervalElapses_justReset (s : State) : s.intervalElapses.justReset = s.justReset := by
  simp [intervalElapses]

@[simp] theorem startInterval_justReset (s : State) : s.startInterval.justReset = s.justReset := by
  unfold startInterval
  repeat' split
  all_goals simp

@[simp] theorem toIdle_justReset (s : State) : s.toIdle.justReset = s.justReset := by simp [toIdle]

@[simp] theorem startTest_justReset (s : State) : s.startTest.justReset = s.justReset := by
  unfold startTest
  repeat' split
  all_goals simp

@[simp] theorem advancePhase_justReset (s : State) : s.advancePhase.justReset = s.justReset := by
  unfold advancePhase
  repeat' split
  all_goals simp

@[simp] theorem endSuspension_justReset (s : State) : s.endSuspension.justReset = s.justReset := by
  unfold endSuspension
  dsimp only
  repeat' split
  all_goals simp

theorem startDown_opening_justReset (s : State) : (s.startDown .opening).justReset = s.justReset := by
  unfold startDown endAtSeat
  dsimp only
  split <;> rfl

theorem giveCommand_justReset (s t : State) (c : SeqCmd) (h : s.giveCommand c = some t) : t.justReset = s.justReset := by
  cases c <;> simp only [giveCommand] at h <;> (try split at h) <;> simp at h <;> subst h <;>
    simp [startDown_opening_justReset]

@[simp] theorem tryCommand_justReset (s : State) : s.tryCommand.justReset = s.justReset := by
  unfold tryCommand
  repeat' split
  all_goals first
    | rfl
    | (rename_i h; rw [clearCommand_justReset]; exact giveCommand_justReset _ _ _ h)

@[simp] theorem driftStage_justReset (s : State) : s.driftStage.justReset = s.justReset := by
  unfold driftStage
  repeat' split
  all_goals simp

@[simp] theorem callIfReady_justReset (s : State) (d : Dir) (n : Nat) : (s.callIfReady d n).justReset = s.justReset := by
  unfold callIfReady call
  split <;> simp

@[simp] theorem serve_justReset (s : State) (d : Dir) : (s.serve d).justReset = s.justReset := rfl

@[simp] theorem callStage_justReset (s : State) : s.callStage.justReset = s.justReset := by
  unfold callStage
  dsimp only
  repeat' split
  all_goals simp

@[simp] theorem channelStage_justReset (s : State) : s.channelStage.justReset = s.justReset := by
  unfold channelStage
  repeat' split
  all_goals simp

@[simp] theorem aspectStage_justReset (s : State) : s.aspectStage.justReset = s.justReset := rfl

@[simp] theorem outputStage_justReset (s : State) : s.outputStage.justReset = s.justReset := rfl

@[simp] theorem react_justReset (s : State) : s.react.justReset = s.justReset := by simp [react]

@[simp] theorem outputs_justReset (s : State) : s.outputs.justReset = s.justReset := by simp [outputs]

@[simp] theorem round_justReset (s : State) : s.round.justReset = s.justReset := by simp [round]

@[simp] theorem rounds_justReset (n : Nat) (s : State) : (rounds n s).justReset = s.justReset := by
  induction n generalizing s with
  | zero => rfl
  | succ n ih => simp [rounds, ih]

@[simp] theorem settle_justReset (s : State) : s.settle.justReset = s.justReset := rounds_justReset 8 s

/-- A state that has woken is awake. -/
@[simp] theorem wake_justReset (s : State) : s.wake.justReset = false := by
  unfold wake
  split
  · simp
  · rename_i h
    simpa using h

/-- A state that has woken wakes no more. -/
theorem wake_wake (s : State) : s.wake.wake = s.wake := wake_of_not_justReset _ (wake_justReset s)

end State

end Sys2Proof.Machine
end

