-- ==== Sys2Proof/Laws/Exec.lean ====
section
/-!
SUPPORT. What running a command can be: a settled event, an answered request or an answered read; and what each leaves
alone.
-/

namespace Sys2Proof.Machine

open Sys2Proof

namespace State

/-! ### One fact kept at a time -/

theorem kept_role (s : State) : s.kept.role = s.role := rfl
theorem kept_roleValid (s : State) : s.kept.roleValid = s.roleValid := rfl
theorem kept_clock (s : State) : s.kept.clock = s.clock := rfl
theorem kept_flashOn (s : State) : s.kept.flashOn = s.flashOn := rfl
theorem kept_lines (s : State) : s.kept.lines = s.lines := rfl
theorem kept_counter (s : State) : s.kept.counter = s.book.counter := rfl
theorem kept_water (s : State) : s.kept.water = s.water := rfl
theorem kept_pos (s : State) : s.kept.pos = s.pos := rfl
theorem kept_creep (s : State) : s.kept.creep = s.motion.creep := rfl
theorem kept_candidate (s : State) : s.kept.candidate = s.motion.teachCandidate := rfl
theorem kept_lockout (s : State) : s.kept.lockout = s.motion.teachLockout := rfl
theorem kept_tailLimits (s : State) : s.kept.tailLimits = s.locks.tail.limits := rfl
theorem kept_toeLimits (s : State) : s.kept.toeLimits = s.locks.toe.limits := rfl
theorem kept_apA (s : State) : s.kept.apA = s.apA.kept := rfl
theorem kept_apB (s : State) : s.kept.apB = s.apB.kept := rfl
theorem kept_number (s : State) : s.kept.number = s.opening.number := rfl
theorem kept_settle (s : State) : s.kept.settle = s.opening.settle := rfl
theorem kept_paired (s : State) : s.kept.paired = s.link.paired := rfl
theorem kept_view (s : State) : s.kept.view = s.link.view := rfl
theorem kept_age (s : State) : s.kept.age = s.link.age := rfl
theorem kept_mismatch (s : State) : s.kept.mismatch = s.link.mismatch := rfl
theorem kept_prepare (s : State) : s.kept.prepare = s.faults.prepare := rfl
theorem kept_lapse (s : State) : s.kept.lapse = s.faults.lapse := rfl
theorem kept_settings (s : State) : s.kept.settings = s.settings := rfl
theorem kept_port (s : State) : s.kept.port = s.port := rfl
theorem kept_horizon (s : State) : s.kept.horizon = s.horizon := rfl
theorem kept_cutCount (s : State) : s.kept.cutCount = s.cutCount := rfl
theorem kept_pending (s : State) : s.kept.pending = s.pending := rfl
theorem kept_keys (s : State) : s.kept.keys = s.book.records.map Rec.key := rfl

/-! What each field kept through the settling says. -/

@[simp] theorem settle_role (s : State) : s.settle.role = s.role := by rw [← kept_role, settle_kept, kept_role]
@[simp] theorem settle_roleValid (s : State) : s.settle.roleValid = s.roleValid := by
  rw [← kept_roleValid, settle_kept, kept_roleValid]
@[simp] theorem settle_clock (s : State) : s.settle.clock = s.clock := by rw [← kept_clock, settle_kept, kept_clock]
@[simp] theorem settle_flashOn (s : State) : s.settle.flashOn = s.flashOn := by
  rw [← kept_flashOn, settle_kept, kept_flashOn]
@[simp] theorem settle_lines (s : State) : s.settle.lines = s.lines := by rw [← kept_lines, settle_kept, kept_lines]
@[simp] theorem settle_counter (s : State) : s.settle.book.counter = s.book.counter := by
  rw [← kept_counter, settle_kept, kept_counter]
@[simp] theorem settle_water (s : State) : s.settle.water = s.water := by rw [← kept_water, settle_kept, kept_water]
@[simp] theorem settle_pos (s : State) : s.settle.pos = s.pos := by rw [← kept_pos, settle_kept, kept_pos]
@[simp] theorem settle_creep (s : State) : s.settle.motion.creep = s.motion.creep := by
  rw [← kept_creep, settle_kept, kept_creep]
@[simp] theorem settle_candidate (s : State) : s.settle.motion.teachCandidate = s.motion.teachCandidate := by
  rw [← kept_candidate, settle_kept, kept_candidate]
@[simp] theorem settle_lockout (s : State) : s.settle.motion.teachLockout = s.motion.teachLockout := by
  rw [← kept_lockout, settle_kept, kept_lockout]
@[simp] theorem settle_tailLimits (s : State) : s.settle.locks.tail.limits = s.locks.tail.limits := by
  rw [← kept_tailLimits, settle_kept, kept_tailLimits]
@[simp] theorem settle_toeLimits (s : State) : s.settle.locks.toe.limits = s.locks.toe.limits := by
  rw [← kept_toeLimits, settle_kept, kept_toeLimits]
@[simp] theorem settle_apA (s : State) : s.settle.apA.kept = s.apA.kept := by rw [← kept_apA, settle_kept, kept_apA]
@[simp] theorem settle_apB (s : State) : s.settle.apB.kept = s.apB.kept := by rw [← kept_apB, settle_kept, kept_apB]
@[simp] theorem settle_number (s : State) : s.settle.opening.number = s.opening.number := by
  rw [← kept_number, settle_kept, kept_number]
@[simp] theorem settle_settleTimer (s : State) : s.settle.opening.settle = s.opening.settle := by
  rw [← kept_settle, settle_kept, kept_settle]
@[simp] theorem settle_paired (s : State) : s.settle.link.paired = s.link.paired := by
  rw [← kept_paired, settle_kept, kept_paired]
@[simp] theorem settle_view (s : State) : s.settle.link.view = s.link.view := by
  rw [← kept_view, settle_kept, kept_view]
@[simp] theorem settle_age (s : State) : s.settle.link.age = s.link.age := by rw [← kept_age, settle_kept, kept_age]
@[simp] theorem settle_mismatch (s : State) : s.settle.link.mismatch = s.link.mismatch := by
  rw [← kept_mismatch, settle_kept, kept_mismatch]
@[simp] theorem settle_prepare (s : State) : s.settle.faults.prepare = s.faults.prepare := by
  rw [← kept_prepare, settle_kept, kept_prepare]
@[simp] theorem settle_lapse (s : State) : s.settle.faults.lapse = s.faults.lapse := by
  rw [← kept_lapse, settle_kept, kept_lapse]
@[simp] theorem settle_settings (s : State) : s.settle.settings = s.settings := by
  rw [← kept_settings, settle_kept, kept_settings]
@[simp] theorem settle_port (s : State) : s.settle.port = s.port := by rw [← kept_port, settle_kept, kept_port]
@[simp] theorem settle_horizon (s : State) : s.settle.horizon = s.horizon := by
  rw [← kept_horizon, settle_kept, kept_horizon]
@[simp] theorem settle_cutCount (s : State) : s.settle.cutCount = s.cutCount := by
  rw [← kept_cutCount, settle_kept, kept_cutCount]
@[simp] theorem settle_pending (s : State) : s.settle.pending = s.pending := by
  rw [← kept_pending, settle_kept, kept_pending]
theorem settle_keys (s : State) : s.settle.book.records.map Rec.key = s.book.records.map Rec.key := by
  rw [← kept_keys, settle_kept, kept_keys]

/-! What each field kept through the first event's reports says. -/

@[simp] theorem wake_role (s : State) : s.wake.role = s.role := by rw [← kept_role, wake_kept, kept_role]
@[simp] theorem wake_roleValid (s : State) : s.wake.roleValid = s.roleValid := by
  rw [← kept_roleValid, wake_kept, kept_roleValid]
@[simp] theorem wake_clock (s : State) : s.wake.clock = s.clock := by rw [← kept_clock, wake_kept, kept_clock]
@[simp] theorem wake_flashOn (s : State) : s.wake.flashOn = s.flashOn := by rw [← kept_flashOn, wake_kept, kept_flashOn]
@[simp] theorem wake_lines (s : State) : s.wake.lines = s.lines := by rw [← kept_lines, wake_kept, kept_lines]
@[simp] theorem wake_counter (s : State) : s.wake.book.counter = s.book.counter := by
  rw [← kept_counter, wake_kept, kept_counter]
@[simp] theorem wake_water (s : State) : s.wake.water = s.water := by rw [← kept_water, wake_kept, kept_water]
@[simp] theorem wake_pos (s : State) : s.wake.pos = s.pos := by rw [← kept_pos, wake_kept, kept_pos]
@[simp] theorem wake_creep (s : State) : s.wake.motion.creep = s.motion.creep := by
  rw [← kept_creep, wake_kept, kept_creep]
@[simp] theorem wake_candidate (s : State) : s.wake.motion.teachCandidate = s.motion.teachCandidate := by
  rw [← kept_candidate, wake_kept, kept_candidate]
@[simp] theorem wake_lockout (s : State) : s.wake.motion.teachLockout = s.motion.teachLockout := by
  rw [← kept_lockout, wake_kept, kept_lockout]
@[simp] theorem wake_tailLimits (s : State) : s.wake.locks.tail.limits = s.locks.tail.limits := by
  rw [← kept_tailLimits, wake_kept, kept_tailLimits]
@[simp] theorem wake_toeLimits (s : State) : s.wake.locks.toe.limits = s.locks.toe.limits := by
  rw [← kept_toeLimits, wake_kept, kept_toeLimits]
@[simp] theorem wake_apA (s : State) : s.wake.apA.kept = s.apA.kept := by rw [← kept_apA, wake_kept, kept_apA]
@[simp] theorem wake_apB (s : State) : s.wake.apB.kept = s.apB.kept := by rw [← kept_apB, wake_kept, kept_apB]
@[simp] theorem wake_number (s : State) : s.wake.opening.number = s.opening.number := by
  rw [← kept_number, wake_kept, kept_number]
@[simp] theorem wake_settleTimer (s : State) : s.wake.opening.settle = s.opening.settle := by
  rw [← kept_settle, wake_kept, kept_settle]
@[simp] theorem wake_paired (s : State) : s.wake.link.paired = s.link.paired := by
  rw [← kept_paired, wake_kept, kept_paired]
@[simp] theorem wake_view (s : State) : s.wake.link.view = s.link.view := by rw [← kept_view, wake_kept, kept_view]
@[simp] theorem wake_age (s : State) : s.wake.link.age = s.link.age := by rw [← kept_age, wake_kept, kept_age]
@[simp] theorem wake_mismatch (s : State) : s.wake.link.mismatch = s.link.mismatch := by
  rw [← kept_mismatch, wake_kept, kept_mismatch]
@[simp] theorem wake_prepare (s : State) : s.wake.faults.prepare = s.faults.prepare := by
  rw [← kept_prepare, wake_kept, kept_prepare]
@[simp] theorem wake_lapse (s : State) : s.wake.faults.lapse = s.faults.lapse := by
  rw [← kept_lapse, wake_kept, kept_lapse]
@[simp] theorem wake_settings (s : State) : s.wake.settings = s.settings := by
  rw [← kept_settings, wake_kept, kept_settings]
@[simp] theorem wake_port (s : State) : s.wake.port = s.port := by rw [← kept_port, wake_kept, kept_port]
@[simp] theorem wake_horizon (s : State) : s.wake.horizon = s.horizon := by
  rw [← kept_horizon, wake_kept, kept_horizon]
@[simp] theorem wake_cutCount (s : State) : s.wake.cutCount = s.cutCount := by
  rw [← kept_cutCount, wake_kept, kept_cutCount]
@[simp] theorem wake_pending (s : State) : s.wake.pending = s.pending := by rw [← kept_pending, wake_kept, kept_pending]
theorem wake_keys (s : State) : s.wake.book.records.map Rec.key = s.book.records.map Rec.key := by
  rw [← kept_keys, wake_kept, kept_keys]

/-! ### The parts of an answer -/

/-- Forming a response changes the port alone. -/
theorem respond_eq (s : State) (r : Result) (d : List Byte) :
    s.respond r d = { s with port := s.port.answered r (if r == .ok then d else []) } := rfl

@[simp] theorem respond_ok_kept (s : State) (d : List Byte) :
    (s.respond .ok d).kept = { s.kept with port := s.port.answered .ok d } := rfl

theorem respond_kept (s : State) (r : Result) :
    (s.respond r []).kept = { s.kept with port := s.port.answered r [] } := by
  cases r <;> rfl

@[simp] theorem clearPrepare_kept (s : State) :
    s.clearPrepare.kept = { s.kept with prepare := false, lapse := .stopped } := by
  rfl

/-- What a request finds is what stood before, but for the resume-prepare flag. -/
@[simp] theorem asked_kept (s : State) : s.asked.kept = { s.kept with prepare := false, lapse := .stopped } := by
  rw [asked, clearPrepare_kept, wake_kept]

/-- An accepted request keeps what its own change keeps, with the port answered. -/
theorem settle_respond_kept (u : State) (d : List Byte) :
    (u.settle.respond .ok d).kept = { u.kept with port := u.port.answered .ok d } := by
  rw [respond_ok_kept, settle_kept, settle_port]

/-! ### The three kinds of command -/

theorem event_eq (s : State) (f : State → State) : s.event f = .next (f s.wake).settle := rfl

theorem request_allowed (s : State) (st : Station) (who : List Station) (f : State → Answer)
    (h : who.contains st = true) : s.request st who f = .next (s.asked.answer (f s.asked)) := by
  simp only [request, h, if_true]
  rfl

theorem request_denied (s : State) (st : Station) (who : List Station) (f : State → Answer)
    (h : who.contains st = false) : s.request st who f = .next (s.asked.respond .notPermitted []) := by
  simp only [request, h]
  rfl

theorem read_ok (s : State) (f : State → Except Result (List Byte)) (d : List Byte) (h : f s.wake = .ok d) :
    s.read f = .next (s.wake.respond .ok d) := by
  simp only [read, h]

theorem read_error (s : State) (f : State → Except Result (List Byte)) (r : Result) (h : f s.wake = .error r) :
    s.read f = .next (s.wake.respond r []) := by
  simp only [read, h]

end State

/-- The outcomes a command other than RESET and SELECTION_END can have: its own change settled; its own change settled and answered; or
nothing but an answer. -/
inductive Outcome (s : State) (o : Host.Outcome State Fault Refusal) : Prop
  | settled (u : State) (h : o = .next u.settle)
  | accepted (u : State) (r : Result) (d : List Byte) (h : o = .next (u.settle.respond r d))
  | answered (r : Result) (d : List Byte) (h : o = .next (s.wake.respond r d))
  | refused (r : Result) (d : List Byte) (h : o = .next (s.asked.respond r d))

theorem Outcome.event (s : State) (f : State → State) : Outcome s (s.event f) := .settled _ rfl

theorem Outcome.answer (s : State) (a : Answer) : Outcome s (.next (s.asked.answer a)) := by
  cases a with
  | refuse r => exact .refused r [] rfl
  | accept t d => exact .accepted t .ok _ rfl

theorem Outcome.request (s : State) (st : Station) (who : List Station) (f : State → Answer) :
    Outcome s (s.request st who f) := by
  cases h : who.contains st with
  | true => rw [State.request_allowed s st who f h]; exact Outcome.answer s _
  | false => rw [State.request_denied s st who f h]; exact .refused _ _ rfl

theorem Outcome.read (s : State) (f : State → Except Result (List Byte)) : Outcome s (s.read f) := by
  cases h : f s.wake with
  | ok d => rw [State.read_ok s f d h]; exact .answered _ _ rfl
  | error r => rw [State.read_error s f r h]; exact .answered _ _ rfl

theorem Outcome.resumePrepare (s : State) (st : Station) : Outcome s (execResumePrepare st s) := by
  unfold execResumePrepare
  dsimp only
  split
  · cases h : s.wake.faults.halted with
    | true => exact .accepted _ .ok _ rfl
    | false => exact .answered _ _ rfl
  · exact .refused _ _ rfl

theorem Outcome.resume (s : State) (st : Station) : Outcome s (execResume st s) := by
  unfold execResume
  dsimp only
  split
  · exact Outcome.answer s _
  · exact .refused _ _ rfl

/-- Every command but RESET and SELECTION_END has one of the four outcomes. -/
theorem exec_outcome (c : Instr) (s : State) (h : ∀ a b e, c ≠ .reset a b e) (h' : ∀ bs, c ≠ .selectionEnd bs) :
    Outcome s (exec c s) := by
  cases c
  case reset a b e => exact absurd rfl (h a b e)
  case selectionEnd bs => exact absurd rfl (h' bs)
  case resumePrepare st => exact Outcome.resumePrepare s st
  case resume st => exact Outcome.resume s st
  case selectionStart => unfold exec execSelectionStart; exact Outcome.event s _
  case book => unfold exec execBook; exact Outcome.request s _ _ _
  case amend => unfold exec execAmend; exact Outcome.request s _ _ _
  case cancel => unfold exec execCancel; exact Outcome.request s _ _ _
  case lookup => unfold exec execLookup; exact Outcome.read s _
  case listBook => unfold exec execListBook; exact Outcome.read s _
  case listChanged => unfold exec execListChanged; exact Outcome.request s _ _ _
  case forget => unfold exec execForget; exact Outcome.request s _ _ _
  case markPassed => unfold exec execMarkPassed; exact Outcome.request s _ _ _
  case setWater => unfold exec execSetWater; exact Outcome.request s _ _ _
  case enterCreep => unfold exec execEnterCreep; exact Outcome.request s _ _ _
  case leaveCreep => unfold exec execLeaveCreep; exact Outcome.request s _ _ _
  case teachSeat => unfold exec execTeachSeat; exact Outcome.request s _ _ _
  case teachPress => unfold exec execTeachPress; exact Outcome.event s _
  case teachLockoutExpiry => unfold exec execTeachLockoutExpiry; exact Outcome.event s _
  case recoverLower => unfold exec execRecoverLower; exact Outcome.request s _ _ _
  case stopSpan => unfold exec execStopSpan; exact Outcome.request s _ _ _
  case retryGate => unfold exec execRetryGate; exact Outcome.request s _ _ _
  case reopenRoad => unfold exec execReopenRoad; exact Outcome.request s _ _ _
  case closeRoad => unfold exec execCloseRoad; exact Outcome.request s _ _ _
  case releaseLane => unfold exec execReleaseLane; exact Outcome.request s _ _ _
  case holdLane => unfold exec execHoldLane; exact Outcome.request s _ _ _
  case releaseAll => unfold exec execReleaseAll; exact Outcome.request s _ _ _
  case holdAll => unfold exec execHoldAll; exact Outcome.request s _ _ _
  case openSpan => unfold exec execOpenSpan; exact Outcome.request s _ _ _
  case closeNow => unfold exec execCloseNow; exact Outcome.request s _ _ _
  case abortOpening => unfold exec execAbortOpening; exact Outcome.request s _ _ _
  case continueOpening => unfold exec execContinueOpening; exact Outcome.request s _ _ _
  case setMask => unfold exec execSetMask; exact Outcome.request s _ _ _
  case ackFaults => unfold exec execAckFaults; exact Outcome.request s _ _ _
  case writeSetting => unfold exec execWriteSetting; exact Outcome.request s _ _ _
  case storeSettings => unfold exec execStoreSettings; exact Outcome.request s _ _ _
  case setProtect => unfold exec execSetProtect; exact Outcome.request s _ _ _
  case readStatus => unfold exec execReadStatus; exact Outcome.read s _
  case readLeaf => unfold exec execReadLeaf; exact Outcome.read s _
  case readApproach => unfold exec execReadApproach; exact Outcome.read s _
  case readSignals => unfold exec execReadSignals; exact Outcome.read s _
  case readFaults => unfold exec execReadFaults; exact Outcome.read s _
  case readLink => unfold exec execReadLink; exact Outcome.read s _
  case readSetting => unfold exec execReadSetting; exact Outcome.read s _
  case spanClockTick => unfold exec execSpanClockTick; exact Outcome.event s _
  case waterStaleExpiry => unfold exec execWaterStaleExpiry; exact Outcome.event s _
  case trackCount => unfold exec execTrackCount; exact Outcome.event s _
  case illegalTransition => unfold exec execIllegalTransition; exact Outcome.event s _
  case sensorFaultActive => unfold exec execSensorFaultActive; exact Outcome.event s _
  case sensorFaultInactive => unfold exec execSensorFaultInactive; exact Outcome.event s _
  case markEvent => unfold exec execMarkEvent; exact Outcome.event s _
  case speedWindowEnd => unfold exec execSpeedWindowEnd; exact Outcome.event s _
  case seatSwitchEstablished => unfold exec execSeatSwitchEstablished; exact Outcome.event s _
  case seatSwitchChange => unfold exec execSeatSwitchChange; exact Outcome.event s _
  case driveReadyChange => unfold exec execDriveReadyChange; exact Outcome.event s _
  case driveFaultChange => unfold exec execDriveFaultChange; exact Outcome.event s _
  case openLimitChange => unfold exec execOpenLimitChange; exact Outcome.event s _
  case emergencyStopChange => unfold exec execEmergencyStopChange; exact Outcome.event s _
  case keyChange => unfold exec execKeyChange; exact Outcome.event s _
  case lockLimitsEstablished => unfold exec execLockLimitsEstablished; exact Outcome.event s _
  case lockLimitChange => unfold exec execLockLimitChange; exact Outcome.event s _
  case lockTimeExpiry => unfold exec execLockTimeExpiry; exact Outcome.event s _
  case gateLimitsEstablished => unfold exec execGateLimitsEstablished; exact Outcome.event s _
  case gateLimitChange => unfold exec execGateLimitChange; exact Outcome.event s _
  case gateTravelExpiry => unfold exec execGateTravelExpiry; exact Outcome.event s _
  case gateObstruction => unfold exec execGateObstruction; exact Outcome.event s _
  case retryWaitExpiry => unfold exec execRetryWaitExpiry; exact Outcome.event s _
  case holdFlashExpiry => unfold exec execHoldFlashExpiry; exact Outcome.event s _
  case prewarnExpiry => unfold exec execPrewarnExpiry; exact Outcome.event s _
  case stopTimeExpiry => unfold exec execStopTimeExpiry; exact Outcome.event s _
  case clearMinExpiry => unfold exec execClearMinExpiry; exact Outcome.event s _
  case clearAlertExpiry => unfold exec execClearAlertExpiry; exact Outcome.event s _
  case zoneDetectorChange => unfold exec execZoneDetectorChange; exact Outcome.event s _
  case flashClockTick => unfold exec execFlashClockTick; exact Outcome.event s _
  case lampProvingSpan => unfold exec execLampProvingSpan; exact Outcome.event s _
  case signalLampProvingSpan => unfold exec execSignalLampProvingSpan; exact Outcome.event s _
  case beamEstablished => unfold exec execBeamEstablished; exact Outcome.event s _
  case beamBreak => unfold exec execBeamBreak; exact Outcome.event s _
  case beamClear => unfold exec execBeamClear; exact Outcome.event s _
  case gapTimerExpiry => unfold exec execGapTimerExpiry; exact Outcome.event s _
  case callTimeExpiry => unfold exec execCallTimeExpiry; exact Outcome.event s _
  case lingerExpiry => unfold exec execLingerExpiry; exact Outcome.event s _
  case roadIntervalExpiry => unfold exec execRoadIntervalExpiry; exact Outcome.event s _
  case settleIntervalExpiry => unfold exec execSettleIntervalExpiry; exact Outcome.event s _
  case leadPeriod => unfold exec execLeadPeriod; exact Outcome.event s _
  case replyTimerExpiry => unfold exec execReplyTimerExpiry; exact Outcome.event s _
  case receiveStart => unfold exec execReceiveStart; exact Outcome.event s _
  case receiveEnd => unfold exec execReceiveEnd; exact Outcome.event s _
  case preambleEnd => unfold exec execPreambleEnd; exact Outcome.event s _
  case preambleAbandon => unfold exec execPreambleAbandon; exact Outcome.event s _
  case sendEnd => unfold exec execSendEnd; exact Outcome.event s _
  case toneRepeat => unfold exec execToneRepeat; exact Outcome.event s _
  case toneEnd => unfold exec execToneEnd; exact Outcome.event s _
  case haltToneRecognised => unfold exec execHaltToneRecognised; exact Outcome.event s _
  case freshnessExpiry => unfold exec execFreshnessExpiry; exact Outcome.event s _
  case startupWaitEnd => unfold exec execStartupWaitEnd; exact Outcome.event s _
  case resumePrepareLapse => unfold exec execResumePrepareLapse; exact Outcome.event s _
  case storeWriteComplete => unfold exec execStoreWriteComplete; exact Outcome.event s _

/-- A request handed to its block has the meaning of the command of its row (R191). -/
theorem dispatch_eq_exec (i : Instr) (s : State) (h : (stationOf i).isSome = true) : s.dispatch i = exec i s := by
  cases i <;> first | (simp [stationOf] at h; done) | (unfold State.dispatch exec; rfl)

/-- A request that its station may send is one (R191). -/
theorem isSome_of_permitted (i : Instr) (h : permitted i = true) : (stationOf i).isSome = true := by
  unfold permitted at h
  cases e : stationOf i with
  | none => simp [e] at h
  | some st => rfl

/-- The end of a selection: its own change settled, or a request worked with the port left at work on it. The request's
outcome is a bad frame's answer, that of a station that may not send it, or one of the four outcomes of its row. -/
theorem selectionEnd_outcome (bs : List Byte) (s : State) :
    (∃ u : State, exec (.selectionEnd bs) s = .next u.settle) ∨
      ∃ u : State, exec (.selectionEnd bs) s = .next (u.working bs) ∧
        ((∃ r, u = s.wake.deselect.respond r []) ∨ u = s.wake.deselect.clearPrepare.respond .notPermitted [] ∨
          Outcome s.wake.deselect (.next u)) := by
  unfold exec execSelectionEnd
  dsimp only
  split
  · exact .inl ⟨_, rfl⟩
  · split
    · exact .inl ⟨_, rfl⟩
    · right
      unfold State.takeRequest
      split
      · exact ⟨_, rfl, .inl ⟨_, rfl⟩⟩
      · rename_i i _
        split
        · rename_i p
          have e := dispatch_eq_exec i s.wake.deselect (isSome_of_permitted i p)
          have o := exec_outcome i s.wake.deselect (fun a b c e => by subst e; cases p) (fun x e => by subst e; cases p)
          rw [e]
          have n : ∃ u, exec i s.wake.deselect = .next u := by
            rcases o with ⟨_, h⟩ | ⟨_, _, _, h⟩ | ⟨_, _, h⟩ | ⟨_, _, h⟩ <;> exact ⟨_, h⟩
          obtain ⟨u, h⟩ := n
          rw [h] at o ⊢
          exact ⟨u, rfl, .inr (.inr o)⟩
        · exact ⟨_, rfl, .inr (.inl rfl)⟩

/-- Every command answers a next state: the part never stops. -/
theorem exec_next (c : Instr) (s : State) : ∃ t, exec c s = .next t := by
  by_cases h : ∃ a b e, c = .reset a b e
  · obtain ⟨a, b, e, rfl⟩ := h
    exact ⟨_, rfl⟩
  · by_cases h' : ∃ bs, c = .selectionEnd bs
    · obtain ⟨bs, rfl⟩ := h'
      rcases selectionEnd_outcome bs s with ⟨_, h⟩ | ⟨_, h, _⟩ <;> exact ⟨_, h⟩
    · rcases exec_outcome c s (fun a b e k => h ⟨a, b, e, k⟩) (fun bs k => h' ⟨bs, k⟩) with ⟨_, h⟩ | ⟨_, _, _, h⟩ | ⟨_, _, h⟩ | ⟨_, _, h⟩ <;>
        exact ⟨_, h⟩

end Sys2Proof.Machine
end

