-- ==== Sys2Proof/Laws/PerInstr.lean ====
section
/-!
SUPPORT. One fact about every command as syntax: a command names a station exactly where some station may send it, that is
where it is a request (R190, R191).
-/

namespace Sys2Proof.Laws

open Sys2Proof Sys2Proof.Machine

/-- A command carries no station exactly where no station may send it (R191). -/
def Senders.Statement (i : Instr) : Prop := stationOf i = none ↔ stationsOf i = []

theorem Senders.reset (role1 role0 emergencyStop : Bool) : Senders.Statement (.reset role1 role0 emergencyStop) :=
  iff_of_true rfl rfl
theorem Senders.selectionStart : Senders.Statement (.selectionStart) :=
  iff_of_true rfl rfl
theorem Senders.selectionEnd (bytes : List Byte) : Senders.Statement (.selectionEnd bytes) :=
  iff_of_true rfl rfl
theorem Senders.book (st : Station) (vessel dir : Nat) (draft : Int) (priority : Nat) (notBefore : NotBeforeParam) (follows : Nat) : Senders.Statement (.book st vessel dir draft priority notBefore follows) :=
  iff_of_false nofun nofun
theorem Senders.amend (st : Station) (num : Nat) (change : AmendChange) : Senders.Statement (.amend st num change) :=
  iff_of_false nofun nofun
theorem Senders.cancel (st : Station) (num : Nat) : Senders.Statement (.cancel st num) :=
  iff_of_false nofun nofun
theorem Senders.lookup (st : Station) (key : LookupKey) : Senders.Statement (.lookup st key) :=
  iff_of_false nofun nofun
theorem Senders.listBook (st : Station) (filter : Nat) (resume : Option Nat) : Senders.Statement (.listBook st filter resume) :=
  iff_of_false nofun nofun
theorem Senders.listChanged (st : Station) : Senders.Statement (.listChanged st) :=
  iff_of_false nofun nofun
theorem Senders.forget (st : Station) (num : Nat) : Senders.Statement (.forget st num) :=
  iff_of_false nofun nofun
theorem Senders.markPassed (st : Station) (num : Nat) : Senders.Statement (.markPassed st num) :=
  iff_of_false nofun nofun
theorem Senders.setWater (st : Station) (level : Int) : Senders.Statement (.setWater st level) :=
  iff_of_false nofun nofun
theorem Senders.enterCreep (st : Station) : Senders.Statement (.enterCreep st) :=
  iff_of_false nofun nofun
theorem Senders.leaveCreep (st : Station) : Senders.Statement (.leaveCreep st) :=
  iff_of_false nofun nofun
theorem Senders.teachSeat (st : Station) : Senders.Statement (.teachSeat st) :=
  iff_of_false nofun nofun
theorem Senders.teachPress : Senders.Statement (.teachPress) :=
  iff_of_true rfl rfl
theorem Senders.teachLockoutExpiry : Senders.Statement (.teachLockoutExpiry) :=
  iff_of_true rfl rfl
theorem Senders.recoverLower (st : Station) : Senders.Statement (.recoverLower st) :=
  iff_of_false nofun nofun
theorem Senders.stopSpan (st : Station) : Senders.Statement (.stopSpan st) :=
  iff_of_false nofun nofun
theorem Senders.retryGate (st : Station) (gate : Nat) : Senders.Statement (.retryGate st gate) :=
  iff_of_false nofun nofun
theorem Senders.reopenRoad (st : Station) : Senders.Statement (.reopenRoad st) :=
  iff_of_false nofun nofun
theorem Senders.closeRoad (st : Station) : Senders.Statement (.closeRoad st) :=
  iff_of_false nofun nofun
theorem Senders.releaseLane (st : Station) (gate : Nat) : Senders.Statement (.releaseLane st gate) :=
  iff_of_false nofun nofun
theorem Senders.holdLane (st : Station) (gate : Nat) : Senders.Statement (.holdLane st gate) :=
  iff_of_false nofun nofun
theorem Senders.releaseAll (st : Station) : Senders.Statement (.releaseAll st) :=
  iff_of_false nofun nofun
theorem Senders.holdAll (st : Station) : Senders.Statement (.holdAll st) :=
  iff_of_false nofun nofun
theorem Senders.openSpan (st : Station) : Senders.Statement (.openSpan st) :=
  iff_of_false nofun nofun
theorem Senders.closeNow (st : Station) : Senders.Statement (.closeNow st) :=
  iff_of_false nofun nofun
theorem Senders.abortOpening (st : Station) : Senders.Statement (.abortOpening st) :=
  iff_of_false nofun nofun
theorem Senders.continueOpening (st : Station) : Senders.Statement (.continueOpening st) :=
  iff_of_false nofun nofun
theorem Senders.setMask (st : Station) (fault value : Nat) : Senders.Statement (.setMask st fault value) :=
  iff_of_false nofun nofun
theorem Senders.ackFaults (st : Station) : Senders.Statement (.ackFaults st) :=
  iff_of_false nofun nofun
theorem Senders.resumePrepare (st : Station) : Senders.Statement (.resumePrepare st) :=
  iff_of_false nofun nofun
theorem Senders.resume (st : Station) : Senders.Statement (.resume st) :=
  iff_of_false nofun nofun
theorem Senders.writeSetting (st : Station) (item : Nat) (value : SettingValue) : Senders.Statement (.writeSetting st item value) :=
  iff_of_false nofun nofun
theorem Senders.storeSettings (st : Station) (block : Nat) : Senders.Statement (.storeSettings st block) :=
  iff_of_false nofun nofun
theorem Senders.setProtect (st : Station) (value : Nat) : Senders.Statement (.setProtect st value) :=
  iff_of_false nofun nofun
theorem Senders.readStatus (st : Station) : Senders.Statement (.readStatus st) :=
  iff_of_false nofun nofun
theorem Senders.readLeaf (st : Station) : Senders.Statement (.readLeaf st) :=
  iff_of_false nofun nofun
theorem Senders.readApproach (st : Station) (ap : Nat) : Senders.Statement (.readApproach st ap) :=
  iff_of_false nofun nofun
theorem Senders.readSignals (st : Station) : Senders.Statement (.readSignals st) :=
  iff_of_false nofun nofun
theorem Senders.readFaults (st : Station) : Senders.Statement (.readFaults st) :=
  iff_of_false nofun nofun
theorem Senders.readLink (st : Station) : Senders.Statement (.readLink st) :=
  iff_of_false nofun nofun
theorem Senders.readSetting (st : Station) (item copy : Nat) : Senders.Statement (.readSetting st item copy) :=
  iff_of_false nofun nofun
theorem Senders.spanClockTick : Senders.Statement (.spanClockTick) :=
  iff_of_true rfl rfl
theorem Senders.waterStaleExpiry : Senders.Statement (.waterStaleExpiry) :=
  iff_of_true rfl rfl
theorem Senders.trackCount (ch : Channel) (way : Way) : Senders.Statement (.trackCount ch way) :=
  iff_of_true rfl rfl
theorem Senders.illegalTransition (ch : Channel) : Senders.Statement (.illegalTransition ch) :=
  iff_of_true rfl rfl
theorem Senders.sensorFaultActive (ch : Channel) : Senders.Statement (.sensorFaultActive ch) :=
  iff_of_true rfl rfl
theorem Senders.sensorFaultInactive (ch : Channel) (pair : Fin 4) : Senders.Statement (.sensorFaultInactive ch pair) :=
  iff_of_true rfl rfl
theorem Senders.markEvent (ch : Channel) : Senders.Statement (.markEvent ch) :=
  iff_of_true rfl rfl
theorem Senders.speedWindowEnd (ch : Channel) : Senders.Statement (.speedWindowEnd ch) :=
  iff_of_true rfl rfl
theorem Senders.seatSwitchEstablished (seated : Bool) : Senders.Statement (.seatSwitchEstablished seated) :=
  iff_of_true rfl rfl
theorem Senders.seatSwitchChange (seated : Bool) : Senders.Statement (.seatSwitchChange seated) :=
  iff_of_true rfl rfl
theorem Senders.driveReadyChange (active : Bool) : Senders.Statement (.driveReadyChange active) :=
  iff_of_true rfl rfl
theorem Senders.driveFaultChange (active : Bool) : Senders.Statement (.driveFaultChange active) :=
  iff_of_true rfl rfl
theorem Senders.openLimitChange (active : Bool) : Senders.Statement (.openLimitChange active) :=
  iff_of_true rfl rfl
theorem Senders.emergencyStopChange (active : Bool) : Senders.Statement (.emergencyStopChange active) :=
  iff_of_true rfl rfl
theorem Senders.keyChange (on : Bool) : Senders.Statement (.keyChange on) :=
  iff_of_true rfl rfl
theorem Senders.lockLimitsEstablished (l : LockId) (withdrawn driven : Bool) : Senders.Statement (.lockLimitsEstablished l withdrawn driven) :=
  iff_of_true rfl rfl
theorem Senders.lockLimitChange (l : LockId) (withdrawn driven : Bool) : Senders.Statement (.lockLimitChange l withdrawn driven) :=
  iff_of_true rfl rfl
theorem Senders.lockTimeExpiry (l : LockId) : Senders.Statement (.lockTimeExpiry l) :=
  iff_of_true rfl rfl
theorem Senders.gateLimitsEstablished (a b : Six GateLimits) : Senders.Statement (.gateLimitsEstablished a b) :=
  iff_of_true rfl rfl
theorem Senders.gateLimitChange (g : GateId) (limits : GateLimits) : Senders.Statement (.gateLimitChange g limits) :=
  iff_of_true rfl rfl
theorem Senders.gateTravelExpiry (g : GateId) : Senders.Statement (.gateTravelExpiry g) :=
  iff_of_true rfl rfl
theorem Senders.gateObstruction (g : GateId) (active : Bool) : Senders.Statement (.gateObstruction g active) :=
  iff_of_true rfl rfl
theorem Senders.retryWaitExpiry (g : GateId) : Senders.Statement (.retryWaitExpiry g) :=
  iff_of_true rfl rfl
theorem Senders.holdFlashExpiry (g : GateId) : Senders.Statement (.holdFlashExpiry g) :=
  iff_of_true rfl rfl
theorem Senders.prewarnExpiry (ap : Ap) : Senders.Statement (.prewarnExpiry ap) :=
  iff_of_true rfl rfl
theorem Senders.stopTimeExpiry (ap : Ap) : Senders.Statement (.stopTimeExpiry ap) :=
  iff_of_true rfl rfl
theorem Senders.clearMinExpiry (ap : Ap) : Senders.Statement (.clearMinExpiry ap) :=
  iff_of_true rfl rfl
theorem Senders.clearAlertExpiry (ap : Ap) : Senders.Statement (.clearAlertExpiry ap) :=
  iff_of_true rfl rfl
theorem Senders.zoneDetectorChange (ap : Ap) (ix : Fin 3) (occupied : Bool) : Senders.Statement (.zoneDetectorChange ap ix occupied) :=
  iff_of_true rfl rfl
theorem Senders.flashClockTick : Senders.Statement (.flashClockTick) :=
  iff_of_true rfl rfl
theorem Senders.lampProvingSpan (lamp : RoadLamp) (proof : Proving) : Senders.Statement (.lampProvingSpan lamp proof) :=
  iff_of_true rfl rfl
theorem Senders.signalLampProvingSpan (dir : Dir) (colour : Colour) (proof : Proving) : Senders.Statement (.signalLampProvingSpan dir colour proof) :=
  iff_of_true rfl rfl
theorem Senders.beamEstablished (beam : Beam) (broken : Bool) : Senders.Statement (.beamEstablished beam broken) :=
  iff_of_true rfl rfl
theorem Senders.beamBreak (beam : Beam) : Senders.Statement (.beamBreak beam) :=
  iff_of_true rfl rfl
theorem Senders.beamClear (beam : Beam) : Senders.Statement (.beamClear beam) :=
  iff_of_true rfl rfl
theorem Senders.gapTimerExpiry (dir : Dir) : Senders.Statement (.gapTimerExpiry dir) :=
  iff_of_true rfl rfl
theorem Senders.callTimeExpiry : Senders.Statement (.callTimeExpiry) :=
  iff_of_true rfl rfl
theorem Senders.lingerExpiry : Senders.Statement (.lingerExpiry) :=
  iff_of_true rfl rfl
theorem Senders.roadIntervalExpiry : Senders.Statement (.roadIntervalExpiry) :=
  iff_of_true rfl rfl
theorem Senders.settleIntervalExpiry : Senders.Statement (.settleIntervalExpiry) :=
  iff_of_true rfl rfl
theorem Senders.leadPeriod : Senders.Statement (.leadPeriod) :=
  iff_of_true rfl rfl
theorem Senders.replyTimerExpiry : Senders.Statement (.replyTimerExpiry) :=
  iff_of_true rfl rfl
theorem Senders.receiveStart : Senders.Statement (.receiveStart) :=
  iff_of_true rfl rfl
theorem Senders.receiveEnd (bytes : List Byte) (lineActive : Bool) : Senders.Statement (.receiveEnd bytes lineActive) :=
  iff_of_true rfl rfl
theorem Senders.preambleEnd : Senders.Statement (.preambleEnd) :=
  iff_of_true rfl rfl
theorem Senders.preambleAbandon : Senders.Statement (.preambleAbandon) :=
  iff_of_true rfl rfl
theorem Senders.sendEnd : Senders.Statement (.sendEnd) :=
  iff_of_true rfl rfl
theorem Senders.toneRepeat : Senders.Statement (.toneRepeat) :=
  iff_of_true rfl rfl
theorem Senders.toneEnd : Senders.Statement (.toneEnd) :=
  iff_of_true rfl rfl
theorem Senders.haltToneRecognised : Senders.Statement (.haltToneRecognised) :=
  iff_of_true rfl rfl
theorem Senders.freshnessExpiry : Senders.Statement (.freshnessExpiry) :=
  iff_of_true rfl rfl
theorem Senders.startupWaitEnd : Senders.Statement (.startupWaitEnd) :=
  iff_of_true rfl rfl
theorem Senders.resumePrepareLapse : Senders.Statement (.resumePrepareLapse) :=
  iff_of_true rfl rfl
theorem Senders.storeWriteComplete (verifyPassed : Bool) : Senders.Statement (.storeWriteComplete verifyPassed) :=
  iff_of_true rfl rfl

end Sys2Proof.Laws
end

