-- ==== Sys2Proof/Laws/Settings.lean ====
section
/-!
SUPPORT. What the checks of a whole table and of a whole set of bands say.
-/

namespace Sys2Proof.Machine

open Sys2Proof

/-- A test on every pair of neighbours of a list, in the form of `tableRises` and `bandsRise`. -/
theorem neighbours_cons {α : Type} (P : α → α → Prop) (a : α) (t : List α) :
    (∀ xs p q ys, a :: t = xs ++ p :: q :: ys → P p q) ↔
      (∀ q ys, t = q :: ys → P a q) ∧ ∀ xs p q ys, t = xs ++ p :: q :: ys → P p q := by
  constructor
  · intro h
    exact ⟨fun q ys e => h [] a q ys (by simp [e]), fun xs p q ys e => h (a :: xs) p q ys (by simp [e])⟩
  · rintro ⟨h, h'⟩ xs p q ys e
    cases xs with
    | nil => simp at e; obtain ⟨rfl, e⟩ := e; exact h q ys e
    | cons x xs => simp at e; exact h' xs p q ys e.2

theorem tableRises_iff (t : List (Int × Int)) :
    tableRises t = true ↔ ∀ xs p q ys, t = xs ++ p :: q :: ys → p.1 < q.1 ∧ p.2 ≤ q.2 := by
  induction t with
  | nil => simp [tableRises]
  | cons a t ih =>
    rw [neighbours_cons fun p q : Int × Int => p.1 < q.1 ∧ p.2 ≤ q.2, ← ih]
    obtain ⟨t0, h0⟩ := a
    cases t with
    | nil => simp [tableRises]
    | cons b t => simp [tableRises]

theorem bandsRise_iff (bs : List RawBand) :
    bandsRise bs = true ↔ ∀ xs b c ys, bs = xs ++ b :: c :: ys → b.upper < c.upper := by
  induction bs with
  | nil => simp [bandsRise]
  | cons a t ih =>
    rw [neighbours_cons fun b c : RawBand => b.upper < c.upper, ← ih]
    cases t with
    | nil => simp [bandsRise]
    | cons b t => simp [bandsRise]

/-- The check of R24 takes exactly the tables that fit. -/
theorem tableOK_iff (full : Int) (t : List (Int × Int)) : tableOK full t = true ↔ TableFits full t := by
  cases t with
  | nil => simp [tableOK, TableFits]
  | cons a t =>
    simp only [tableOK, TableFits, Bool.and_eq_true, decide_eq_true_eq, tableRises_iff, List.all_eq_true, List.head?_cons,
      Option.any_some, beq_iff_eq, and_assoc, Option.some.injEq, forall_eq']
    cases h : (a :: t).getLast? <;> simp

/-- The check of R67 takes exactly the bands that fit. -/
theorem bandsOK_iff (full : Int) (bs : List RawBand) : bandsOK full bs = true ↔ BandsFit full bs := by
  cases bs with
  | nil => simp [bandsOK, BandsFit]
  | cons a t =>
    simp only [bandsOK, BandsFit, Bool.and_eq_true, decide_eq_true_eq, bandsRise_iff, List.all_eq_true, and_assoc]
    cases h : (a :: t).getLast? <;> simp_all

end Sys2Proof.Machine
end

