-- ==== Sys2Proof/WellFormed.lean ====
section
/-!
DEFINITION. Well-formed commands: every operand fits the bytes that carry it on the port or the link (R190, R193). The
ranges a rule asks for are judged by the rule (R6), not here.
-/

namespace Sys2Proof

/-- A value of one byte. -/
def fits1 (n : Nat) : Bool := decide (n < 256)

/-- A value of two bytes. -/
def fits2 (n : Nat) : Bool := decide (n < 65536)

/-- A value of four bytes. -/
def fits4 (n : Nat) : Bool := decide (n < 4294967296)

/-- A signed value of two bytes. -/
def fitsSigned (v : Int) : Bool := decide (-32768 ≤ v) && decide (v ≤ 32767)

/-- A band fits its seven bytes. -/
def RawBand.wf (b : RawBand) : Bool :=
  fitsSigned b.upper && decide (0 ≤ b.upLimit) && decide (b.upLimit < 65536) && decide (0 ≤ b.downLimit) &&
    decide (b.downLimit < 65536) && fits1 b.cls

/-- A setting's value fits its bytes: a number four of them, a list its count byte. -/
def SettingValue.wf : SettingValue → Bool
  | .num v => decide (-2147483648 ≤ v) && decide (v ≤ 2147483647)
  | .table t => fits1 t.length && t.all fun p => fitsSigned p.1 && fitsSigned p.2
  | .bands bs => fits1 bs.length && bs.all RawBand.wf

/-- The values of an AMEND fit their bytes. -/
def AmendChange.wf (c : AmendChange) : Bool :=
  c.draft.all fitsSigned && c.priority.all fits1 && c.notBefore.all fits4 && c.follows.all fits2

/-- The operands of a command fit the bytes that carry them. -/
def Instr.wf : Instr → Bool
  | .reset _ _ _ => true
  | .selectionStart => true
  | .selectionEnd _ => true
  | .book _ vessel dir draft priority nb follows =>
    fits4 vessel && fits1 dir && fitsSigned draft && fits1 priority && fits1 nb.flag && fits4 nb.value && fits2 follows
  | .amend _ num change => fits2 num && change.wf
  | .cancel _ num => fits2 num
  | .lookup _ key =>
    match key with
    | .number n => fits2 n
    | .vessel r => fits4 r
    | .other => true
  | .listBook _ filter after => fits1 filter && after.all fits2
  | .listChanged _ => true
  | .forget _ num => fits2 num
  | .markPassed _ num => fits2 num
  | .setWater _ level => fitsSigned level
  | .enterCreep _ => true
  | .leaveCreep _ => true
  | .teachSeat _ => true
  | .teachPress => true
  | .teachLockoutExpiry => true
  | .recoverLower _ => true
  | .stopSpan _ => true
  | .retryGate _ gate => fits1 gate
  | .reopenRoad _ => true
  | .closeRoad _ => true
  | .releaseLane _ gate => fits1 gate
  | .holdLane _ gate => fits1 gate
  | .releaseAll _ => true
  | .holdAll _ => true
  | .openSpan _ => true
  | .closeNow _ => true
  | .abortOpening _ => true
  | .continueOpening _ => true
  | .setMask _ fault value => fits1 fault && fits1 value
  | .ackFaults _ => true
  | .resumePrepare _ => true
  | .resume _ => true
  | .writeSetting _ item value => fits1 item && value.wf
  | .storeSettings _ block => fits1 block
  | .setProtect _ value => fits1 value
  | .readStatus _ => true
  | .readLeaf _ => true
  | .readApproach _ ap => fits1 ap
  | .readSignals _ => true
  | .readFaults _ => true
  | .readLink _ => true
  | .readSetting _ item copy => fits1 item && fits1 copy
  | .spanClockTick => true
  | .waterStaleExpiry => true
  | .trackCount _ _ => true
  | .illegalTransition _ => true
  | .sensorFaultActive _ => true
  | .sensorFaultInactive _ _ => true
  | .markEvent _ => true
  | .speedWindowEnd _ => true
  | .seatSwitchEstablished _ => true
  | .seatSwitchChange _ => true
  | .driveReadyChange _ => true
  | .driveFaultChange _ => true
  | .openLimitChange _ => true
  | .emergencyStopChange _ => true
  | .keyChange _ => true
  | .lockLimitsEstablished _ _ _ => true
  | .lockLimitChange _ _ _ => true
  | .lockTimeExpiry _ => true
  | .gateLimitsEstablished _ _ => true
  | .gateLimitChange _ _ => true
  | .gateTravelExpiry _ => true
  | .gateObstruction _ _ => true
  | .retryWaitExpiry _ => true
  | .holdFlashExpiry _ => true
  | .prewarnExpiry _ => true
  | .stopTimeExpiry _ => true
  | .clearMinExpiry _ => true
  | .clearAlertExpiry _ => true
  | .zoneDetectorChange _ _ _ => true
  | .flashClockTick => true
  | .lampProvingSpan _ _ => true
  | .signalLampProvingSpan _ _ _ => true
  | .beamEstablished _ _ => true
  | .beamBreak _ => true
  | .beamClear _ => true
  | .gapTimerExpiry _ => true
  | .callTimeExpiry => true
  | .lingerExpiry => true
  | .roadIntervalExpiry => true
  | .settleIntervalExpiry => true
  | .leadPeriod => true
  | .replyTimerExpiry => true
  | .receiveStart => true
  | .receiveEnd _ _ => true
  | .preambleEnd => true
  | .preambleAbandon => true
  | .sendEnd => true
  | .toneRepeat => true
  | .toneEnd => true
  | .haltToneRecognised => true
  | .freshnessExpiry => true
  | .startupWaitEnd => true
  | .resumePrepareLapse => true
  | .storeWriteComplete _ => true

end Sys2Proof
end

