-- ==== Sys2Proof/Tests/Slice0.lean ====
section
/-!
SUPPORT. Tests of single steps on small states, and for every statement with hypotheses a state that meets them. Expected
values come from the manual's worked examples and tables, or by hand from its rules.
-/

namespace Sys2Proof.Tests

open Sys2Proof Sys2Proof.Machine

set_option Elab.async false

/-! ### The states the tests start from -/

/-- The clearance table of the worked examples (chapter 2). -/
def table : List (Int × Int) := [(0, 550), (1000, 1400), (2500, 2800), (4000, 3900), (5500, 4700), (7000, 5200), (8200, 5400)]

/-- The geometry of the worked examples, with SEAT_COUNT and the tolerances. -/
def geometry : Geometry :=
  { seatCount := some 1200, scale := some 5800, fullOpen := some 8200, minOpen := some 1500, angleMargin := some 100,
    trackTol := some 24, skewSlow := some 60, skewHalt := some 150 }

/-- A configured set of items. -/
def items (r : Role) : Items :=
  { Items.default r with geometry := geometry, clearance := { Clearance.default with table := some table } }

/-- A raised gate, released. -/
def upGate (k : GateKind) : Gate :=
  if k = .unused then { Gate.reset .unused with limits := some ⟨true, false⟩ }
  else { Gate.reset k with state := .up, held := false, demand := .up, lamp := .dark, limits := some ⟨true, false⟩ }

/-- An open approach with clear zones. -/
def openAp : Approach :=
  { Approach.reset defaultKinds with
      closure := .openRoad, zones := ⟨some false, some false, some false⟩,
      gates := ⟨upGate .entry, upGate .entry, upGate .exit, upGate .exit, upGate .footway, upGate .unused⟩ }

/-- A track channel preset at SEAT_COUNT. -/
def presetTrack : Track := { Track.reset with counter := 1200, windowStart := 1200, ref := .preset }

/-- A lock with one limit shown. -/
def lockAt (st : LockState) (withdrawn driven : Bool) : Lock :=
  { state := st, timer := .stopped, limits := some ⟨withdrawn, driven⟩ }

/-- A configured SOLE part at rest, the road open, no fault. -/
def base : State :=
  { State.reset with
      justReset := false, clock := 100,
      settings := { Settings.powerOn with working := items .sole, protect := false,
                                          rejected := ⟨false, false, false, false, false, false, false⟩ },
      lines := { Lines.reset false false false with driveReady := true, key := some true },
      water := { source := .fresh, level := some 120, time := some 100, life := some 600 },
      pos := { p := presetTrack, c := presetTrack, source := .p, seat := some true },
      motion := { Motion.reset with state := .seatedLocked },
      locks := { tail := lockAt .driven false true, toe := lockAt .driven false true, toePending := false },
      apA := openAp, apB := openAp,
      signals := { Signals.reset with downstream := some false, upstream := some false },
      faults := { Faults.powerOn with recs := Vector.replicate 29 ⟨false, false, false⟩ } }

/-- The state of the tests is a settled one: nothing more follows. -/
theorem test_base_settled : base.settle = base := by decide +kernel

/-- The passages of the tests: two inbound, the second following the first, and an urgent one outbound. -/
def recs (a b c : RecState) : List Rec :=
  [{ number := 1, vessel := 40112, dir := .inbound, draft := 3100, priority := .routine, notBefore := none,
     follows := none, required := .angle 3141, state := a, changed := false, closedAt := none },
   { number := 2, vessel := 40250, dir := .inbound, draft := 1800, priority := .routine, notBefore := none,
     follows := some 1, required := .angle 1611, state := b, changed := false, closedAt := none },
   { number := 3, vessel := 40415, dir := .outbound, draft := 2600, priority := .urgent, notBefore := none,
     follows := none, required := .angle 2468, state := c, changed := false, closedAt := none }]

/-- The part at rest with the three passages booked. -/
def booked : State := { base with book := { records := recs .booked .booked .booked, counter := 4 } }

/-- A lowered gate, released. -/
def downGate (k : GateKind) : Gate :=
  if k = .unused then { Gate.reset .unused with limits := some ⟨false, true⟩ }
  else { Gate.reset k with state := .down, held := false, demand := .down, limits := some ⟨false, true⟩ }

/-- A closed approach with clear zones. -/
def shutAp : Approach :=
  { openAp with
      closure := .closed,
      gates := ⟨downGate .entry, downGate .entry, downGate .exit, downGate .exit, downGate .footway, downGate .unused⟩ }

/-- A track channel at a count. -/
def trackAt (n : Int) : Track :=
  { presetTrack with counter := n, windowStart := n, travel := some .up, ref := .referenced }

/-- The span held open on the worked target of 3241 cd, the outbound passage called. -/
def held : State :=
  { base with
      book := { records := recs .grouped .grouped .called, counter := 4 },
      pos := { p := trackAt 37822, c := trackAt 37822, source := .p, seat := some false },
      motion := { Motion.reset with state := .holding, kind := .opening, permit := true },
      locks := { tail := lockAt .withdrawn true false, toe := lockAt .withdrawn true false, toePending := false },
      apA := shutAp, apB := shutAp,
      signals :=
        { base.signals with
            inbound := { DirRec.reset with aspect := .prepare }, outbound := { DirRec.reset with aspect := .go },
            call := { serving := some .outbound, called := some 3, callTimer := .running 900000, passing := none,
                      exitSeen := false, lastEnd := none } },
      opening :=
        { Opening.reset 2 with number := 1, phase := .heldOpen, group := [3, 1, 2], target := some 3241, frozen := true,
                               runDir := some .outbound } }

/-- The held state too is a settled one. -/
theorem test_held_settled : held.settle = held := by decide +kernel

/-- A partner's STATUS fields with its leaf HOLDING at an angle. -/
def viewAt (angle : Int) : PartnerView :=
  { angle := angle, speed := 0, motion := 3, closure := 6, phase := 5, creep := false, closed := true, withdrawn := true,
    holding := true, seated := false, locked := false, haltActive := false, haltCause := false, seat := 1, runDir := 2,
    holdActive := false, target := some 3241, number := 1 }

/-- A link that is paired, with a view. -/
def paired (r : Role) (v : PartnerView) : Link :=
  { Link.reset r 200 with paired := true, view := some v, freshness := .running 200, startup := .expired }

/-- A state's items replaced. -/
def withItems (s : State) (i : Items) : State := { s with settings := { s.settings with working := i } }

/-- The held state of a LEAD, its FOLLOW holding too. -/
def heldLead : State :=
  { withItems held (items .lead) with role := .lead, apB := Approach.reset unusedKinds, link := paired .lead (viewAt 3241) }

/-- A FOLLOW part at rest on a fresh view. -/
def follow : State :=
  { withItems base (items .follow) with
      role := .follow, water := .reset, apB := Approach.reset unusedKinds, signals := .reset, book := .reset,
      locks := { tail := lockAt .driven false true, toe := (Locks.reset .follow).toe, toePending := false },
      link := paired .follow { viewAt 0 with motion := 0, closure := 0, phase := 0, target := none, runDir := 0 } }

/-- A part in span halt, entered on OVERSPEED, its resume prepared. -/
def halted : State :=
  { base with
      motion := { Motion.reset with state := .halted },
      faults := { base.faults with halted := true, entryFault := some .overspeed, enteredAt := some 90, prepare := true,
                                   lapse := .running 4000 } }

/-- The outcome of a command that answers a next state. -/
def run (c : Instr) (s : State) : State :=
  match exec c s with
  | .next t => t
  | _ => s

/-! ### Well-formed commands: each check refuses a term of its own -/

theorem test_wf_byte : Instr.wf (.retryGate .operator 256) = false := by decide
theorem test_wf_number : Instr.wf (.cancel .harbour 65536) = false := by decide
theorem test_wf_vessel : Instr.wf (.lookup .harbour (.vessel 4294967296)) = false := by decide
theorem test_wf_signed_high : Instr.wf (.setWater .harbour 32768) = false := by decide
theorem test_wf_signed_low : Instr.wf (.setWater .harbour (-32769)) = false := by decide
theorem test_wf_book : Instr.wf (.book .harbour 1 0 32768 0 ⟨0, 0⟩ 0) = false ∧
    Instr.wf (.book .harbour 1 256 100 0 ⟨0, 0⟩ 0) = false ∧ Instr.wf (.book .harbour 1 0 100 256 ⟨0, 0⟩ 0) = false ∧
    Instr.wf (.book .harbour 1 0 100 0 ⟨256, 0⟩ 0) = false ∧
    Instr.wf (.book .harbour 1 0 100 0 ⟨1, 4294967296⟩ 0) = false ∧
    Instr.wf (.book .harbour 1 0 100 0 ⟨0, 0⟩ 65536) = false := by decide
theorem test_wf_amend : Instr.wf (.amend .harbour 1 ⟨some 32768, none, none, false, none, false⟩) = false ∧
    Instr.wf (.amend .harbour 1 ⟨none, some 256, none, false, none, false⟩) = false ∧
    Instr.wf (.amend .harbour 1 ⟨none, none, some 4294967296, false, none, false⟩) = false ∧
    Instr.wf (.amend .harbour 1 ⟨none, none, none, false, some 65536, false⟩) = false := by decide
theorem test_wf_listBook : Instr.wf (.listBook .harbour 256 none) = false ∧
    Instr.wf (.listBook .harbour 1 (some 65536)) = false := by decide
theorem test_wf_setting : Instr.wf (.writeSetting .maintenance 1 (.num 2147483648)) = false ∧
    Instr.wf (.writeSetting .maintenance 8 (.table [(0, 32768)])) = false ∧
    Instr.wf (.writeSetting .maintenance 12 (.bands [⟨0, -1, 0, 0⟩])) = false ∧
    Instr.wf (.writeSetting .maintenance 12 (.bands [⟨0, 0, 65536, 0⟩])) = false ∧
    Instr.wf (.writeSetting .maintenance 12 (.bands [⟨0, 0, 0, 256⟩])) = false := by decide

/-! ### Frames (R152, R190, section 11.6) -/

/-- The check value of the nine bytes 31 to 39 by R152's polynomial and start. -/
theorem test_crc : crc16 [0x31, 0x32, 0x33, 0x34, 0x35, 0x36, 0x37, 0x38, 0x39] = 0x29B1#16 := by decide +kernel

/-- The request of section 11.6. -/
def waterFrame : List Byte := [0x06, 0x02, 0x09, 0x00, 0xFA, 0xF5]

/-- The request a frame carries, and the result of one that carries none. -/
def judged (bs : List Byte) : Option Instr × Option Result :=
  match judgeFrame bs with
  | .ok i => (some i, none)
  | .error r => (none, some r)

theorem test_frame_water : judged waterFrame = (some (.setWater .harbour 250), none) := by decide +kernel
theorem test_frame_book :
    judged [0x0F, 0x02, 0x01, 0x00, 0x00, 0x9C, 0xB0, 0x00, 0x0C, 0x1C, 0x01, 0x00, 0x00, 0x00, 0x79] =
      (some (.book .harbour 40112 0 3100 1 ⟨0, 0⟩ 0), none) := by decide +kernel
theorem test_frame_gate : judged [0x05, 0x01, 0x0F, 0x07, 0xE4] = (some (.retryGate .operator 7), none) := by decide +kernel
theorem test_frame_open : judged [0x04, 0x01, 0x16, 0xE5] = (some (.openSpan .operator), none) := by decide +kernel
theorem test_frame_creep : judged [0x04, 0x03, 0x0A, 0xEF] = (some (.enterCreep .maintenance), none) := by decide +kernel
theorem test_frame_mask : judged [0x06, 0x03, 0x1A, 0x16, 0x01, 0xC6] = (some (.setMask .maintenance 22 1), none) := by decide +kernel
theorem test_frame_setting : judged [0x07, 0x03, 0x1E, 0x01, 0x16, 0xA8, 0x19] =
    (some (.writeSetting .maintenance 1 (.num 5800)), none) := by decide +kernel
theorem test_frame_read : judged [0x05, 0x02, 0x23, 0x01, 0xD5] = (some (.readApproach .harbour 1), none) := by decide +kernel
theorem test_frame_check : judged [0x05, 0x02, 0x23, 0x01, 0xD6] = (none, some .badFrame) := by decide +kernel
theorem test_frame_unknown : judged [0x04, 0x02, 0x28, 0xD2] = (none, some .unknownRequest) := by decide +kernel

/-- Section 11.6: the frame is taken and worked at once, and answered 05 00 00 FA 01 once the port is READY. -/
theorem test_transaction :
    let t := run (.selectionEnd waterFrame) (run .selectionStart base)
    t.water.level = some 250 ∧ t.port.state = .working ∧ t.port.request = waterFrame ∧ t.elapse.port.state = .ready ∧
      t.elapse.port.response.map Response.frame = some [0x05, 0x00, 0x00, 0xFA, 0x01] := by
  decide +kernel

/-- R191: a request is judged by the state at its taking, and the events after it do not reach it. -/
theorem test_judged_at_taking :
    let t := run (.beamBreak .upstream) (run (.selectionEnd [0x06, 0x02, 0x03, 0x00, 0x03, 0xF2]) (run .selectionStart held))
    judged [0x06, 0x02, 0x03, 0x00, 0x03, 0xF2] = (some (.cancel .harbour 3), none) ∧
      t.port.response = some ⟨.ok, []⟩ ∧ t.book.records.map (·.state) = [.grouped, .grouped, .cancelled] ∧
      t.latched .unannouncedVessel = true := by decide +kernel

/-- R189: a reset ends a selection, and the bytes of its end are discarded, while a selection begun after it is taken. -/
theorem test_reset_ends_selection :
    let s := run (.reset false false false) (run .selectionStart base)
    let t := run (.selectionEnd waterFrame) s
    let u := run (.selectionEnd waterFrame) (run .selectionStart s)
    t.port = .reset ∧ t.water = .reset ∧ u.port.state = .working ∧ u.water.level = some 250 := by decide +kernel

/-! ### Worked examples -/

/-- Section 2.6.1: required angles at 120 cm. -/
theorem test_required : base.requiredFor 3100 = .angle 3141 ∧ base.requiredFor 1800 = .angle 1611 ∧
    base.requiredFor 5300 = .unachievable ∧ base.requiredFor 300 = .angle 0 ∧ base.requiredFor 380 = .angle 0 ∧
    base.requiredFor 381 = .angle 2 := by decide +kernel

/-- Section 2.6.2: the target count, and the angle on both sides of it. -/
theorem test_target : held.targetCount = some 37822 ∧ held.angle = 3241 ∧
    { held with pos := { held.pos with p := trackAt 37821 } }.angle = 3240 := by decide +kernel

/-- Section 1.7: the first booking, and the refusal of the third vessel. -/
theorem test_book :
    (run (.book .harbour 40112 0 3100 0 ⟨0, 0⟩ 0) base).book =
      { records := (recs .booked .booked .booked).take 1 |>.map fun r => { r with changed := true }, counter := 2 } ∧
    (run (.book .harbour 40377 1 5300 0 ⟨0, 0⟩ 0) base).port.response = some ⟨.clearanceExceeded, []⟩ := by decide +kernel

/-- The full book of section 1.8. -/
def fullBook : Book :=
  { counter := 65535,
    records := (List.range 24).map fun i =>
      let num := fun n st at_ =>
        { number := n, vessel := i, dir := .inbound, draft := 300, priority := .routine, notBefore := none,
          follows := none, required := .angle 0, state := st, changed := false, closedAt := at_ : Rec }
      match i with
      | 2 => num 65520 .passed (some 50210)
      | 5 => num 65527 .lapsed (some 49876)
      | 6 => num 65530 .cancelled (some 49876)
      | 14 => num 2 .cancelled (some 51002)
      | 3 => num 65535 .booked none
      | 4 => num 1 .booked none
      | _ => num (60000 + i) .booked none }

/-- Section 1.8: the oldest closed record goes, and the new one takes passage 3 at the end. -/
theorem test_book_full :
    let t := run (.book .harbour 99 0 300 0 ⟨0, 0⟩ 0) { base with book := fullBook, clock := 51500 }
    t.book.counter = 4 ∧ t.book.records.length = 24 ∧ (t.book.records.map (·.number))[23]? = some 3 ∧
      (t.book.records.map (·.number)).contains 65527 = false ∧ (t.book.records.map (·.number))[5]? = some 65530 := by
  decide +kernel

/-- Section 7.10, grouping: 6, 1, 2 there are 3, 1, 2 here, with the road interval elapsed. -/
theorem test_open :
    let t := run (.openSpan .operator) booked
    t.opening.group = [3, 1, 2] ∧ t.opening.target = some 3241 ∧ t.opening.runDir = some .outbound ∧
      t.opening.number = 1 ∧ t.opening.phase = .closingRoad ∧ t.apA.closure = .prewarn ∧ t.opening.credits = 2 := by
  decide +kernel

/-- Section 7.10, the rising tide: passage 1 is ejected, 2 stays, and the call stays. -/
theorem test_rising_tide :
    let t := run (.setWater .harbour 250) held
    t.book.records.map (fun r => (r.required, r.state)) =
        [(.angle 3319, .booked), (.angle 1750, .grouped), (.angle 2637, .called)] ∧
      t.opening.group = [3, 2] ∧ t.signals.outbound.aspect = .go ∧ t.signals.inbound.aspect = .prepare := by
  decide +kernel

/-- R9: an AMEND that carries no change has no effect, also while a record waits that the raised window would let in; R130:
the next step of the clock takes that record. -/
theorem test_window_raised :
    let late := (recs .booked .booked .grouped).take 1 |>.map fun r => { r with notBefore := some 500 }
    let s := { base with
      book := { records := late, counter := 4 }, horizon := 400,
      opening := { Opening.reset 2 with number := 1, phase := .pending, interval := .running } }
    let raised := run (.writeSetting .maintenance 46 (.num 500)) s
    let amended := run (.amend .harbour 1 ⟨none, none, none, false, none, false⟩) raised
    raised.items.channel.gatherWindow = 500 ∧ amended.book = s.book ∧ amended.port.response = some ⟨.ok, [0x0C, 0x45]⟩ ∧
      (run .spanClockTick raised).opening.group = [1] := by decide +kernel

/-- R139: after the window was lowered, the step of the clock that brings a not-before in takes the record, also where the
window had reached beyond it before. -/
theorem test_window_lowered :
    let late := (recs .booked .booked .grouped).take 1 |>.map fun r => { r with notBefore := some 201 }
    let s := { base with
      book := { records := late, counter := 4 }, horizon := 400,
      opening := { Opening.reset 2 with number := 1, phase := .pending, interval := .running } }
    let lowered := run (.writeSetting .maintenance 46 (.num 100)) s
    lowered.horizon = 200 ∧ lowered.opening.group = [] ∧ (run .spanClockTick lowered).opening.group = [1] := by
  decide +kernel

/-- R141 and R145: a join in an opening gone back to RAISING stops the linger timer that HELD_OPEN had started. -/
theorem test_join_stops_linger :
    let s := { held with
      motion := { held.motion with state := .raising },
      opening := { held.opening with phase := .raising, group := [], linger := .expired },
      signals := { held.signals with call := Signals.reset.call },
      book := { records := recs .cancelled .cancelled .cancelled, counter := 4 } }
    let t := run (.book .harbour 9 0 2600 0 ⟨0, 0⟩ 0) s
    t.opening.group = [4] ∧ t.opening.linger = .stopped := by decide +kernel

/-- R28: a level that is no older than its life stays FRESH; at its life it goes STALE. -/
theorem test_water_age :
    run .waterStaleExpiry { base with clock := 699 } = { base with clock := 699 } ∧
      (run .waterStaleExpiry { base with clock := 700 }).water.source = .stale := by decide +kernel

/-- R54: once both channels are failed, both are UNREFERENCED. -/
theorem test_both_lost :
    let c := { Track.reset with ref := .oneMark, firstMark := some ⟨0, .up⟩, failed := true }
    let t := run (.illegalTransition .p) { held with pos := { held.pos with c := c } }
    t.pos.c.ref = .unreferenced ∧ t.pos.p.ref = .unreferenced ∧ t.pos.source = .p ∧ t.latched .noPosition = true := by
  decide +kernel

/-- Section 6.10 at 800: the called vessel's entry. -/
theorem test_entry :
    let t := run (.beamBreak .upstream) held
    t.signals.call.passing = some 3 ∧ t.signals.call.called = none ∧ t.signals.outbound.aspect = .stop ∧
      (t.book.records.map (·.state)) = [.grouped, .grouped, .passing] := by decide +kernel

/-- Section 6.10 at 760: a break on the exit beam of the called direction is an unannounced vessel. -/
theorem test_unannounced :
    let t := run (.beamBreak .downstream) held
    t.latched .unannouncedVessel = true ∧ t.signals.call = held.signals.call ∧ t.faults.halted = false := by
  decide +kernel

/-- A part off its seat with channel P as given. -/
def tracking (p : Track) : State :=
  { base with motion := { Motion.reset with state := .stopped }, apA := shutAp, apB := shutAp,
              pos := { p := p, c := { Track.reset with travel := some .up }, source := .p, seat := some false } }

/-- Section 3.7.1: the gap of 1044 is type A with j = 1, and the preset of 5046 is confirmed at 5040. -/
theorem test_pair_rising :
    let p := { presetTrack with counter := 5046, travel := some .up, firstMark := some ⟨4002, .up⟩ }
    (run (.markEvent .p) (tracking p)).pos.p =
      { p with counter := 5040, windowStart := 1194, ref := .referenced, firstMark := none } := by decide +kernel

/-- Section 3.7.2: the gap of 1116, falling, is type A with j = 3, and the counter is set to 12000. -/
theorem test_pair_falling :
    let p := { Track.reset with counter := -1499, travel := some .down, ref := .oneMark, firstMark := some ⟨-383, .down⟩ }
    let t := run (.markEvent .p) (tracking p)
    t.pos.p.counter = 12000 ∧ t.pos.p.ref = .referenced ∧ t.pos.p.firstMark = none := by decide +kernel

/-- Section 3.7.4: a reversal forgets the first mark. -/
theorem test_reversal :
    let p := { presetTrack with counter := 4150, travel := some .up, firstMark := some ⟨4003, .up⟩ }
    let t := run (.trackCount .p .down) (tracking p)
    t.pos.p.counter = 4149 ∧ t.pos.p.firstMark = none ∧ t.pos.p.ref = .preset := by decide +kernel

/-- Section 3.7.5: the loss of P moves the source to C at creep speed and brings the halt. -/
theorem test_track_loss :
    let s := { held with pos := { held.pos with p := trackAt 23800, c := trackAt 23806 } }
    let t := run (.sensorFaultActive .p) s
    t.pos.source = .c ∧ t.motion.creep = true ∧ t.pos.p.failed = true ∧ t.latched .trackErrorP = true ∧
      t.faults.halted = true := by decide +kernel

/-- Section 4.10: the OVERSPEED thresholds of bands 1 and 2, and the classes of three rows. -/
theorem test_classes :
    let rise := fun (n : Int) (v : Int) =>
      { heldLead with motion := { heldLead.motion with state := .raising },
                      pos := { heldLead.pos with p := trackAt n }, link := paired .lead (viewAt v) }
    let at601 := rise 7993 592
    let at1812 := rise 21676 1745
    let at2941 := rise 34433 2910
    at601.angle = 601 ∧ at601.runClass = .full ∧ at1812.angle = 1812 ∧ at1812.runClass = .slow ∧
      at2941.angle = 2941 ∧ at2941.runClass = .slow ∧ at1812.speedThreshold = some 1725 ∧
      base.speedThreshold = some 805 := by decide +kernel

/-- Section 4.11: the seating of a teach at 1236, and at 1650. -/
def teaching (n : Int) : State :=
  { base with
      motion := { Motion.reset with state := .seatApproach, kind := .teach, teachStep := .lowering, permit := true,
                                    direction := .down, speedClass := .creep, brakeRelease := true },
      locks := { tail := lockAt .withdrawn true false, toe := lockAt .withdrawn true false, toePending := false },
      apA := shutAp, apB := shutAp,
      pos := { p := trackAt n, c := trackAt n, source := .p, seat := some false } }

theorem test_teach :
    let t := run (.seatSwitchChange true) (teaching 1236)
    t.items.geometry.seatCount = some 1236 ∧ t.motion.teachResult = .done ∧ t.motion.state = .seatedFree ∧
      t.angle = 0 ∧ t.settings.lastTarget = some (.block .geometry) ∧
      (run (.seatSwitchChange true) (teaching 1650)).motion.teachResult = .range := by decide +kernel

/-- An approach in ENTRY_LOWERING with gate A1 on its way down (section 5.9). -/
def lowering : State :=
  { booked with
      opening := { Opening.reset 2 with number := 1, phase := .closingRoad, group := [3], target := some 2568 },
      book := { records := recs .booked .booked .grouped, counter := 4 },
      apA := { openAp with
        closure := .entryLowering,
        gates := { openAp.gates with
          g0 := downGate .entry, g4 := downGate .footway,
          g1 := { upGate .entry with state := .lowering, demand := .down, travel := .running 11000,
                                     limits := some ⟨false, false⟩ } } } }

/-- Section 5.9 at 16: the released gate is reversed, its travel timed anew. -/
theorem test_obstruction :
    let g := (run (.gateObstruction ⟨.a, 1⟩ true) lowering).gate ⟨.a, 1⟩
    g.state = .raising ∧ g.reversing = true ∧ g.retryCount = 0 ∧ g.travel = .running 14000 := by decide +kernel

/-- Section 5.9 at 29: the last ENTRY gate is down, and CLEARING is entered. -/
theorem test_clearing :
    let a := (run (.gateLimitChange ⟨.a, 1⟩ ⟨false, true⟩) lowering).apA
    a.closure = .clearing ∧ a.stateTimer = .running 4000 ∧ a.alertTimer = .running 90000 ∧
      a.gates.g1.state = .down := by decide +kernel

/-- Section 9.7: a window of -181 counts in lowering halts the part on OVERSPEED; the next clears the condition alone. -/
theorem test_overspeed :
    let p := { trackAt 30000 with windowStart := 30181, travel := some .down }
    let s := { held with
      pos := { held.pos with p := p, c := p },
      motion := { held.motion with state := .lowering },
      opening := { held.opening with phase := .lowering, group := [] },
      book := { records := recs .booked .booked .booked, counter := 4 } }
    let t := run (.speedWindowEnd .p) s
    let u := run (.speedWindowEnd .p) { t with pos := { t.pos with p := { t.pos.p with windowStart := 30090 } } }
    t.speed = -1810 ∧ t.faults.halted = true ∧ t.faults.entryFault = some .overspeed ∧ t.latched .overspeed = true ∧
      u.speed = -900 ∧ (u.fault .overspeed).cond = false ∧ u.latched .overspeed = true := by decide +kernel

/-- Section 9.7 at 62: the resume ends the halt, the last entry kept. -/
theorem test_resume :
    let t := run (.resume .operator) halted
    t.faults.halted = false ∧ t.faults.entryFault = some .overspeed ∧ t.motion.state = .seatedLocked := by decide +kernel

/-- A reset of a part with a blank store, its lines inactive, gives the state after power-on. -/
theorem test_reset : run (.reset false false false) { State.reset with clock := 5 } = State.reset := by decide +kernel

/-! ### States that meet the hypotheses of the statements -/

theorem exec_run (c : Instr) (s : State) : exec c s = .next (run c s) := by
  obtain ⟨t, h⟩ := exec_next c s
  simp [run, h]

theorem all_aps {p : Ap → Prop} (a : p .a) (b : p .b) (x : Ap) : p x := by
  cases x
  · exact a
  · exact b

theorem all_gates {p : GateId → Prop} (a : ∀ i, p ⟨.a, i⟩) (b : ∀ i, p ⟨.b, i⟩) (g : GateId) : p g := by
  obtain ⟨x, i⟩ := g
  cases x
  · exact a i
  · exact b i

theorem quiet_faults {s : State} (h : s.faults.recs = Vector.replicate 29 ⟨false, false, false⟩) : s.FaultsRight := by
  intro f
  have : s.fault f = ⟨false, false, false⟩ := by simp [State.fault, h]
  simp [this]

/-- A state with one command waiting. -/
def queued (c : Instr) (s : State) : State := { s with pending := [c] }

theorem witness_StepRunsFront : (queued .spanClockTick base).pending = .spanClockTick :: [] := rfl

/-- A port that works a taken request. -/
def working : State :=
  { base with port := { Port.reset with state := .working, request := waterFrame, response := some ⟨.ok, [0x00, 0xFA]⟩ } }

theorem witness_StepIdle : working.pending = [] ∧ working.port.state = .working ∧ base.pending = [] ∧
    base.port.state ≠ .working := by decide +kernel

/-- A part whose store holds the items given, every check value matching. -/
def stored (i : Items) : State :=
  let sum := fun b => crc16 (i.blockBytes b)
  { State.reset with
      settings := { Settings.powerOn with
        stored := i, checks := ⟨sum .geometry, sum .clearance, sum .envelope, sum .road, sum .channel, sum .link, sum .masks⟩ } }

/-- The store busy with a block. -/
def busy (s : State) : State := { s with settings := { s.settings with writing := some (.block .geometry (items .sole)) } }

/-- Every block loads; a failed check value; a number out of range behind a good one; a condition across the items of each
block that has one; a write cut off. -/
theorem witness_ResetLoads :
    (run (.reset false false false) (stored (items .sole))).settings.rejected =
      ⟨false, false, false, false, false, false, false⟩ ∧
    (run (.reset false false false) State.reset).settings.rejected =
      ⟨true, true, true, true, true, true, true⟩ ∧
    (∀ q ∈ [({ items .sole with link := ⟨0, 99⟩ }, BlockId.link),
        ({ items .sole with geometry := { geometry with fullOpen := some 8200, minOpen := some 8201 } }, .geometry),
        ({ items .sole with geometry := { geometry with skewSlow := some 150 } }, .geometry),
        ({ items .sole with geometry := { geometry with fullOpen := some 8199 } }, .clearance),
        ({ items .sole with geometry := { geometry with fullOpen := some 8500 },
                            envelope := { Envelope.default with bands := [⟨8799, 700, 700, false⟩] } }, .envelope)],
      (run (.reset false false false) (stored q.1)).settings.rejected.at q.2 = true) ∧
    (stored (items .sole)).settings.writing = none ∧
    (busy (stored (items .sole))).settings.writing = some (.block .geometry (items .sole)) := by decide +kernel

/-- Each promise stands in a state that does not come from reset, and a step goes on from it. -/
theorem witness_LeafStaysRight : (queued .spanClockTick held).PermitExact ∧ (queued .spanClockTick held).DriveFollows ∧
    (queued .spanClockTick base).SeatedFollows ∧ (queued .spanClockTick halted).HaltHeld ∧
    base.motion.state = .seatedLocked ∧ halted.faults.halted = true ∧
    ∀ s, step (queued .spanClockTick s) = .next (run .spanClockTick { s with pending := [] }) := by
  refine ⟨?_, ⟨rfl, rfl⟩, ?_, ?_, rfl, rfl, fun s => exec_run .spanClockTick { s with pending := [] }⟩
  · unfold State.PermitExact
    decide +kernel
  · unfold State.SeatedFollows
    decide +kernel
  · unfold State.HaltHeld
    decide +kernel

theorem witness_AspectsStayFormed : (queued .spanClockTick held).AspectsFormed ∧ held.AspectsFormed ∧
    (held.dirRec .outbound).aspect = .go ∧ held.role = .sole ∧ heldLead.AspectsFormed ∧
    (heldLead.dirRec .outbound).aspect = .go ∧ heldLead.role ≠ .sole := by
  unfold State.AspectsFormed
  decide +kernel

/-- A gate on its way up, on a locked leaf. -/
def rising : State := base.setAp .a { openAp with gates := { openAp.gates with
  g1 := { upGate .entry with state := .raising, lamp := .red, travel := .running 9000, limits := some ⟨false, false⟩ } } }

theorem witness_RoadStaysRight : (queued .spanClockTick rising).GatesSafe ∧ (queued .spanClockTick rising).LampsFormed ∧
    (queued .spanClockTick rising).RetryBounded ∧ (rising.gate ⟨.a, 1⟩).state = .raising := by
  refine ⟨all_gates ?_ ?_, all_gates ?_ ?_, all_gates ?_ ?_, by decide +kernel⟩
  · decide +kernel
  · decide +kernel
  · intro i
    fin_cases i <;> first | exact fun _ => rfl | exact fun h => absurd h (by decide +kernel)
  · intro i
    fin_cases i <;> first | exact fun _ => rfl | exact fun h => absurd h (by decide +kernel)
  · unfold Gate.RetryRight
    decide +kernel
  · unfold Gate.RetryRight
    decide +kernel

theorem witness_FaultsStayRight : (queued .spanClockTick base).FaultsRight := quiet_faults rfl

theorem witness_HaltEndsOnlyByResume : halted.faults.halted = true ∧
    exec (.resume .operator) halted = .next (run (.resume .operator) halted) ∧
    (run (.resume .operator) halted).faults.halted = false ∧
    (run (.reset false false false) halted).faults.halted = false ∧
    (let s := run .selectionStart halted
     s.faults.halted = true ∧ judged [0x04, 0x01, 0x1D, 0xDE] = (some (.resume .operator), none) ∧
       (run (.selectionEnd [0x04, 0x01, 0x1D, 0xDE]) s).faults.halted = false) :=
  ⟨rfl, exec_run _ _, by decide +kernel, by decide +kernel, by decide +kernel⟩

/-- A latch of WATER_STALE whose condition has gone. -/
def latched : State := base.setFault .waterStale ⟨false, true, false⟩

theorem witness_LatchesStay : latched.latched .waterStale = true ∧
    exec (.ackFaults .operator) latched = .next (run (.ackFaults .operator) latched) ∧
    (run (.ackFaults .operator) latched).latched .waterStale = false ∧
    (run (.setMask .maintenance 22 1) latched).latched .waterStale = false ∧
    (let s := run .selectionStart latched
     s.latched .waterStale = true ∧ judged [0x04, 0x01, 0x1B, 0xE0] = (some (.ackFaults .operator), none) ∧
       (run (.selectionEnd [0x04, 0x01, 0x1B, 0xE0]) s).latched .waterStale = false) :=
  ⟨by decide +kernel, exec_run _ _, by decide +kernel, by decide +kernel, by decide +kernel⟩

theorem witness_BookStaysNumbered : (queued .spanClockTick held).BookNumbered ∧
    (queued .spanClockTick held).VesselsApart ∧ ({ base with book := fullBook } : State).BookNumbered := by
  unfold State.BookNumbered State.VesselsApart
  decide +kernel

/-- The passages of the tests follow on earlier live ones, and so do others behind them that follow none. -/
theorem follows_recs {s : State} {a b c : RecState} {rest : List Rec} (e : s.book.records = recs a b c ++ rest)
    (first : ∀ r ∈ (recs a b c).take 1, r.live = true) (free : ∀ r ∈ rest, r.follows = none) : s.FollowsEarlier := by
  intro xs r ys h _ n hn
  rw [e] at h
  rcases xs with _ | ⟨p, _ | ⟨q, _ | ⟨t, xs⟩⟩⟩ <;> simp [recs] at h
  · simp [← h.1] at hn
  · refine ⟨p, by simp, ?_⟩
    obtain ⟨rfl, rfl, -⟩ := h
    simp_all [recs]
  · simp [← h.2.2.1] at hn
  · have : r ∈ rest := by simp [h.2.2.2]
    simp [free r this] at hn

theorem witness_FollowsStayEarlier : (queued .spanClockTick booked).BookNumbered ∧
    (queued .spanClockTick booked).ClosedMarked ∧ (queued .spanClockTick booked).FollowsEarlier :=
  ⟨by unfold State.BookNumbered; decide +kernel, by unfold State.ClosedMarked; decide +kernel,
   follows_recs (rest := []) rfl (by decide +kernel) (by decide)⟩

/-- The held state with a fourth passage booked, wanted at a time. -/
def wanted (t : Nat) : State :=
  { held with
      horizon := 400,
      book :=
        { counter := 5,
          records := recs .grouped .grouped .called ++
            [{ number := 4, vessel := 40500, dir := .outbound, draft := 2600, priority := .routine, notBefore := some t,
               follows := none, required := .angle 2468, state := .booked, changed := false, closedAt := none }] } }

theorem sound_wanted (t : Nat) : (wanted t).OpeningSound := by
  refine ⟨?_, follows_recs rfl (by decide +kernel) (by simp), ?_⟩
  · unfold State.BookNumbered
    simp [wanted, recs]
  · unfold State.OneCall State.GroupExact State.GroupPlaced
    simp [wanted, recs, held, Opening.reset, show base.role = .sole from rfl]

theorem sound_held : held.OpeningSound := by
  refine ⟨?_, follows_recs (rest := []) rfl (by decide +kernel) (by decide), ?_⟩
  · unfold State.BookNumbered
    decide +kernel
  · unfold State.OneCall State.GroupExact State.GroupPlaced
    decide +kernel

theorem witness_GroupStaysExact : (queued .spanClockTick held).BookNumbered ∧ (queued .spanClockTick held).OneCall ∧
    (queued .spanClockTick held).GroupExact ∧ (queued .spanClockTick held).FollowEmpty ∧
    (queued .spanClockTick held).GroupPlaced ∧ (queued .lingerExpiry follow).FollowEmpty ∧
    (queued .lingerExpiry follow).GroupPlaced := by
  unfold State.BookNumbered State.OneCall State.GroupExact State.FollowEmpty State.GroupPlaced
  refine ⟨?_, ?_, ?_, ?_, ?_, ?_, ?_⟩ <;> decide +kernel

theorem witness_CreditsAndRolesStay : (queued .spanClockTick base).CreditsBounded ∧ base.role = .sole ∧
    (queued .spanClockTick base).LinkOff ∧ follow.role = .follow ∧ (queued .spanClockTick follow).FollowEmpty := by
  unfold State.CreditsBounded State.LinkOff State.FollowEmpty
  decide +kernel

/-- The leaf rises past the seat at the speed given. -/
def moving (v : Int) : State := tracking { presetTrack with speed := v, travel := some .up }

/-- A not-before enters the window at a step of the clock, and one a second later does not; the wrap of the clock. -/
theorem witness_ClocksAndLines : base.clock ≤ 4294967295 ∧ ({ base with clock := 4294967295 } : State).clock ≤ 4294967295 ∧
    (wanted 401).wake.OpeningSound ∧ (wanted 401).clock + 1 + (wanted 401).items.channel.gatherWindow = 401 ∧
    (wanted 401).horizon < 401 ∧ (∃ r ∈ (wanted 401).book.records, r.state = .booked ∧ r.notBefore = some 401) ∧
    (¬∃ r ∈ (wanted 402).book.records, r.state = .booked ∧ ∃ t, r.notBefore = some t ∧ t ≤ 401) ∧
    (moving 10).FaultsRight ∧ 0 < (moving 10).speed := by
  refine ⟨by decide +kernel, by decide +kernel, sound_wanted 401, by decide +kernel, by decide +kernel, by decide +kernel,
    ?_, quiet_faults rfl, by decide +kernel⟩
  rintro ⟨r, h, -, t, e, le⟩
  simp [wanted, recs] at h
  rcases h with rfl | rfl | rfl | rfl <;> simp at e
  omega

/-- R130, R139: a passage joins at the step of the clock at which its not-before enters the window, and not before. -/
theorem test_joins_at_tick : (run .spanClockTick (wanted 401)).opening.group = [3, 1, 2, 4] ∧
    (run .spanClockTick (wanted 402)).opening.group = [3, 1, 2] := by decide +kernel

/-- The sensor fault line active; the counter at both ends of its range; the counters about to differ by more than 24. -/
theorem witness_TrackCounts :
    ((tracking { Track.reset with sensorFault := true }).track .p).sensorFault = true ∧
    (let s := tracking { presetTrack with counter := 2147483647, travel := some .up }
     (s.track .p).sensorFault = false ∧ -2147483648 ≤ (s.track .p).counter ∧ (s.track .p).counter ≤ 2147483647) ∧
    (let s := tracking { presetTrack with counter := -2147483648, travel := some .down }
     (s.track .p).sensorFault = false ∧ -2147483648 ≤ (s.track .p).counter ∧ (s.track .p).counter ≤ 2147483647) ∧
    (let s := { held with pos := { held.pos with p := trackAt 37846 } }
     s.pos.p.holds = true ∧ s.pos.c.holds = true ∧ s.trackTol < |s.pos.p.counter + 1 - s.pos.c.counter| ∧
     (s.fault .trackDisagree).mask = false) := by decide +kernel

theorem witness_TrackErrors : (held.track .p).sensorFault = false ∧ held.FaultsRight ∧
    (let s := { held with pos := { held.pos with c := { Track.reset with failed := true } } }
     (s.track .p).sensorFault = false ∧ s.pos.c.failed = true) :=
  ⟨by decide +kernel, quiet_faults rfl, by decide +kernel⟩

theorem witness_TrackWindows : ((tracking { Track.reset with sensorFault := true }).track .p).sensorFault = true := by
  decide +kernel

/-- A first mark; a gap of 1009 and one of 4000, which are no pair; a REFERENCED channel 16 counts and 17 counts off mark 2. -/
theorem witness_MarksTaken :
    ((tracking Track.reset).track .p).travel = none ∧
    (let k := { Track.reset with travel := some .up, ref := .oneMark, firstMark := some ⟨2210, .up⟩, counter := 6210 }
     let s := tracking k
     k.sensorFault = false ∧ k.travel = some .up ∧ (s.pos.source = .c → s.pos.p.failed = true) ∧ k.ref = .oneMark ∧
       ∀ j : ℕ, j < 24 → 8 < |k.counter - 2210 - (1000 + 40 * j)| ∧ 8 < |k.counter - 2210 - (3000 - 40 * j)|) ∧
    (let k := { presetTrack with travel := some .down, firstMark := some ⟨3000, .down⟩, counter := 1991 }
     k.ref = .preset ∧
       ∀ j : ℕ, j < 24 → 8 < |(3000 : Int) - k.counter - (1000 + 40 * j)| ∧ 8 < |(3000 : Int) - k.counter - (3000 - 40 * j)|) ∧
    (trackAt 4016).ref = .referenced ∧ (∃ j : ℕ, j < 25 ∧ |(trackAt 4016).counter - 4000 * j| ≤ 16) ∧
    (∃ j : ℕ, j < 24 ∧ |(trackAt 5024).counter - (4000 * j + 1000 + 40 * j)| ≤ 16) ∧
    (∀ j : ℕ, j < 25 → 16 < |(trackAt 4017).counter - 4000 * j|) ∧
    (∀ j : ℕ, j < 24 → 16 < |(trackAt 4017).counter - (4000 * j + 1000 + 40 * j)|) := by
  decide +kernel

/-- Section 3.7.1's pair, one 8 counts long, and a preset 17 counts off. -/
theorem witness_MarkPairs :
    (let k := { presetTrack with counter := 5056, travel := some .up, firstMark := some ⟨4008, .up⟩ }
     k.sensorFault = false ∧ |k.counter - 4008 - (1000 + 40 * 1)| ≤ 8 ∧ |k.counter - (4000 * 1 + 1000 + 40 * 1)| ≤ 16) ∧
    (let k := { presetTrack with counter := 5057, travel := some .up, firstMark := some ⟨4009, .up⟩ }
     k.ref = .preset ∧ |k.counter - 4009 - (1000 + 40 * 1)| ≤ 8 ∧ 16 < |k.counter - (4000 * 1 + 1000 + 40 * 1)|) ∧
    (let k := { Track.reset with counter := -1499, travel := some .down, ref := .oneMark, firstMark := some ⟨-383, .down⟩ }
     k.ref = .oneMark ∧ |-383 - k.counter - (1000 + 40 * 3)| ≤ 8) ∧
    (let k := { Track.reset with counter := 3000, travel := some .up, ref := .oneMark, firstMark := some ⟨0, .up⟩ }
     k.ref = .oneMark ∧ |k.counter - 0 - (3000 - 40 * 0)| ≤ 8) := by decide +kernel

/-- A part whose seat has not been read. -/
def unread (st : MotionState) : State :=
  { base with motion := { Motion.reset with state := st }, pos := { p := .reset, c := .reset, source := .p, seat := none } }

theorem witness_SeatEstablished : base.pos.seat.isSome = true ∧ (unread .stopped).pos.seat = none ∧
    (unread .stopped).items.geometry.seatCount = some 1200 ∧ (unread .stopped).pos.p.sensorFault = false ∧
    (unread .stopped).pos.c.sensorFault = false ∧ 0 ≤ (unread .stopped).trackTol ∧
    (unread .stopped).wake.motion.state = .stopped ∧ (unread .lowering).wake.motion.state = .lowering ∧
    (unread .halted).wake.motion.state = .halted ∧
    (withItems (unread .stopped) (Items.default .sole)).items.geometry.seatCount = none := by decide +kernel

/-- R62: the reading, once established, sets the seated state of a leaf that a recovery has started down. -/
theorem test_seat_read_in_motion :
    let s : State := { unread .lowering with motion := { Motion.reset with state := .lowering, kind := .recovery } }
    let t := run (.seatSwitchEstablished true) s
    t.motion.state = .seatedLocked ∧ t.motion.kind = .none ∧
      (run (.seatSwitchEstablished true) (unread .halted)).motion.state = .halted := by decide +kernel

/-- A leaf coming down onto the seat, P referenced, C within 24 counts of SEAT_COUNT. -/
def seating (st : MotionState) (n : Int) : State :=
  { (tracking (trackAt n)) with
      motion := { Motion.reset with state := st, kind := .opening }
      pos := { p := trackAt n, c := presetTrack, source := .p, seat := some false } }

theorem witness_SeatChanges : base.pos.seat = some true ∧
    (let s := seating .seatApproach 1224
     s.pos.seat = some false ∧ s.items.geometry.seatCount = some 1200 ∧ s.pos.p.sensorFault = false ∧
       s.pos.c.sensorFault = false ∧ s.wake.motion.kind ≠ .teach ∧ (s.pos.source = .c → s.pos.p.failed = true) ∧
       0 ≤ s.trackTol ∧ |s.pos.p.counter - 1200| ≤ s.trackTol ∧ s.wake.motion.state = .seatApproach) ∧
    (seating .halted 1224).wake.motion.state = .halted := by decide +kernel

theorem witness_CreepRequests : base.asked.motion.state = .seatedLocked ∧
    (halted.asked.motion.state = .halted) ∧
    (let w := held.asked
     w.motion.state = .holding ∧ w.motion.correction = false ∧ held.pos.p.ref = .referenced ∧
       held.pos.c.ref = .referenced ∧ w.latched .trackErrorP = false ∧ w.latched .trackErrorC = false ∧
       w.latched .referenceMismatch = false ∧ w.latched .trackDisagree = false ∧ w.latched .noPosition = false) := by
  decide +kernel

/-- A free leaf on a closed road, ready for a teach. -/
def teachable : State :=
  { base with motion := { Motion.reset with state := .seatedFree }, apA := shutAp, apB := shutAp,
              pos := { base.pos with p := { presetTrack with ref := .referenced } } }

theorem witness_TeachStarts :
    (let w := teachable.asked
     (w.opening.phase = .idle ∧ (teachable.role = .follow → teachable.link.paired = true) ∧ w.motion.state = .seatedFree ∧
      (∀ x, teachable.usesAp x = true →
        (w.ap x).closure = .closed ∧ zonesClear (teachable.zoneUse x) (teachable.ap x).zones = true) ∧
      w.faults.halted = false ∧ (teachable.role ≠ .sole → teachable.link.paired = true) ∧
      teachable.lines.driveReady = true) ∧ teachable.settings.writing = none ∧ teachable.pos.p.ref = .referenced) ∧
    (busy base).settings.writing.isSome = true ∧ base.asked.motion.state ≠ .seatedFree ∧
    ({ teachable with pos := base.pos } : State).pos.p.ref ≠ .referenced ∧
    teachable.wake.motion.state = .seatedFree ∧ teachable.lines.key = some true ∧
    ({ teachable with motion := { teachable.motion with teachLockout := .running 1 } } : State).motion.teachLockout =
      .running 1 := by
  refine ⟨⟨⟨?_, ?_, ?_, all_aps ?_ ?_, ?_⟩, ?_⟩, ?_⟩ <;> decide +kernel

/-- A teach that ends 400 counts off, one that ends 401 off, an unfinished GEOMETRY, and a busy store. -/
theorem witness_TeachEnds :
    (let s := teaching 1600
     s.pos.seat = some false ∧ s.wake.motion.kind = .teach ∧ s.wake.motion.teachStep = .lowering ∧
       s.wake.motion.state = .seatApproach ∧ s.pos.p.ref = .referenced ∧ 0 ≤ s.trackTol ∧ s.pos.c.ref = .referenced ∧
       |s.pos.p.counter - s.seatCount| ≤ 400 ∧
       (∀ i ∈ BlockId.geometry.items, (s.items.put .seatCount (.num s.pos.p.counter)).get i ≠ none) ∧
       s.settings.writing = none ∧ (busy s).settings.writing ≠ none) ∧
    400 < |(teaching 1601).pos.p.counter - (teaching 1601).seatCount| ∧
    (let x := (Items.default .sole).put .seatCount (.num 1200)
     ∃ i ∈ BlockId.geometry.items, x.get i = none) := by decide +kernel

/-- StopSpan: nothing masked, not halted before, and halted before. -/
theorem witness_StopSpanHalts : (held.fault .operatorStop).mask = false ∧ held.wake.faults.halted = false ∧
    halted.HaltHeld := by
  unfold State.HaltHeld
  decide +kernel

/-- A leaf stopped off its seat on a closed road, in an opening that was LOWERING, the group on the list. -/
def stranded : State :=
  { held with motion := { Motion.reset with state := .stopped },
              opening := { held.opening with phase := .raising, suspended := true, resumePoint := some .raising } }

theorem witness_RecoverLowers :
    halted.asked.faults.halted = true ∧ base.asked.faults.halted = false ∧ base.asked.motion.state ≠ .stopped ∧
    (let w := stranded.asked
     w.faults.halted = false ∧ w.motion.state = .stopped ∧
      (∀ x, stranded.usesAp x = true →
        (w.ap x).closure = .closed ∧ zonesClear (stranded.zoneUse x) (stranded.ap x).zones = true) ∧
      (stranded.role ≠ .sole → stranded.link.paired = true) ∧ stranded.lines.driveReady = true ∧
      stranded.role ≠ .follow ∧ w.opening.phase = .raising ∧ w.opening.frozen = true ∧
      (¬∃ r ∈ w.book.records, r.state = .passing) ∧ stranded.pos.seat ≠ some true ∧
      (∃ r, 1 ∈ w.opening.group ∧ w.findRec 1 = some r ∧ r.state = .grouped) ∧
      ∃ r, 3 ∈ w.opening.group ∧ w.findRec 3 = some r ∧ r.state = .called) ∧
    (∃ r ∈ ({ stranded with book := { stranded.book with records := recs .grouped .grouped .passing } } : State).book.records,
      r.state = .passing) ∧
    ({ stranded with pos := { stranded.pos with seat := some true } } : State).pos.seat = some true ∧
    ({ follow with opening := { Opening.reset 2 with phase := .lowering } } : State).opening.phase = .lowering := by
  refine ⟨by decide +kernel, by decide +kernel, by decide +kernel, ⟨?_, ?_, all_aps ?_ ?_, ?_⟩, ?_⟩
  · decide +kernel
  · decide +kernel
  · decide +kernel
  · decide +kernel
  · exact ⟨by decide +kernel, rfl, by decide +kernel, rfl, rfl, by decide +kernel, by decide +kernel,
      ⟨(recs .grouped .grouped .called)[0], by decide +kernel⟩, ⟨(recs .grouped .grouped .called)[2], by decide +kernel⟩⟩
  · decide +kernel

/-- A FOLLOW stopped off its seat on a closed road, suspended in the phase it mirrors. -/
def strandedFollow (p : Phase) : State :=
  { follow with motion := { Motion.reset with state := .stopped }, apA := stranded.apA, pos := stranded.pos,
                opening := { Opening.reset 2 with phase := p, suspended := true, resumePoint := some p } }

theorem witness_RecoverLowers_follow :
    (let s := strandedFollow .locking
     let w := s.asked
     w.faults.halted = false ∧ w.motion.state = .stopped ∧
      (∀ x, s.usesAp x = true → (w.ap x).closure = .closed ∧ zonesClear (s.zoneUse x) (s.ap x).zones = true) ∧
      s.link.paired = true ∧ s.lines.driveReady = true ∧ s.role = .follow ∧ w.opening.phase = .locking ∧
      w.opening.suspended = true ∧ s.pos.seat ≠ some true) ∧
    ({ strandedFollow .locking with opening := Opening.reset 2 } : State).opening.suspended = false := by
  refine ⟨⟨?_, ?_, all_aps ?_ ?_, ?_⟩, ?_⟩ <;> decide +kernel

/-- R148, R149: the end of a FOLLOW's suspension by RECOVER_LOWER gives the step of the phase it then holds. -/
theorem test_recover_follow_gives_step :
    (run (.recoverLower .operator) (strandedFollow .locking)).opening.command = some .drive := by decide +kernel

/-- R74, R86: until its limits are established a lock reads JAMMED and a gate UNKNOWN, with the outputs off. -/
theorem test_unestablished_stay : (Locks.reset .sole).tail.withdraw 8 = (Locks.reset .sole).tail ∧
    (Locks.reset .sole).tail.drive 8 = (Locks.reset .sole).tail ∧
    ({ Gate.reset .entry with demand := .down }.pursue (base.roadCtx .a)).state = .unknown := by decide +kernel

/-- A lock unit with its TAIL as given. -/
def tailAt (k : Lock) : State := { base with locks := { base.locks with tail := k } }

theorem witness_LocksEstablished : follow.role = .follow ∧ base.wake.locks.tail.limits ≠ none ∧
    (tailAt { state := .jammed, timer := .stopped, limits := none }).wake.locks.tail.limits = none ∧
    (tailAt { state := .driving, timer := .running 1, limits := some ⟨false, false⟩ }).wake.locks.tail.timer =
      .running 1 := by decide +kernel

/-- One lock in each state of R77, its limits established; and one not established. -/
theorem witness_LockLimitsTaken :
    (tailAt { state := .jammed, timer := .stopped, limits := none }).wake.locks.tail.limits = none ∧
    (∀ st ∈ [LockState.driven, .withdrawing, .withdrawn, .driving, .jammed],
      ¬(LockId.tail = .toe ∧ (tailAt (lockAt st false false)).role = .follow) ∧
        (tailAt (lockAt st false false)).wake.locks.tail.limits ≠ none ∧
        (tailAt (lockAt st false false)).wake.locks.tail.state = st) ∧
    ¬(LockId.toe = .toe ∧ base.role = .follow) ∧ base.wake.locks.toe.limits ≠ none := by decide +kernel

/-- Codes 5 and 12 name no used gate; 0 and 10 do. -/
theorem witness_LaneRequests : (∀ g : GateId, g.code = 5 → base.gateUsed g = false) ∧
    (∀ g : GateId, g.code = 12 → base.gateUsed g = false) ∧
    (GateId.mk .a 0).code = 0 ∧ base.gateUsed ⟨.a, 0⟩ = true ∧
    (GateId.mk .b 4).code = 10 ∧ base.gateUsed ⟨.b, 4⟩ = true := by
  refine ⟨all_gates ?_ ?_, all_gates ?_ ?_, ?_⟩ <;> decide +kernel

/-- The part right after its settings, its road in RESTART. -/
def restarted : State :=
  { base with apA := { Approach.reset defaultKinds with zones := openAp.zones },
              apB := { Approach.reset defaultKinds with zones := openAp.zones } }

theorem witness_RoadRequests : halted.asked.faults.halted = true ∧ held.asked.faults.halted = false ∧
    held.asked.opening.phase ≠ .idle ∧
    (let w := restarted.asked
     w.faults.halted = false ∧ w.opening.phase = .idle ∧ (restarted.role = .follow → restarted.link.paired = true) ∧
      w.motion.state = .seatedLocked ∧
      ∀ x, restarted.usesAp x = true → (w.ap x).closure = .restart ∨ (w.ap x).closure = .closed) ∧
    base.asked.apA.closure = .openRoad ∧ base.asked.opening.phase = .idle := by
  refine ⟨by decide +kernel, by decide +kernel, by decide +kernel,
    ⟨by decide +kernel, by decide +kernel, by decide +kernel, by decide +kernel, all_aps ?_ ?_⟩, ?_⟩ <;> decide +kernel

/-- Gate A0 changed. -/
def gateAt (f : Gate → Gate) : State :=
  { base with apA := { openAp with gates := { openAp.gates with g0 := f openAp.gates.g0 } } }

theorem witness_GateRetried : (∀ g : GateId, g.code = 11 → base.gateUsed g = false) ∧
    (GateId.mk .a 0).code = 0 ∧ base.gateUsed ⟨.a, 0⟩ = true ∧
    (base.asked.gate ⟨.a, 0⟩).state ≠ .jammed ∧ (base.asked.gate ⟨.a, 0⟩).state ≠ .unknown ∧
    ((gateAt fun g => { g with state := .jammed }).asked.gate ⟨.a, 0⟩).state = .jammed ∧
    ((gateAt fun g => { g with state := .unknown }).asked.gate ⟨.a, 0⟩).state = .unknown := by
  refine ⟨all_gates ?_ ?_, ?_⟩ <;> decide +kernel

theorem witness_GatesEstablished : follow.usesAp .b = false ∧ (base.wake.gate ⟨.a, 0⟩).limits ≠ none ∧
    (State.reset.wake.gate ⟨.a, 0⟩).limits = none ∧ State.reset.usesAp .a = true ∧
    State.reset.gateUsed ⟨.a, 0⟩ = true ∧ (State.reset.wake.gate ⟨.a, 0⟩).state = .unknown ∧
    State.reset.gateUsed ⟨.a, 5⟩ = false ∧
    ((gateAt fun g => { g with state := .lowering, limits := none, travel := .running 5 }).wake.gate ⟨.a, 0⟩).state =
      .lowering := by decide +kernel

theorem witness_GateLimitsTaken :
    ∀ st ∈ [GateState.up, .down, .unknown, .lowering, .raising, .jammed],
      let s := gateAt fun g => { g with state := st }
      s.gateUsed ⟨.a, 0⟩ = true ∧ (s.gate ⟨.a, 0⟩).limits ≠ none ∧ (s.wake.gate ⟨.a, 0⟩).state = st ∧
        (s.wake.gate ⟨.a, 0⟩).travel.isRunning = false := by decide +kernel

/-- A HELD gate on its way down, away from its limits. -/
def falling (retries : Nat) : State :=
  gateAt fun g => { g with held := true, state := .lowering, demand := .down, retryCount := retries, travel := .running 9000,
                           limits := some ⟨false, false⟩, lamp := .red }

/-- R89: it meets its DOWN limit. R90: it is obstructed below and at the third retry. -/
theorem test_falling :
    let g := (run (.gateLimitChange ⟨.a, 0⟩ ⟨false, true⟩) (falling 2)).gate ⟨.a, 0⟩
    let h := (run (.gateObstruction ⟨.a, 0⟩ true) (falling 2)).gate ⟨.a, 0⟩
    g.state = .down ∧ g.travel = .stopped ∧ g.retryCount = 0 ∧ h.state = .unknown ∧ h.retryWait = .running 3000 ∧
      (run (.gateObstruction ⟨.a, 0⟩ true) (falling 3)).latched .gateJammed = true := by decide +kernel

theorem witness_GateEvents : base.gateUsed ⟨.a, 0⟩ = true ∧
    (let k := (lowering.wake).gate ⟨.a, 1⟩
     lowering.gateUsed ⟨.a, 1⟩ = true ∧ k.travel.isRunning = true ∧ k.state = .lowering) ∧
    (let k := (gateAt fun g => { g with travel := .running 1, limits := some ⟨false, false⟩ }).wake.gate ⟨.a, 0⟩
     k.travel.isRunning = true ∧ k.state = .up) ∧
    (let k := (gateAt fun g => { g with retryWait := .running 1, demand := .down }).wake.gate ⟨.a, 0⟩
     k.retryWait.isRunning = true ∧ k.demand = .down) ∧
    (let k := (falling 2).wake.gate ⟨.a, 0⟩
     k.state = .lowering ∧ k.held = true ∧ k.retryCount < 3 ∧ k.limits = some ⟨false, false⟩) ∧
    ((falling 3).wake.gate ⟨.a, 0⟩).retryCount = 3 ∧
    (let s := gateAt fun g => { g with state := .raising, demand := .down, reversing := true, limits := some ⟨true, false⟩ }
     let k := s.gate ⟨.a, 0⟩
     s.gateUsed ⟨.a, 0⟩ = true ∧ k.held = false ∧ s.motion.state = .seatedLocked ∧
       demandOf (s.ap .a).closure (s.ap .a).reopenStep ((s.kinds .a).at 0) k = .up) ∧
    (let k := lowering.gate ⟨.a, 1⟩
     k.held = false ∧ demandOf (lowering.ap .a).closure (lowering.ap .a).reopenStep ((lowering.kinds .a).at 1) k = .down ∧
       k.retryCount < 3) := by decide +kernel

/-- An approach in a timed closure state. -/
def timed (s : State) (c : Closure) : State :=
  { s with apA := { openAp with closure := c, stateTimer := .running 1 } }

theorem witness_ClosureTimers :
    ∀ c ∈ [Closure.prewarn, .stopping, .clearing], ∀ s ∈ [timed booked c, timed halted c],
      s.usesAp .a = true ∧ (s.wake.ap .a).closure = c ∧ (s.wake.ap .a).stateTimer = .running 1 ∧
        s.wake.faults.halted = decide (s = timed halted c) := by decide +kernel

theorem witness_ZonesAndLamps :
    (let s : State := { base with apA := { openAp with closure := .clearing, alertTimer := .running 1 } }
     s.usesAp .a = true ∧ (s.wake.ap .a).alertTimer = .running 1) ∧
    (base.zoneUse .a).at 0 = true ∧ (follow.zoneUse .b).at 0 = false ∧ base.usesAp .a = true ∧
    base.gateUsed ⟨.a, 0⟩ = true := by decide +kernel

/-- No selection; one over a working port and one over each other port; no byte and 0x00; a bad frame; the frame of section
11.6, and the same from a station that may not send it. -/
theorem witness_SelectionTaken :
    base.port.selection = none ∧ (run .selectionStart working).port.selection = some .working ∧
    (run .selectionStart base).port.selection = some .empty ∧
    (run .selectionStart working.elapse).port.selection = some .ready ∧
    ([0, 0] : List Byte).head? = some 0 ∧ ([] : List Byte).head? = none ∧
    waterFrame.head? ≠ none ∧ waterFrame.head? ≠ some 0 ∧
    judged waterFrame = (some (.setWater .harbour 250), none) ∧ permitted (.setWater .harbour 250) = true ∧
    judged [0x06, 0x03, 0x09, 0x00, 0xFA, 0xF4] = (some (.setWater .maintenance 250), none) ∧
    permitted (.setWater .maintenance 250) = false ∧ judged [0x06] = (none, some .badFrame) := by decide +kernel

/-- A request frame with its length and its check byte (R190). -/
def frameOf (station code : Nat) (p : List Byte) : List Byte :=
  let head := BitVec.ofNat 8 (p.length + 4) :: BitVec.ofNat 8 station :: BitVec.ofNat 8 code :: p
  head ++ [BitVec.ofNat 8 (256 - (head.map (·.toNat)).sum % 256)]

/-- Good frames of each form of R190, and those of an unknown code and of no station; frames too short, too long, cut off,
and of a wrong sum. -/
theorem witness_SelectionTaken_judged :
    (∀ bytes ∈ [frameOf 0 0x21 [], frameOf 4 0x21 [], frameOf 1 0 [], frameOf 1 0x28 [], frameOf 1 0x21 [],
        frameOf 1 0x0F [7], frameOf 2 3 [0, 3], frameOf 3 0x1A [22, 1], frameOf 2 9 [0xFF, 0xFA], frameOf 2 5 [1],
        frameOf 2 5 [1, 0, 3], frameOf 2 4 [0, 0, 3], frameOf 2 4 [1, 0, 0, 0x9C, 0xB0], frameOf 2 4 [2], frameOf 2 4 [],
        frameOf 2 1 [0, 0, 0x9C, 0xB0, 0, 0x0C, 0x1C, 1, 0, 0, 0],
        frameOf 2 1 [0, 0, 0x9C, 0xB0, 0, 0x0C, 0x1C, 1, 1, 0, 0, 0, 9, 0, 0], frameOf 2 2 [0x3F, 0, 3, 1, 0, 1, 0, 0, 0, 9, 0, 2],
        frameOf 3 0x1E [], frameOf 3 0x1E [59], frameOf 3 0x1E [1, 0x16, 0xA8], frameOf 3 0x1E [8, 1, 0, 0, 2, 0x26]],
      ∃ l st k rest, bytes = l :: st :: k :: rest ∧ 4 ≤ l.toNat ∧ l.toNat ≤ 64 ∧ l.toNat ≤ bytes.length ∧
        ((bytes.take l.toNat).map (·.toNat)).sum % 256 = 0) ∧
    ∀ bytes ∈ [[3, 1, 0xFC], List.replicate 65 (65 : Byte), [6, 2, 9, 0, 0xFA], [4, 1, 0x16, 0xE6]],
      let len := (bytes.map (·.toNat)).headD 0
      len < 4 ∨ 64 < len ∨ bytes.length < len ∨ ((bytes.take len).map (·.toNat)).sum % 256 ≠ 0 := by
  refine ⟨fun bytes h => ?_, by decide +kernel⟩
  simp only [List.mem_cons, List.not_mem_nil, or_false] at h
  rcases h with h | h | h | h | h | h | h | h | h | h | h | h | h | h | h | h | h | h | h | h | h | h <;> subst h <;>
    exact ⟨_, _, _, _, rfl, by decide +kernel, by decide +kernel, by decide +kernel, by decide +kernel⟩

theorem witness_ReadsAnswer : (0 : Nat) = (match Ap.a with | .a => 0 | .b => 1) ∧
    (1 : Nat) = (match Ap.b with | .a => 0 | .b => 1) ∧ 1 < 2 ∧ allItems[0]? = some .seatCount ∧
    allItems[58]? ≠ none ∧ 58 < 59 ∧ base.settings.rejected.at .geometry = false ∧
    State.reset.settings.rejected.at .geometry = true := by decide +kernel

/-- Two closed records of one vessel and a live one of another. -/
def history : State :=
  let r := fun (n v : Nat) (st : RecState) (c : Option Nat) =>
    ({ number := n, vessel := v, dir := .inbound, draft := 300, priority := .routine, notBefore := none, follows := none,
       required := .angle 0, state := st, changed := true, closedAt := c } : Rec)
  { base with book := { records := [r 1 7 .passed (some 5), r 2 7 .lapsed (some 5), r 3 8 .booked none], counter := 4 } }

theorem witness_BookRead : history.role ≠ .follow ∧
    (∃ xs r ys, history.wake.book.records = xs ++ r :: ys ∧ r.number = 2 ∧ (∀ q ∈ xs, q.number ≠ 2) ∧ r.vessel = 7 ∧
      (∀ q ∈ history.wake.book.records, q.vessel = 7 → q.live = false) ∧
      (∀ q ∈ xs, q.vessel = 7 → q.closedAt.getD 0 ≤ r.closedAt.getD 0) ∧
      ∀ q ∈ ys, q.vessel = 7 → q.closedAt.getD 0 < r.closedAt.getD 0) ∧
    (∃ xs r ys, history.wake.book.records = xs ++ r :: ys ∧ r.vessel = 8 ∧ r.live = true ∧
      ∀ q ∈ xs, q.vessel = 8 → q.live = false) ∧
    (∀ r ∈ history.wake.book.records, r.number ≠ 4) ∧ (∀ r ∈ history.wake.book.records, r.vessel ≠ 9) ∧
    128 % 128 = 0 ∧ 127 % 128 ≠ 0 := by
  refine ⟨by decide +kernel, ⟨history.book.records.take 1, history.book.records[1], history.book.records.drop 2, ?_⟩,
    ⟨history.book.records.take 2, history.book.records[2], [], ?_⟩, ?_⟩ <;> decide +kernel

theorem witness_RequestsRefused : Station.operator ≠ .harbour ∧ Station.harbour ≠ .operator ∧
    Station.harbour ≠ .maintenance ∧ follow.role = .follow := by decide +kernel

/-- Twenty-four live records. -/
def liveBook : Book := { fullBook with records := fullBook.records.map fun r => { r with state := .booked, closedAt := none } }

/-- A part that waits for its settings; one at rest; a full book; a book full of live records. -/
theorem witness_BookPlaced :
    (let s := { base with faults := { base.faults with recs := base.faults.recs.set 19 ⟨true, true, false⟩ } }
     (s.asked.fault .unconfigured).cond = true ∧ s.role ≠ .follow) ∧
    (booked.asked.fault .unconfigured).cond = false ∧ booked.BookNumbered ∧ booked.role ≠ .follow ∧
    (∃ r ∈ booked.asked.book.records, r.number = 2 ∧ r.live = true ∧ r.dir.code = 0) ∧
    (∃ r ∈ booked.asked.book.records, r.live = true ∧ r.vessel = 40112) ∧
    (¬∃ r ∈ booked.asked.book.records, r.live = true ∧ r.vessel = 9) ∧
    booked.asked.requiredFor 100 = .angle 0 ∧ booked.asked.requiredFor 6000 = .unachievable ∧
    booked.asked.book.records.length < 24 ∧ ({ base with book := fullBook } : State).BookNumbered ∧
    fullBook.records.length = 24 ∧ (∃ r ∈ fullBook.records, r.live = false) ∧
    ({ base with book := liveBook } : State).BookNumbered ∧ liveBook.records.length = 24 ∧
    ∀ r ∈ liveBook.records, r.live = true := by
  unfold State.BookNumbered
  decide +kernel

theorem witness_BookPlaced_joins : booked.asked.FollowsEarlier ∧ held.asked.FollowsEarlier ∧ held.BookNumbered ∧
    held.role ≠ .follow ∧ (held.asked.fault .unconfigured).cond = false ∧
    (run (.book .harbour 9 1 2600 0 ⟨0, 0⟩ 0) held).opening.group = [3, 1, 2, 4] :=
  ⟨follows_recs (rest := []) rfl (by decide +kernel) (by decide), sound_held.2.1, sound_held.1, by decide +kernel,
   by decide +kernel, by decide +kernel⟩

/-- A passage of the held list with a draft amended: to one that needs no opening it returns, to another it stays. -/
theorem test_amend_tested :
    (run (.amend .harbour 2 ⟨some 100, none, none, false, none, false⟩) held).opening.group = [3, 1] ∧
    (run (.amend .harbour 2 ⟨some 1900, none, none, false, none, false⟩) held).opening.group = [3, 1, 2] := by
  decide +kernel

theorem witness_AmendWritten_joins : booked.asked.FollowsEarlier ∧ held.asked.OpeningSound ∧
    (∃ r ∈ booked.asked.book.records, r.number = 1 ∧ r.state = .booked) ∧
    (∃ r ∈ held.asked.book.records, r.number = 2 ∧ r.state = .grouped) :=
  ⟨follows_recs (rest := []) rfl (by decide +kernel) (by decide), sound_held, by decide +kernel, by decide +kernel⟩

theorem witness_AmendWritten : held.BookNumbered ∧ held.role ≠ .follow ∧
    held.asked.book.records = (recs .grouped .grouped .called).take 1 ++ (recs .grouped .grouped .called)[1] ::
      (recs .grouped .grouped .called).drop 2 ∧ (recs .grouped .grouped .called)[1].number = 2 ∧
    (recs .grouped .grouped .called)[1].state = .grouped ∧ (recs .grouped .grouped .called)[2].state = .called ∧
    (∀ r ∈ held.asked.book.records, r.number ≠ 4) ∧
    (∃ q ∈ (recs .grouped .grouped .called).take 1, q.number = 1 ∧ q.live = true ∧ q.dir = .inbound) ∧
    held.asked.requiredFor 6000 = .unachievable ∧ held.asked.requiredFor 100 = .angle 0 ∧
    history.book.records.head?.map Rec.live = some false ∧ history.BookNumbered := by
  unfold State.BookNumbered
  decide +kernel

/-- A vessel in passage, seen at its exit, with the beams as given. -/
def passing (dir : Dir) (down up : Bool) : State :=
  let r := (recs .grouped .grouped .passing).map fun q => if q.number = 3 then { q with dir := dir } else q
  { held with
      book := { records := r, counter := 4 },
      signals :=
        { held.signals with
            downstream := some down, upstream := some up,
            call := { serving := some dir, called := none, callTimer := .stopped, passing := some 3, exitSeen := true,
                      lastEnd := none } } }

theorem witness_RecordCloses : held.BookNumbered ∧ held.role ≠ .follow ∧
    (∃ r ∈ held.wake.book.records, r.number = 1 ∧ r.state = .grouped) ∧
    (∃ r ∈ held.wake.book.records, r.state = .called ∧ held.wake.signals.call.called = some r.number ∧
      held.wake.signals.call.callTimer.isRunning = true) ∧
    (∃ r ∈ booked.wake.book.records, r.state = .booked) ∧
    (∃ r ∈ (passing .outbound true false).wake.book.records, r.state = .passing ∧
      (passing .outbound true false).wake.signals.call.passing = some r.number ∧
      (passing .outbound true false).wake.signals.call.exitSeen = true ∧
      (passing .outbound true false).wake.signals.downstream = some true ∧
      (passing .outbound true false).wake.signals.upstream = some false) ∧
    (∃ r ∈ (passing .inbound false true).wake.book.records, r.state = .passing ∧
      (passing .inbound false true).wake.signals.call.passing = some r.number ∧
      (passing .inbound false true).wake.signals.downstream = some false ∧
      (passing .inbound false true).wake.signals.upstream = some true) ∧
    (passing .outbound true false).BookNumbered := by
  unfold State.BookNumbered
  decide +kernel

/-- The refusals of CANCEL and MARK_PASSED; a list that a closing empties, in PENDING and in HELD_OPEN. -/
theorem witness_RecordCloses_refused : held.wake.FollowsEarlier ∧ (∀ r ∈ held.asked.book.records, r.number ≠ 4) ∧
    (∃ r, (passing .outbound true false).asked.findRec 3 = some r ∧ r.state = .passing) ∧
    (∃ r, history.asked.findRec 1 = some r ∧ r.live = false ∧ r.state ≠ .passing) ∧ history.role ≠ .follow ∧
    1 ∉ booked.wake.opening.group ∧ 1 ∈ held.wake.opening.group ∧
    ∀ p ∈ [Phase.pending, .heldOpen],
      let s : State := { held with opening := { held.opening with phase := p, group := [1] } }
      s.wake.opening.group ≠ [] ∧ s.wake.opening.group.filter (fun n => n != 1) = [] ∧ s.wake.opening.phase = p :=
  ⟨sound_held.2.1, by decide +kernel, ⟨(recs .grouped .grouped .passing)[2], by decide +kernel⟩,
   ⟨history.book.records[0], by decide +kernel⟩, by decide +kernel, by decide +kernel, by decide +kernel,
   by decide +kernel⟩

theorem witness_ForgetRemoves : history.BookNumbered ∧ follow.role = .follow ∧ follow.BookNumbered ∧
    history.role ≠ .follow ∧ (∀ r ∈ history.asked.book.records, r.number ≠ 9) ∧
    (∃ r ∈ history.asked.book.records, r.number = 3 ∧ r.live = true) ∧
    (∃ xs r ys, history.asked.book.records = xs ++ r :: ys ∧ r.number = 2 ∧ r.live = false) := by
  refine ⟨by unfold State.BookNumbered; decide +kernel, by decide +kernel, by unfold State.BookNumbered; decide +kernel,
    by decide +kernel, by decide +kernel, by decide +kernel,
    ⟨history.book.records.take 1, history.book.records[1], history.book.records.drop 2, by decide +kernel⟩⟩

/-- A full book, every record changed. -/
def changedBook : Book := { fullBook with records := fullBook.records.map fun r => { r with changed := true } }

/-- Nothing to tell; 16 told and 8 left. -/
theorem witness_ChangedListed : booked.BookNumbered ∧ booked.role ≠ .follow ∧
    (booked.asked.book.records.filter Rec.changed).map (·.number) = [] ++ [] ∧
    (let s : State := { base with book := changedBook }
     s.BookNumbered ∧ s.role ≠ .follow ∧
      (s.asked.book.records.filter Rec.changed).map (·.number) =
        (changedBook.records.take 16).map (·.number) ++ (changedBook.records.drop 16).map (·.number) ∧
      ((changedBook.records.take 16).map (·.number)).length = 16) := by
  unfold State.BookNumbered
  decide +kernel

/-- A level given now; one whose age is its life across a wrap of the clock. -/
theorem witness_WaterTaken : base.role ≠ .follow ∧ base.water.source = .fresh ∧ base.water.time = some 100 ∧
    base.water.life = some 600 ∧ (base.clock + 4294967296 - 100) % 4294967296 < 600 ∧
    600 ≤ (400 + 4294967296 - 4294967096) % 4294967296 ∧ base.FaultsRight ∧
    (base.fault .waterStale).mask = false ∧ State.reset.water.source ≠ .fresh ∧ State.reset.role ≠ .follow :=
  ⟨by decide +kernel, by decide +kernel, by decide +kernel, by decide +kernel, by decide +kernel, by decide +kernel,
   quiet_faults rfl, by decide +kernel, by decide +kernel, by decide +kernel⟩

/-- R140: a level of 1000 puts the called passage and another of the held list above the frozen target of 3241; both return,
and the call ends. -/
theorem test_water_returns :
    let t := run (.setWater .operator 1000) held
    t.book.records.map (·.state) = [.booked, .grouped, .booked] ∧ t.opening.group = [2] ∧
      t.signals.call.called = none ∧ t.signals.call.lastEnd = some .outbound := by decide +kernel

theorem witness_WaterTaken_reevaluated : held.wake.OpeningSound ∧ held.role ≠ .follow ∧ held.effectiveWater = 120 ∧
    held.water.source = .fresh ∧ held.items.clearance.waterHigh ≠ 120 :=
  ⟨sound_held, by decide +kernel, by decide +kernel, by decide +kernel, by decide +kernel⟩

/-- A part at rest with its road closed, so that every item may be written. -/
def serviced : State := { base with apA := shutAp, apB := shutAp }

/-- A booked passage wanted at the horizon of the gathering window to the second. -/
def windowed (t : Nat) : State :=
  { base with book := { records := (recs .booked .booked .booked).take 1 |>.map fun r => { r with notBefore := some t },
                        counter := 2 } }

/-- The passages of the tests with the second, which follows the first, made URGENT. -/
def led : State :=
  { base with book := { counter := 4, records := (recs .booked .booked .booked).map fun r =>
      if r.number = 2 then { r with priority := .urgent } else r } }

/-- The passages of `led`. -/
def ledRec (i : Fin 3) : Rec := led.book.records[i.val]

theorem ready_led (i : Fin 3) : Ready led.asked none (ledRec i) := by
  refine ⟨?_, ?_, ?_, ?_⟩
  · revert i; decide +kernel
  · revert i; decide +kernel
  · match i with
    | 0 => exact ⟨3141, by decide +kernel, by decide, fun _ h => by cases h⟩
    | 1 => exact ⟨1611, by decide +kernel, by decide, fun _ h => by cases h⟩
    | 2 => exact ⟨2468, by decide +kernel, by decide, fun _ h => by cases h⟩
  · intro t h
    have e : ∀ i, (ledRec i).notBefore = none := by decide +kernel
    rw [e] at h
    cases h

theorem eligible_led : Eligible led.asked none (ledRec 0) ∧ Eligible led.asked none (ledRec 1) := by
  have h : Eligible led.asked none (ledRec 0) := .free _ (ready_led 0) fun n h => by
    have e : (ledRec 0).follows = none := by decide +kernel
    rw [e] at h
    cases h
  exact ⟨h, .led (ledRec 0) _ (ready_led 1) h (by decide +kernel)⟩

/-- The window's end is in the window, one second later is not. -/
theorem ready_windowed : Ready (windowed 400).asked none ((windowed 400).book.records[0]) ∧
    ¬Ready (windowed 401).asked none ((windowed 401).book.records[0]) := by
  refine ⟨⟨by decide +kernel, by decide +kernel, ⟨3141, by decide +kernel, by decide, fun _ h => by cases h⟩, ?_⟩, ?_⟩
  · intro t h
    obtain rfl : 400 = t := Option.some.inj h
    decide +kernel
  · rintro ⟨-, -, -, h⟩
    exact absurd (h 401 (by decide +kernel)) (by decide +kernel)

/-- An eligible passage, one that another leads, one set aside; no passage; a list that is full. -/
theorem witness_OpenStarts : booked.BookNumbered ∧ booked.role ≠ .follow ∧ booked.asked.FollowsEarlier ∧
    held.asked.opening.phase ≠ .idle ∧ held.BookNumbered ∧ halted.BookNumbered ∧ halted.asked.opening.phase = .idle ∧
    halted.asked.faults.halted = true ∧
    (booked.asked.fault .unconfigured).cond = false ∧ booked.asked.opening.phase = .idle ∧
    booked.asked.faults.halted = false ∧ booked.asked.motion.state = .seatedLocked ∧
    (booked.role = .lead → booked.link.paired = true) ∧ booked.asked.opening.group.length < 6 ∧
    base.BookNumbered ∧ (∀ r, ¬Eligible base.asked none r) ∧
    teachable.asked.motion.state ≠ .seatedLocked ∧ teachable.BookNumbered ∧
    (led.BookNumbered ∧ led.asked.opening = booked.asked.opening ∧ Eligible led.asked none (ledRec 0) ∧
      Leads led.asked none (ledRec 0) (ledRec 1) ∧ SetAside led.asked none (ledRec 1)) ∧
    (run (.openSpan .operator) led).opening.group = [3, 1, 2] ∧
    (let s : State := { booked with opening := { booked.opening with group := [11, 12, 13, 14, 15, 16] } }
     6 ≤ s.asked.opening.group.length) := by
  have lead : Leads led.asked none (ledRec 0) (ledRec 1) :=
    .next _ _ eligible_led.1 eligible_led.2 (by decide +kernel) (by decide +kernel)
  unfold State.BookNumbered
  refine ⟨?_, ?_, witness_FollowsStayEarlier.2.2, ?_, ?_, ?_, ?_, ?_, ?_, ?_, ?_, ?_, ?_, ?_, ?_, ?_, ?_, ?_,
    ⟨?_, ?_, eligible_led.1, lead, ledRec 0, lead, .inl ⟨?_, ?_⟩⟩, ?_, ?_⟩
  case refine_15 =>
    intro r h
    have e : base.asked.book.records = [] := by decide +kernel
    have m : r ∈ base.asked.book.records := by cases h with | free _ h _ => exact h.1 | led _ _ h _ _ => exact h.1
    rw [e] at m
    cases m
  all_goals decide +kernel

/-- A SOLE part with no fault latched and no suspension may advance. -/
theorem may_advance {s : State} (sole : s.role = .sole) (on : s.opening.suspended = false)
    (h : s.faults.recs = Vector.replicate 29 ⟨false, false, false⟩) : s.MayAdvance :=
  ⟨by simp [sole], on, fun f _ => by simp [State.latched, State.fault, h], fun h => by simp [sole] at h⟩

/-- An opening in PENDING with its group on the list, its settle timer, its interval and its credits as given. -/
def waiting (settle : Timer) (interval : IntervalState) (credits : Nat) : State :=
  run (.openSpan .operator)
    { booked with opening := { booked.opening with settle := settle, interval := interval, credits := credits } }

/-- R133, R134: the start at no cost, on a credit, and not yet. -/
theorem test_start : (run .settleIntervalExpiry (waiting (.running 1) .elapsed 2)).opening.credits = 2 ∧
    (let t := run .settleIntervalExpiry (waiting (.running 1) .running 2)
     t.opening.phase = .closingRoad ∧ t.opening.credits = 1 ∧ t.opening.interval = .cut) ∧
    (run .settleIntervalExpiry (waiting (.running 1) .running 0)).opening.phase = .pending := by decide +kernel

theorem witness_OpenStarts_tested :
    (∀ s ∈ [waiting (.running 1) .elapsed 2, waiting (.running 1) .running 2, waiting .stopped .running 0],
      s.Settled ∧ s.MayAdvance ∧ s.opening.phase = .pending ∧ (s.usesAp .a = true ∧ (s.ap .a).closure = .openRoad) ∧
        ∃ r, Grouped s r ∧ r.priority = .urgent) ∧
    (let t := (waiting .stopped .running 0).settle
     t.opening.phase = .pending ∧ t.opening.settle = .stopped ∧ t.opening.interval = .running ∧ t.MayAdvance) := by
  refine ⟨?_, by decide +kernel, by decide +kernel, by decide +kernel,
    may_advance (by decide +kernel) (by decide +kernel) (by decide +kernel)⟩
  intro s h
  simp only [List.mem_cons, List.not_mem_nil, or_false] at h
  rcases h with rfl | rfl | rfl <;>
    exact ⟨⟨by decide +kernel, by decide +kernel⟩,
      may_advance (by decide +kernel) (by decide +kernel) (by decide +kernel), by decide +kernel, by decide +kernel,
      { (recs .grouped .grouped .grouped)[2] with changed := true }, ⟨3, by decide +kernel, by decide +kernel⟩, by decide +kernel⟩

/-- A state with its opening in a phase. -/
def inPhase (s : State) (p : Phase) (linger : Timer) : State :=
  { s with opening := { s.opening with phase := p, linger := linger } }

/-- Each phase with its condition met. -/
theorem witness_OpeningRequests_advance :
    held.Settled ∧ held.MayAdvance ∧ ¬base.PhaseDone ∧
    ∀ s ∈ [inPhase serviced .closingRoad .stopped, inPhase held .unlocking .stopped, inPhase held .raising .stopped,
        inPhase held .heldOpen .expired, inPhase base .lowering .stopped, inPhase base .locking .stopped,
        inPhase base .reopeningRoad .stopped],
      s.MayAdvance ∧ s.PhaseDone := by
  have sole : ∀ (s : State), s.role = .sole → ∀ p : Prop, s.role = .lead → p := fun s h p k => by simp [h] at k
  refine ⟨⟨by decide +kernel, by decide +kernel⟩, may_advance rfl rfl rfl, id, ?_⟩
  intro s h
  simp only [List.mem_cons, List.not_mem_nil, or_false] at h
  rcases h with rfl | rfl | rfl | rfl | rfl | rfl | rfl <;> refine ⟨may_advance rfl rfl rfl, ?_⟩
  · exact ⟨all_aps (by decide +kernel) (by decide +kernel), sole _ rfl _⟩
  · exact ⟨rfl, fun _ => rfl, sole _ rfl _⟩
  · exact ⟨rfl, sole _ rfl _⟩
  · exact .inl rfl
  · exact ⟨.inr rfl, sole _ rfl _⟩
  · exact ⟨rfl, sole _ rfl _⟩
  · exact ⟨all_aps (by decide +kernel) (by decide +kernel), sole _ rfl _⟩

/-- The openings CLOSE_NOW, ABORT_OPENING and CONTINUE find. -/
theorem witness_OpeningRequests : held.role ≠ .follow ∧ held.asked.opening.phase = .heldOpen ∧
    (∃ r, 3 ∈ held.asked.opening.group ∧ held.asked.findRec 3 = some r ∧ r.state = .called) ∧
    base.asked.opening.phase ≠ .heldOpen ∧ halted.asked.faults.halted = true ∧ lowering.role ≠ .follow ∧
    lowering.asked.faults.halted = false ∧ lowering.asked.opening.phase = .closingRoad ∧
    (let w := stranded.asked
     w.faults.halted = false ∧ w.opening.suspended = true ∧ w.motion.state = .stopped ∧
      w.opening.resumePoint = some .raising ∧ stranded.pos.source = .p ∧ stranded.motion.creep = false ∧
      (stranded.role ≠ .sole → stranded.link.paired = true) ∧ stranded.pos.p.ref = .referenced) ∧
    ({ stranded with pos := base.pos } : State).pos.p.ref ≠ .referenced ∧
    ({ held with opening := { held.opening with linger := .running 1 } } : State).wake.opening.linger = .running 1 ∧
    ({ base with opening := { Opening.reset 1 with interval := .running } } : State).wake.opening.interval = .running := by
  refine ⟨by decide +kernel, by decide +kernel, ⟨(recs .grouped .grouped .called)[2], by decide +kernel⟩, ?_⟩
  decide +kernel

theorem witness_FaultRequests : FaultId.waterStale.cls = .warning ∧ FaultId.gateJammed.cls ≠ .warning ∧
    FaultId.partnerStale.cls = .warning ∧ FaultId.partnerStale.index.val = 28 ∧
    halted.faults.lapse = .running 4000 := by decide +kernel

theorem witness_ResumePrepared : Station.harbour ≠ .operator ∧ base.wake.faults.halted = false ∧
    halted.wake.faults.halted = true := by decide +kernel

/-- Halted with nothing standing; not prepared; a HALT latch standing; an advance pending. -/
theorem witness_ResumeEnds : base.asked.faults.halted = false ∧
    ({ halted with faults := { halted.faults with prepare := false } } : State).faults.prepare = false ∧
    (let s := halted.setFault .overspeed ⟨false, true, false⟩
     s.asked.faults.halted = true ∧ s.faults.prepare = true ∧ FaultId.overspeed.cls = .halt ∧
      s.asked.latched .overspeed = true) ∧
    (halted.asked.faults.halted = true ∧ halted.faults.prepare = true ∧
      ¬∃ f : FaultId, f.cls = .halt ∧ (halted.asked.latched f = true ∨ (halted.asked.fault f).cond = true)) ∧
    (let s : State := { halted with apA := { openAp with closure := .prewarn, advancePending := true } }
     s.usesAp .a = true ∧ (s.asked.ap .a).advancePending = true ∧ (s.asked.ap .a).closure = .prewarn) := by
  refine ⟨?_, ?_, ?_, ⟨?_, ?_, ?_⟩, ?_⟩
  case refine_6 =>
    rintro ⟨f, -, h⟩
    have e : halted.asked.fault f = ⟨false, false, false⟩ := by
      simp [State.asked, State.clearPrepare, State.wake, halted, base, State.fault]
    simp [State.latched, e] at h
  all_goals decide +kernel

/-- A table and bands that fit, at both ends of what FULL_OPEN asks, and, for each refusal, one that does not. -/
theorem witness_SettingWritten_lists :
    TableFits base.fullOpen table ∧ TableFits 8200 [(0, 0), (8200, 6500)] ∧ TableFits 8500 [(0, 550), (1, 550)] ∧
    (∀ t ∈ [[(0, 550)], table ++ table, [(0, 550), (8501, 600)], [(0, 550), (100, 6501)], [(1, 550), (100, 600)],
        [(0, 550), (100, 600), (100, 700)], [(0, 550), (100, 500)], [(0, 550), (8201, 600)]],
      ¬TableFits base.fullOpen t) ∧
    BandsFit base.fullOpen [⟨600, 700, 700, 1⟩, ⟨8500, 100, 20000, 0⟩] ∧
    (∀ bs ∈ [[], List.replicate 9 ⟨8500, 100, 100, 0⟩, [⟨8801, 100, 100, 0⟩], [⟨8500, 99, 100, 0⟩],
        [⟨8500, 100, 20001, 0⟩], [⟨8500, 100, 100, 2⟩], [⟨8500, 100, 100, 0⟩, ⟨8500, 100, 100, 0⟩],
        [⟨8499, 100, 100, 0⟩]],
      ¬BandsFit base.fullOpen bs) := by
  simp only [← tableOK_iff, ← bandsOK_iff]
  decide +kernel

theorem witness_SettingWritten : (busy base).settings.writing ≠ none ∧
    (let s : State := { base with settings := { base.settings with protect := true }, lines := { base.lines with key := none } }
     s.settings.writing = none ∧ s.settings.protect = true ∧ s.lines.key ≠ some true) ∧
    base.settings.writing = none ∧ base.settings.protect = false ∧ (58 : Nat) < 59 ∧
    (let w := serviced.asked
     w.opening.phase = .idle ∧ (serviced.role = .follow → serviced.link.paired = true) ∧
      w.motion.state = .seatedLocked ∧ serviced.settings.writing = none ∧
      ∀ x, serviced.usesAp x = true →
        (w.ap x).closure = .openRoad ∨ (w.ap x).closure = .closed ∨ (w.ap x).closure = .restart) ∧
    allItems[0]? = some .seatCount ∧ allItems[8]? = some .table ∧ allItems[12]? = some .bands ∧ allItems[46]? = some .gatherWindow ∧
    allItems[58]? ≠ none ∧
    (∀ i ∈ allItems, i ≠ .table → i ≠ .bands → i.range.1 ≤ i.range.2) ∧ held.asked.motion.state ≠ .seatedLocked ∧
    serviced.pos.seat = some true ∧ serviced.water.source = .fresh ∧ serviced.gateUsed ⟨.a, 0⟩ = true ∧
    serviced.gateUsed ⟨.a, 5⟩ = false ∧ serviced.usesAp .a = true ∧
    ({ held with opening := { held.opening with phase := .raising } } : State).asked.opening.phase ≠ .idle := by
  refine ⟨by decide +kernel, by decide +kernel, by decide +kernel, by decide +kernel, by decide +kernel,
    ⟨by decide +kernel, by decide +kernel, by decide +kernel, by decide +kernel, all_aps ?_ ?_⟩, ?_⟩ <;> decide +kernel

theorem witness_SettingWritten_reevaluated :
    (let s : State := { serviced with book := booked.book }
     s.asked.OpeningSound ∧ s.role ≠ .follow) ∧
    (let s : State := { serviced with water := { serviced.water with source := .stale } }
     ¬(s.water.source = .fresh ∧ s.water.level ≠ none ∨ 901 = s.items.clearance.waterHigh)) := by
  refine ⟨⟨⟨?_, follows_recs (rest := []) rfl (by decide +kernel) (by decide), ?_⟩, by decide +kernel⟩, by decide +kernel⟩
  · unfold State.BookNumbered
    decide +kernel
  · unfold State.OneCall State.GroupExact State.GroupPlaced
    decide +kernel

/-- R24: the table is replaced at once, and every live record is computed afresh. -/
theorem test_table_written :
    let s := { serviced with book := booked.book }
    let t := run (.writeSetting .maintenance 8 (.table [(0, 550), (4000, 3900)])) s
    t.items.clearance.table = some [(0, 550), (4000, 3900)] ∧ t.opening.settle = .running 2000 ∧
      t.book.records.map (·.required) = [.angle 3248, .angle 1696, .angle 2651] ∧
      (run (.writeSetting .maintenance 8 (.table [(0, 550), (8201, 3900)])) s).port.response = some ⟨.badValue, []⟩ := by
  decide +kernel

theorem witness_StoreWrites : (busy base).settings.writing = some (.block .geometry (items .sole)) ∧
    base.settings.writing = none ∧ base.settings.protect = false ∧
    (∀ i ∈ BlockId.geometry.items, base.items.get i ≠ none) ∧
    (∃ i ∈ BlockId.geometry.items, State.reset.items.get i = none) ∧
    (let s : State := { base with settings := { base.settings with protect := true }, lines := { base.lines with key := some false } }
     s.settings.protect = true ∧ s.lines.key ≠ some true ∧ s.settings.writing = none) ∧
    ({ base with settings := { base.settings with writing := some (.protect true) } } : State).settings.writing =
      some (.protect true) ∧
    ((busy base).fault .storeFail).mask = false := by decide +kernel

/-- The entry of the called vessel; the exit beam of the passing one, and its entry beam broken again; a break with no
call; a clear that leaves the other beam BROKEN. -/
theorem witness_ChannelEvents : follow.role = .follow ∧ base.role ≠ .follow ∧ State.reset.signals.upstream = none ∧
    State.reset.role ≠ .follow ∧ base.signals.upstream = some false ∧
    (∃ r, held.wake.signals.call.called = some r.number ∧ held.wake.findRec r.number = some r ∧ r.state = .called ∧
      r.dir = .outbound ∧ held.signals.upstream = some false) ∧
    (let s := passing .outbound false false
     s.wake.signals.call.called = none ∧ s.signals.downstream = some false ∧ s.signals.upstream = some false ∧
     ∃ r, s.wake.signals.call.passing = some r.number ∧ s.wake.findRec r.number = some r ∧ r.state = .passing ∧
      r.dir = Dir.inbound.other ∧ r.dir ≠ Dir.outbound.other) ∧
    base.wake.signals.call.called = none ∧ base.wake.signals.call.passing = none ∧
    (base.fault .unannouncedVessel).mask = false ∧
    (passing .outbound true true).signals.downstream = some true ∧
    (passing .outbound true true).signals.upstream ≠ some false := by
  refine ⟨by decide +kernel, by decide +kernel, by decide +kernel, by decide +kernel, by decide +kernel,
    ⟨(recs .grouped .grouped .called)[2], by decide +kernel⟩,
    ⟨by decide +kernel, by decide +kernel, by decide +kernel, (recs .grouped .grouped .passing)[2], by decide +kernel⟩, ?_⟩
  decide +kernel

/-- The held span with no call, its outbound passage waiting for the gap timer. -/
def gapped : State :=
  { held with
      book := { records := recs .grouped .grouped .grouped, counter := 4 },
      signals :=
        { held.signals with
            outbound := { DirRec.reset with aspect := .prepare, gap := .running 1 },
            call := { held.signals.call with called := none, callTimer := .stopped } } }

/-- R120, R121: at the expiry of the gap timer the first candidate of the serving direction is called. -/
theorem test_called_at_gap :
    let t := run (.gapTimerExpiry .outbound) gapped
    t.signals.call.called = some 3 ∧ (t.dirRec .outbound).aspect = .go ∧ (t.dirRec .inbound).aspect = .prepare := by
  decide +kernel

/-- A due call that waits for its gap timer; no candidate at all; a call that is kept, and one that the fall of the angle
revokes. -/
theorem witness_ChannelEvents_calls :
    (gapped.Settled ∧ gapped.CallIsDue ∧ gapped.signals.call.serving = some .outbound ∧
      gapped.FirstCandidate 3 .outbound ∧ gapped.settle = gapped) ∧
    (let t := ({ gapped with opening := { gapped.opening with group := [] } } : State).settle
     t.CallIsDue ∧ t.signals.call.serving = some .outbound ∧ ∀ n, ¬t.IsCandidate n .outbound) ∧
    held.settle = held ∧ held.signals.call.called = some (recs .grouped .grouped .called)[2].number ∧
    held.findRec 3 = some (recs .grouped .grouped .called)[2] ∧ 2468 ≤ held.angle ∧
    ¬2468 ≤ ({ held with pos := { held.pos with p := trackAt 20000 } } : State).angle := by
  have at3 : gapped.IsCandidate 3 .outbound := ⟨by decide +kernel, rfl, rfl, (recs .grouped .grouped .grouped)[2],
    by decide +kernel, rfl, rfl, rfl, 2468, rfl, by decide +kernel, fun h => absurd rfl h⟩
  have due : ∀ s : State, s.role = .sole → s.role = .lead → ∃ v, s.link.view = some v ∧ v.motion = 3 := by
    intro s h k
    simp [h] at k
  refine ⟨⟨⟨by decide +kernel, by decide +kernel⟩, ⟨by decide +kernel, rfl, rfl, rfl, rfl, due _ rfl, by decide +kernel⟩, rfl,
    ⟨at3, [], [1, 2], rfl, by simp⟩, by decide +kernel⟩, ⟨⟨by decide +kernel, by decide +kernel, by decide +kernel,
    by decide +kernel, by decide +kernel, due _ (by decide +kernel), by decide +kernel⟩, by decide +kernel, ?_⟩, ?_⟩
  · rintro n ⟨h, -⟩
    have e : ({ gapped with opening := { gapped.opening with group := [] } } : State).settle.opening.group = [] := by
      decide +kernel
    simp [e] at h
  · decide +kernel

/-- A link in a state of its buffer. -/
def lined (s : State) (b : BufferState) : State := { s with link := { s.link with buffer := b } }

/-- The bytes of a frame (section 11.5) from its start delimiter on, by hand, its CRC by R152. -/
theorem test_frame_sent : heldLead.statusFrame = preamble ++
    [0xA7, 1, 1, 0, 0, 14, 0x0C, 0xA9, 0, 0, 3, 6, 5, 0x0E, 2, 2, 0x0C, 0xA9, 0, 1, 0x8E, 0xF2] := by
  have h : [delimiter] ++ ((u8 1 ++ u8 (senderCode heldLead.role) ++ be16 heldLead.items.link.bridgeId ++ u8 14 ++
      heldLead.statusView.body) ++ crcBytes (u8 1 ++ u8 (senderCode heldLead.role) ++ be16 heldLead.items.link.bridgeId ++
      u8 14 ++ heldLead.statusView.body)) =
      [0xA7, 1, 1, 0, 0, 14, 0x0C, 0xA9, 0, 0, 3, 6, 5, 0x0E, 2, 2, 0x0C, 0xA9, 0, 1, 0x8E, 0xF2] := by decide +kernel
  rw [← h]
  simp [State.statusFrame]

/-- R159: a tone is recognised once, and another of the same receive where the line carried frame bits in between. -/
theorem test_tone_again :
    let s := lined heldLead .receiving
    let t := run .haltToneRecognised s
    let heard := { s with link := { s.link with toneHeard := true } }
    t.latched .partnerHalt = true ∧ t.link.buffer = .tone ∧
      (run .haltToneRecognised heard).latched .partnerHalt = false ∧
      (run .haltToneRecognised (run .receiveStart heard)).latched .partnerHalt = true := by decide +kernel

theorem witness_FramesRoundTrip :
    (∀ q ∈ [(lined follow .receiving, heldLead), (lined heldLead .receiving, follow)],
      (q.1.role = .lead ∧ q.2.role = .follow ∨ q.1.role = .follow ∧ q.2.role = .lead) ∧
      q.1.wake.link.buffer = .receiving ∧ q.2.items.link.bridgeId = q.1.items.link.bridgeId ∧
      0 ≤ q.1.items.link.bridgeId ∧ q.1.items.link.bridgeId ≤ 65535 ∧ -32768 ≤ q.2.angle ∧ q.2.angle ≤ 32767 ∧
      q.2.opening.number ≤ 65535) ∧
    (∀ t, heldLead.opening.target = some t → -32768 < t ∧ t ≤ 32767) ∧
    ∀ t, follow.opening.target = some t → -32768 < t ∧ t ≤ 32767 := by
  refine ⟨by decide +kernel, ?_, ?_⟩
  · intro t h
    obtain rfl : 3241 = t := Option.some.inj h
    decide
  · intro t h
    have e : follow.opening.target = none := by decide +kernel
    rw [e] at h
    cases h

theorem witness_LinkEvents : heldLead.role ≠ .sole ∧ heldLead.wake.link.buffer = .quiet ∧
    (lined heldLead .receiving).role ≠ .sole ∧ (lined heldLead .receiving).wake.link.buffer = .receiving ∧
    (lined heldLead .receiving).wake.link.toneHeard = false ∧
    (∀ q ∈ [((1, 1, 0, 14) : Byte × Byte × Byte × Nat), (1, 2, 1, 14), (2, 2, 0, 14), (1, 2, 0, 13), (1, 2, 0, 48)],
      let head := [q.1, q.2.1, 0, q.2.2.1, BitVec.ofNat 8 q.2.2.2] ++ List.replicate q.2.2.2 (0xA7 : Byte)
      let rest := head ++ crcBytes head
      rest.length = q.2.2.2 + 7 ∧ crc16 (rest.take (rest.length - 2)) =
        (rest.drop (rest.length - 2)).foldl (fun n b => n * 256 + b.setWidth 16) 0) ∧
    heldLead.wake.link.freshness = .running 200 ∧
    (let s : State := { heldLead with motion := { heldLead.motion with state := .raising, brakeRelease := true } }
     s.role ≠ .sole ∧ s.wake.motion.brakeRelease = true ∧ s.link.startup = .expired ∧
      (s.fault .partnerStaleMoving).mask = false) ∧
    (let s : State := { follow with link := Link.reset .follow 200 }
     s.role ≠ .sole ∧ s.link.startup = .running 200 ∧ s.link.paired = false ∧ (s.fault .partnerStale).mask = false) ∧
    follow.FaultsRight ∧
    (let s : State := lined { heldLead with link := paired .lead { viewAt 3241 with haltActive := true } } .receiving
     ∃ v, s.link.paired = true ∧ s.link.view = some v ∧ v.haltActive = true) ∧
    (¬∃ v, heldLead.link.paired = true ∧ heldLead.link.view = some v ∧ v.haltActive = true) ∧
    (heldLead.fault .partnerHalt).mask = false := by
  refine ⟨by decide +kernel, by decide +kernel, by decide +kernel, by decide +kernel, by decide +kernel, by decide +kernel,
    by decide +kernel, by decide +kernel, by decide +kernel, quiet_faults rfl,
    ⟨{ viewAt 3241 with haltActive := true }, by decide +kernel⟩, ?_, by decide +kernel⟩
  · rintro ⟨v, -, h, e⟩
    obtain rfl : viewAt 3241 = v := Option.some.inj h
    exact absurd e (by decide)

theorem witness_LinkTurns : heldLead.role = .lead ∧
    (let s : State := { follow with link := { follow.link with reply := .running 2 } }
     s.role = .follow ∧ s.wake.link.reply = .running 2 ∧ s.wake.link.buffer = .quiet) ∧
    (∀ b ∈ [BufferState.preamble, .sending, .tone, .receiving], (lined heldLead b).wake.link.buffer = b) ∧
    (let s : State := { halted with role := .lead, link := { paired .lead (viewAt 0) with toneTimer := .running 1 } }
     s.role ≠ .sole ∧ s.wake.faults.halted = true ∧ s.wake.link.toneTimer = .running 1) := by decide +kernel

end Sys2Proof.Tests
end

section
/-!
SUPPORT. The passage book at RESET and at FORGET (R15, R22): the numbers that a request finds in the book, the three answers
of a request on one record, and what remains when a record leaves.
-/

namespace Sys2Proof.Machine

open Sys2Proof

/-! ### Records under different numbers (R4) -/

/-- Under different numbers, none of the other records holds the number of one of them. -/
theorem number_ne_of_nodup {xs ys : List Rec} {r : Rec} (h : ((xs ++ r :: ys).map (·.number)).Nodup) :
    ∀ q ∈ xs ++ ys, q.number ≠ r.number := by
  have apart : ((r :: (xs ++ ys)).map (·.number)).Nodup := (List.perm_middle.map _).nodup_iff.mp h
  rw [List.map_cons, List.nodup_cons] at apart
  exact fun q hq e => apart.1 (List.mem_map.mpr ⟨q, hq, e⟩)

/-- Taking out the records with the number of one of them takes out that one alone. -/
theorem filter_number_ne {xs ys : List Rec} {r : Rec} (h : ((xs ++ r :: ys).map (·.number)).Nodup) :
    ((xs ++ r :: ys).filter fun q => q.number != r.number) = xs ++ ys := by
  have others : ((xs ++ ys).filter fun q => q.number != r.number) = xs ++ ys :=
    List.filter_eq_self.mpr fun q hq => bne_iff_ne.mpr (number_ne_of_nodup h q hq)
  rw [List.filter_append] at others
  rw [List.filter_append, List.filter_cons_of_neg (by simp), others]

/-- A record is found by its number. -/
theorem find?_number {rs : List Rec} {r : Rec} (h : (rs.map (·.number)).Nodup) (hr : r ∈ rs) :
    (rs.find? fun q => q.number == r.number) = some r := by
  obtain ⟨xs, ys, rfl⟩ := List.append_of_mem hr
  have before : (xs.find? fun q => q.number == r.number) = none :=
    List.find?_eq_none.mpr fun q hq => by simpa using number_ne_of_nodup h q (List.mem_append_left _ hq)
  rw [List.find?_append, before, List.find?_cons_of_pos (by simp), Option.none_or]

namespace State

/-! ### What a request finds in the book -/

@[simp] theorem asked_role (s : State) : s.asked.role = s.role := wake_role s

/-- A request finds the records that stood before, under their numbers and in book order. -/
theorem asked_numbers (s : State) : s.asked.book.records.map (·.number) = s.book.records.map (·.number) := by
  have keys : s.asked.book.records.map Rec.key = s.book.records.map Rec.key := by
    rw [← kept_keys, asked_kept, ← kept_keys]
  simpa [Function.comp_def, Rec.key] using congrArg (List.map (·.number)) keys

theorem asked_numbers_nodup {s : State} (h : s.BookNumbered) : (s.asked.book.records.map (·.number)).Nodup := by
  obtain ⟨-, apart, -⟩ := h
  rwa [asked_numbers]

/-! ### A request on one record (R6) -/

theorem onRecord_of_follow {s : State} (h : s.role = .follow) (n : Nat) (f : Rec → Answer) :
    s.onRecord n f = .refuse .notLead := by
  simp [onRecord, h]

theorem onRecord_of_absent {s : State} (h : s.role ≠ .follow) {n : Nat} (absent : ∀ r ∈ s.book.records, r.number ≠ n)
    (f : Rec → Answer) : s.onRecord n f = .refuse .notFound := by
  have missing : s.findRec n = none := List.find?_eq_none.mpr fun r hr => by simpa using absent r hr
  simp [onRecord, h, missing]

theorem onRecord_of_mem {s : State} (h : s.role ≠ .follow) (apart : (s.book.records.map (·.number)).Nodup) {r : Rec}
    (hr : r ∈ s.book.records) (f : Rec → Answer) : s.onRecord r.number f = f r := by
  have found : s.findRec r.number = some r := find?_number apart hr
  simp [onRecord, h, found]

end State

/-- An accepted request with no data answers OK once its change has settled (R192). -/
theorem State.answer_ok (s t : State) : s.answer (State.ok t) = t.settle.respond .ok [] := rfl

/-! ### FORGET (R15) -/

/-- How the book answers FORGET once it has found the record: a live one stays, a closed one leaves. -/
def State.forgetAnswer (s : State) (n : Nat) (r : Rec) : Answer :=
  if r.live then .refuse .wrongState
  else State.ok { s with book := { s.book with records := s.book.records.filter fun q => q.number != n } }

theorem exec_forget (s : State) (n : Nat) :
    exec (.forget .harbour n) s = .next (s.asked.answer (s.asked.onRecord n (s.asked.forgetAnswer n))) := rfl

theorem State.forgetAnswer_of_live {s : State} {r : Rec} (h : r.live = true) (n : Nat) :
    s.forgetAnswer n r = .refuse .wrongState := by
  simp [forgetAnswer, h]

theorem State.forgetAnswer_of_closed {s : State} {xs ys : List Rec} {r : Rec}
    (apart : (s.book.records.map (·.number)).Nodup) (e : s.book.records = xs ++ r :: ys) (h : r.live = false) :
    s.forgetAnswer r.number r = State.ok { s with book := { s.book with records := xs ++ ys } } := by
  rw [e] at apart
  simp [forgetAnswer, h, e, filter_number_ne apart]

/-- Settles O47, from the three answers of a request on one record and the numbers being different (R15). -/
theorem forgetRemoves : Obligations.ForgetRemoves := by
  intro s n numbered w
  have apart : (w.book.records.map (·.number)).Nodup := State.asked_numbers_nodup numbered
  have role : w.role = s.role := s.asked_role
  refine ⟨fun follow => ?_, fun lead absent => ?_, fun lead r hr e live => ?_, fun lead xs r ys e hn closed => ?_⟩
  · rw [exec_forget, State.onRecord_of_follow (role.trans follow), State.answer_refuse]
  · rw [exec_forget, State.onRecord_of_absent (role ▸ lead) absent, State.answer_refuse]
  · subst e
    rw [exec_forget, State.onRecord_of_mem (role ▸ lead) apart hr, State.forgetAnswer_of_live live, State.answer_refuse]
  · subst hn
    have hr : r ∈ w.book.records := e ▸ List.mem_append_cons_self
    refine ⟨?_, by simp [e, Nat.add_assoc], number_ne_of_nodup (e ▸ apart)⟩
    rw [exec_forget, State.onRecord_of_mem (role ▸ lead) apart hr, State.forgetAnswer_of_closed apart e closed,
      State.answer_ok]

/-! ### RESET (R22) -/

theorem exec_reset (role1 role0 estop : Bool) (s : State) :
    exec (.reset role1 role0 estop) s = .next (s.restart role1 role0 estop) := rfl

/-- An empty book asks for no attention (R21). -/
theorem State.bookAttention_of_empty {s : State} (h : s.book.records = []) : s.bookAttention = false := by
  simp [bookAttention, h]

@[simp] theorem State.restart_book (s : State) (role1 role0 estop : Bool) :
    (s.restart role1 role0 estop).book = .reset := rfl

@[simp] theorem State.restart_clock (s : State) (role1 role0 estop : Bool) :
    (s.restart role1 role0 estop).clock = 0 := rfl

@[simp] theorem State.restart_phase (s : State) (role1 role0 estop : Bool) :
    (s.restart role1 role0 estop).opening.phase = .idle := rfl

/-- Settles O3: the part starts again with the book, the clock and the opening record at their reset values (R22). -/
theorem resetEmptiesBook : Obligations.ResetEmptiesBook := by
  intro role1 role0 estop s
  have empty : (s.restart role1 role0 estop).book.records = [] := by rw [State.restart_book]; rfl
  have counter : (s.restart role1 role0 estop).book.counter = 1 := by rw [State.restart_book]; rfl
  exact ⟨_, exec_reset role1 role0 estop s, empty, counter, State.restart_clock .., State.bookAttention_of_empty empty,
    State.restart_phase ..⟩

end Sys2Proof.Machine
end

section
/-!
SUPPORT. STOP_SPAN and the span halt (R81, R82, R173): what the settling of an event leaves standing of a fault's latch, of a
span halt with its entry, and of a halted leaf.
-/

namespace Sys2Proof.Machine

open Sys2Proof

namespace State

/-! ### The fault unit and the leaf -/

/-- The blocks a span halt stands in: the fault unit and the motion supervisor. -/
def haltCore (s : State) : Faults × Motion := (s.faults, s.motion)

theorem haltCore_eq_iff {s t : State} : t.haltCore = s.haltCore ↔ t.faults = s.faults ∧ t.motion = s.motion :=
  Prod.mk_inj

/-! The other blocks' operations touch neither. -/

@[simp] theorem modOpening_haltCore (s : State) (f : Opening → Opening) : (s.modOpening f).haltCore = s.haltCore := rfl

@[simp] theorem modCall_haltCore (s : State) (f : CallCtx → CallCtx) : (s.modCall f).haltCore = s.haltCore := rfl

@[simp] theorem setRecState_haltCore (s : State) (n : Nat) (st : RecState) : (s.setRecState n st).haltCore = s.haltCore :=
  rfl

@[simp] theorem order_haltCore (s : State) (c : SeqCmd) : (s.order c).haltCore = s.haltCore := rfl

@[simp] theorem revoke_haltCore (s : State) (r : Rec) : (s.revoke r).haltCore = s.haltCore := by
  rw [revoke_frame]; rfl

@[simp] theorem onUsedAps_haltCore (s : State) (f : RoadCtx → Approach → Approach) :
    (s.onUsedAps f).haltCore = s.haltCore := by
  unfold onUsedAps
  dsimp only
  split <;> simp [onAp, haltCore]

@[simp] theorem renewGreens_haltCore (s : State) : s.renewGreens.haltCore = s.haltCore := rfl

@[simp] theorem roadStep_haltCore (s : State) : s.roadStep.haltCore = s.haltCore := by
  unfold roadStep
  split <;> simp

@[simp] theorem setPhase_haltCore (s : State) (p : Phase) : (s.setPhase p).haltCore = s.haltCore := by
  unfold setPhase
  dsimp only
  split <;> simp

@[simp] theorem giveStep_haltCore (s : State) : s.giveStep.haltCore = s.haltCore := by
  unfold giveStep startLinger
  dsimp only
  repeat' split
  all_goals simp

@[simp] theorem enterPhase_haltCore (s : State) (p : Phase) : (s.enterPhase p).haltCore = s.haltCore := by
  simp [enterPhase]

@[simp] theorem toIdle_haltCore (s : State) : s.toIdle.haltCore = s.haltCore := by
  unfold toIdle startInterval intervalElapses restoreCredit
  split <;> simp

/-! So do the stages of a round that are not the leaf's. -/

@[simp] theorem endSuspension_haltCore (s : State) : s.endSuspension.haltCore = s.haltCore := by
  unfold endSuspension clearSuspension
  dsimp only
  repeat' split
  all_goals simp

@[simp] theorem toeStage_haltCore (s : State) : s.toeStage.haltCore = s.haltCore := by
  unfold toeStage
  repeat' split
  all_goals rfl

@[simp] theorem roadStage_haltCore (s : State) : s.roadStage.haltCore = s.haltCore := onUsedAps_haltCore _ _

@[simp] theorem startTest_haltCore (s : State) : s.startTest.haltCore = s.haltCore := by
  unfold startTest
  repeat' split
  all_goals simp

@[simp] theorem advancePhase_haltCore (s : State) : s.advancePhase.haltCore = s.haltCore := by
  unfold advancePhase
  repeat' split
  all_goals simp

@[simp] theorem driftStage_haltCore (s : State) : s.driftStage.haltCore = s.haltCore := by
  unfold driftStage
  repeat' split
  all_goals simp

@[simp] theorem callIfReady_haltCore (s : State) (d : Dir) (n : Nat) : (s.callIfReady d n).haltCore = s.haltCore := by
  unfold callIfReady
  split <;> rfl

@[simp] theorem callStage_haltCore (s : State) : s.callStage.haltCore = s.haltCore := by
  unfold callStage serve
  dsimp only
  repeat' split
  all_goals simp

@[simp] theorem channelStage_haltCore (s : State) : s.channelStage.haltCore = s.haltCore := by
  unfold channelStage
  split <;> simp

@[simp] theorem aspectStage_haltCore (s : State) : s.aspectStage.haltCore = s.haltCore := rfl

@[simp] theorem lampStage_haltCore (s : State) : s.lampStage.haltCore = s.haltCore := onUsedAps_haltCore _ _

@[simp] theorem respond_haltCore (s : State) (r : Result) (d : List Byte) : (s.respond r d).haltCore = s.haltCore := rfl

/-! ### What a span halt leaves standing -/

/-- In span halt the leaf is HALTED (R82). -/
def LeafHalted (s : State) : Prop := s.faults.halted = true → s.motion.state = .halted

theorem HaltHeld.leafHalted {s : State} (h : s.HaltHeld) : s.LeafHalted := fun halted => (h halted).1

/-- From one state to the next every latch stays, and a span halt stays with its entry and with the leaf halted (R82, R168,
R173). -/
structure HaltStays (s t : State) : Prop where
  latched : ∀ f, s.latched f = true → t.latched f = true
  entry : s.faults.halted = true →
    t.faults.halted = true ∧ t.faults.entryFault = s.faults.entryFault ∧ t.faults.enteredAt = s.faults.enteredAt
  leaf : s.LeafHalted → t.LeafHalted

theorem HaltStays.refl (s : State) : s.HaltStays s := ⟨fun _ h => h, fun h => ⟨h, rfl, rfl⟩, id⟩

theorem HaltStays.trans {s t u : State} (h : s.HaltStays t) (h' : t.HaltStays u) : s.HaltStays u where
  latched f l := h'.latched f (h.latched f l)
  entry halted := by
    obtain ⟨ht, ft, at_t⟩ := h.entry halted
    obtain ⟨hu, fu, at_u⟩ := h'.entry ht
    exact ⟨hu, fu.trans ft, at_u.trans at_t⟩
  leaf l := h'.leaf (h.leaf l)

/-- What writes nothing of the fault unit, and moves no halted leaf, leaves a span halt standing. -/
theorem HaltStays.of_faults {s t : State} (faults : t.faults = s.faults)
    (motion : s.motion.state = .halted → t.motion.state = .halted) : s.HaltStays t where
  latched f l := by simpa only [State.latched, fault, faults] using l
  entry h := by simp only [faults, h, and_self]
  leaf l h := motion (l (faults ▸ h))

theorem HaltStays.of_haltCore {s t : State} (core : t.haltCore = s.haltCore) : s.HaltStays t := by
  obtain ⟨faults, motion⟩ := haltCore_eq_iff.mp core
  exact .of_faults faults fun h => motion ▸ h

/-! ### The stages that write the fault unit or the leaf -/

/-- The report of the lasting conditions keeps every latch, and leaves a part already in span halt in it (R168, R173). -/
theorem reportAll_haltStays (s : State) : s.HaltStays s.reportAll where
  latched f l := by
    have kept : (s.reported f).latch = true := by
      have l' : (s.fault f).latch = true := l
      simp [reported, l']
    exact (congrArg FaultRec.latch (reportAll_fault s f)).trans kept
  entry h := by simp [reportAll, h]
  leaf l := by
    unfold reportAll
    dsimp only
    split
    · exact l
    · split
      · exact fun _ => (enterHalt_motion _ _).1
      · exact l

/-- A failed permit condition stops a moving leaf alone (R61). -/
theorem permitStage_haltStays (s : State) : s.HaltStays s.permitStage := by
  refine .of_faults ?_ fun halted => ?_
  · unfold permitStage
    repeat' split
    all_goals rfl
  · simp [permitStage, halted]

/-- A halted leaf follows no angle (R63 to R65). -/
theorem angleStage_haltStays (s : State) : s.HaltStays s.angleStage := by
  refine .of_faults ?_ fun halted => ?_
  · unfold angleStage
    repeat' split
    all_goals rfl
  · simp [angleStage, halted]

theorem seatLockStage_haltStays (s : State) : s.HaltStays s.seatLockStage := by
  refine .of_faults ?_ fun halted => ?_
  · unfold seatLockStage
    split <;> rfl
  · simp [seatLockStage, isSeated, halted]

theorem outputStage_haltStays (s : State) : s.HaltStays s.outputStage := .of_faults rfl id

theorem startDown_opening_faults (s : State) : (s.startDown .opening).faults = s.faults := by
  unfold startDown endAtSeat
  dsimp only
  split <;> rfl

theorem giveCommand_faults {s t : State} {c : SeqCmd} (h : s.giveCommand c = some t) : t.faults = s.faults := by
  cases c <;> simp only [giveCommand, Option.ite_none_right_eq_some, Option.some.injEq] at h
  case road => exact h ▸ (haltCore_eq_iff.mp (roadStep_haltCore s)).1
  all_goals obtain ⟨-, rfl⟩ := h
  case lower => exact startDown_opening_faults s
  all_goals rfl

/-- A halted leaf takes no command of the sequencer: the road step alone is taken then, which leaves it halted (R63 to R65,
R75, R76). -/
theorem giveCommand_of_halted {s t : State} {c : SeqCmd} (halted : s.motion.state = .halted)
    (h : s.giveCommand c = some t) : t.motion.state = .halted := by
  cases c
  case road =>
    obtain rfl : s.roadStep = t := Option.some.inj h
    rw [(haltCore_eq_iff.mp (roadStep_haltCore s)).2, halted]
  all_goals simp [giveCommand, isSeated, raiseOK, holdOK, lowerOK, halted] at h

theorem tryCommand_haltStays (s : State) : s.HaltStays s.tryCommand := by
  unfold tryCommand
  split
  · exact .refl s
  · split
    · exact .refl s
    · split
      next t given =>
        have taken : s.HaltStays t := .of_faults (giveCommand_faults given) fun halted => giveCommand_of_halted halted given
        exact taken.trans (.of_haltCore rfl)
      next => exact .refl s

/-! ### The settling -/

theorem react_haltStays (s : State) : s.HaltStays s.react :=
  (reportAll_haltStays s).trans <| (permitStage_haltStays _).trans <| (angleStage_haltStays _).trans <|
    (HaltStays.of_haltCore (endSuspension_haltCore _)).trans <| (tryCommand_haltStays _).trans <|
    (seatLockStage_haltStays _).trans <| .of_haltCore <| by simp [react]

theorem outputs_haltStays (s : State) : s.HaltStays s.outputs :=
  (HaltStays.of_haltCore (by simp)).trans (outputStage_haltStays s.aspectStage.lampStage)

theorem round_haltStays (s : State) : s.HaltStays s.round := (react_haltStays s).trans (outputs_haltStays _)

theorem rounds_haltStays (n : Nat) (s : State) : s.HaltStays (rounds n s) := by
  induction n generalizing s with
  | zero => exact .refl s
  | succ n ih => exact (round_haltStays s).trans (ih s.round)

theorem settle_haltStays (s : State) : s.HaltStays s.settle := rounds_haltStays 8 s

theorem settle_respond_haltStays (s : State) (r : Result) (d : List Byte) : s.HaltStays (s.settle.respond r d) :=
  (settle_haltStays s).trans (.of_haltCore (respond_haltCore _ _ _))

theorem wake_haltStays (s : State) : s.HaltStays s.wake := by
  unfold wake
  split
  · exact (HaltStays.of_faults rfl id : s.HaltStays { s with justReset := false }).trans (settle_haltStays _)
  · exact .refl s

/-! ### The outputs in span halt (R82, R112) -/

theorem aspectOf_of_halted {s : State} (h : s.faults.halted = true) (d : Dir) : s.aspectOf d = .stop := by
  simp [aspectOf, h]

@[simp] theorem lampStage_signals (s : State) : s.lampStage.signals = s.signals := by
  unfold lampStage onUsedAps
  dsimp only
  split <;> simp [onAp]

/-- A halted leaf has its four outputs quiet (R60, R82). -/
theorem outputStage_of_halted {s : State} (h : s.motion.state = .halted) :
    s.outputStage.motion.state = .halted ∧ s.outputStage.motion.permit = false ∧
      s.outputStage.motion.brakeRelease = false ∧ s.outputStage.motion.speedClass = .zero := by
  simp [outputStage, h]

/-- The outputs formed on a halted leaf are those of a span halt. -/
theorem outputs_haltHeld {s : State} (leaf : s.LeafHalted) : s.outputs.HaltHeld := by
  intro h
  have core : s.aspectStage.lampStage.haltCore = s.haltCore := by simp
  obtain ⟨faults, motion⟩ := haltCore_eq_iff.mp core
  have halted : s.faults.halted = true := faults ▸ h
  have signals : s.outputs.signals = s.aspectStage.signals := lampStage_signals s.aspectStage
  obtain ⟨state, permit, brake, speed⟩ := outputStage_of_halted (motion ▸ leaf halted)
  exact ⟨state, permit, brake, speed, signals ▸ aspectOf_of_halted halted .inbound,
    signals ▸ aspectOf_of_halted halted .outbound⟩

/-- An event whose own change leaves the leaf halted in span halt settles with the span halt held (R82, R112, R173). -/
theorem settle_haltHeld {s : State} (leaf : s.LeafHalted) : s.settle.HaltHeld := by
  rw [settle_round]
  exact outputs_haltHeld ((react_haltStays _).leaf ((rounds_haltStays 7 s).leaf leaf))

theorem respond_haltHeld {s : State} (held : s.HaltHeld) (r : Result) (d : List Byte) : (s.respond r d).HaltHeld := held

/-! ### A HALT-class condition that is raised (R168, R173) -/

/-- Outside span halt it brings the entry, named after it and timed by the span clock (R173). -/
theorem raise_entry {s : State} {f : FaultId} (mask : (s.fault f).mask = false) (cls : f.cls = .halt)
    (running : s.faults.halted = false) :
    (s.raise f).faults.entryFault = some f ∧ (s.raise f).faults.enteredAt = some s.clock := by
  have entered : s.raise f = (s.setFault f { s.fault f with latch := true }).enterHalt f := by
    simp [raise, mask, cls, running]
  rw [entered, enterHalt_frame]
  exact ⟨rfl, rfl⟩

theorem raise_leafHalted {s : State} (leaf : s.LeafHalted) (f : FaultId) : (s.raise f).LeafHalted := by
  unfold raise
  split
  · exact leaf
  · dsimp only
    split
    · exact fun _ => (enterHalt_motion _ _).1
    · exact leaf

/-! ### What STOP_SPAN finds -/

theorem fault_mask_of_kept {s t : State} (h : t.kept.masks = s.kept.masks) (f : FaultId) :
    (t.fault f).mask = (s.fault f).mask := by
  have entry := congrArg (·[f.index.val]?) h
  simpa [kept, fault] using entry

@[simp] theorem asked_clock (s : State) : s.asked.clock = s.clock := wake_clock s

theorem asked_mask (s : State) (f : FaultId) : (s.asked.fault f).mask = (s.fault f).mask :=
  fault_mask_of_kept (by rw [asked_kept]) f

end State

/-! ### STOP_SPAN (R81) -/

theorem exec_stopSpan (s : State) : exec (.stopSpan .operator) s =
    .next ((s.asked.raise .operatorStop).settle.respond .ok []) :=
  s.request_allowed .operator [.operator] (fun t => State.ok (t.raise .operatorStop)) rfl

/-- Of what the reactions leave alone, the request writes the response and clears the resume-prepare flag (R81, R176). -/
theorem stopSpan_kept (s : State) :
    ((s.asked.raise .operatorStop).settle.respond .ok []).kept = s.keptAnswer .ok [] := by
  have kept : (s.asked.raise .operatorStop).kept = { s.kept with prepare := false, lapse := .stopped } := by
    rw [State.raise_kept, State.asked_kept]
  have port : (s.asked.raise .operatorStop).port = s.port := congrArg Kept.port kept
  rw [State.settle_respond_kept, kept, port]
  rfl

/-- Settles O29: the raise of OPERATOR_STOP sets the latch and the halt, and the settling leaves both standing (R81). -/
theorem stopSpanHalts : Obligations.StopSpanHalts := by
  intro s mask
  have mask' : (s.asked.fault .operatorStop).mask = false := (s.asked_mask _).trans mask
  have stays := (s.asked.raise .operatorStop).settle_respond_haltStays .ok []
  obtain ⟨halted, entryFault, enteredAt⟩ := stays.entry (State.raise_halts _ _ mask' rfl)
  refine ⟨_, exec_stopSpan s, stays.latched _ (State.raise_latched _ _ mask'), halted, stopSpan_kept s,
    fun running => ?_, fun held => ?_⟩
  · obtain ⟨named, timed⟩ := State.raise_entry mask' rfl running
    exact ⟨entryFault.trans named, enteredAt.trans (timed.trans (congrArg some s.asked_clock))⟩
  · have leaf : s.asked.LeafHalted := s.wake_haltStays.leaf held.leafHalted
    exact State.respond_haltHeld (State.settle_haltHeld (State.raise_leafHalted leaf .operatorStop)) .ok []

end Sys2Proof.Machine
end

section
/-!
SUPPORT. The frame of each stage of a round: the fields that it may write, as one equation.
-/

namespace Sys2Proof.Machine

open Sys2Proof

namespace State

/-! ### The steps of a phase -/

theorem onAp_frame (s : State) (x : Ap) (f : RoadCtx → Approach → Approach) :
    s.onAp x f = { s with apA := (s.onAp x f).apA, apB := (s.onAp x f).apB } := by
  cases x <;> rfl

theorem onUsedAps_frame (s : State) (f : RoadCtx → Approach → Approach) :
    s.onUsedAps f = { s with apA := (s.onUsedAps f).apA, apB := (s.onUsedAps f).apB } := by
  unfold onUsedAps
  dsimp only
  split
  · rw [onAp_frame, onAp_frame s]
  · exact onAp_frame _ _ _

theorem roadStep_frame (s : State) :
    s.roadStep = { s with apA := s.roadStep.apA, apB := s.roadStep.apB, signals := s.roadStep.signals } := by
  unfold roadStep
  split
  · rw [onUsedAps_frame]; rfl
  · rw [onUsedAps_frame]
  · rfl

theorem setPhase_frame (s : State) (p : Phase) :
    s.setPhase p = { s with opening := (s.setPhase p).opening, signals := (s.setPhase p).signals } := by
  unfold setPhase
  dsimp only
  split <;> rfl

/-- Two states that differ in the opening record, the signals and the approaches at most: what a step of the sequencer may
write. -/
def SameButStep (s t : State) : Prop :=
  t = { s with opening := t.opening, signals := t.signals, apA := t.apA, apB := t.apB }

theorem SameButStep.refl (s : State) : s.SameButStep s := rfl

theorem SameButStep.trans {s t u : State} (h : s.SameButStep t) (h' : t.SameButStep u) : s.SameButStep u := by
  unfold SameButStep at *
  rw [h', h]

theorem SameButStep.roadStep (s : State) : s.SameButStep s.roadStep := by
  unfold SameButStep
  rw [roadStep_frame]

theorem SameButStep.setPhase (s : State) (p : Phase) : s.SameButStep (s.setPhase p) := by
  unfold SameButStep
  rw [setPhase_frame]

theorem giveStep_frame (s : State) : s.SameButStep s.giveStep := by
  unfold giveStep
  split
  case h_1 | h_2 => exact .refl s
  case h_3 | h_4 => split; exacts [rfl, .roadStep s]
  case h_5 => rfl
  case h_6 => split <;> rfl
  case h_7 =>
    split
    · exact .refl s
    · dsimp only
      split <;> rfl
  case h_8 => split <;> rfl
  case h_9 => rfl

theorem enterPhase_frame (s : State) (p : Phase) : s.SameButStep (s.enterPhase p) :=
  (SameButStep.setPhase s p).trans (giveStep_frame _)

theorem startInterval_frame (s : State) : s.startInterval = { s with opening := s.startInterval.opening } := by
  unfold startInterval
  split <;> rfl

theorem toIdle_frame (s : State) : s.SameButStep s.toIdle := by
  refine (SameButStep.setPhase s .idle).trans ?_
  unfold SameButStep toIdle
  rw [startInterval_frame]
  rfl

/-! ### The stages of a round -/

theorem permitStage_frame (s : State) :
    s.permitStage = { s with motion := s.permitStage.motion, opening := s.permitStage.opening } := by
  unfold permitStage
  repeat' split
  all_goals rfl

theorem angleStage_frame (s : State) : s.angleStage = { s with motion := s.angleStage.motion } := by
  unfold angleStage
  repeat' split
  all_goals rfl

theorem endSuspension_frame (s : State) : s.SameButStep s.endSuspension := by
  unfold endSuspension
  dsimp only
  split
  · split
    · exact (show s.SameButStep s.clearSuspension from rfl).trans (enterPhase_frame _ _)
    · exact (show s.SameButStep s.clearSuspension from rfl).trans (giveStep_frame _)
  · exact .refl s

/-- Two states that differ in what a command of the sequencer may write: the leaf, the locks, the opening record, the
signals and the approaches. -/
def SameButCommand (s t : State) : Prop :=
  t = { s with motion := t.motion, locks := t.locks, opening := t.opening, signals := t.signals, apA := t.apA, apB := t.apB }

theorem startDown_opening_frame (s : State) :
    s.startDown .opening = { s with motion := (s.startDown .opening).motion } := by
  unfold startDown endAtSeat
  dsimp only
  split <;> rfl

theorem giveCommand_frame {s t : State} {c : SeqCmd} (h : s.giveCommand c = some t) : s.SameButCommand t := by
  cases c <;> simp only [giveCommand, Option.ite_none_right_eq_some, Option.some.injEq] at h
  case road => subst h; unfold SameButCommand; rw [roadStep_frame]
  all_goals obtain ⟨-, rfl⟩ := h
  case lower => unfold SameButCommand; rw [startDown_opening_frame]
  all_goals rfl

theorem tryCommand_frame (s : State) : s.SameButCommand s.tryCommand := by
  unfold tryCommand
  split
  · rfl
  · split
    · rfl
    · split
      next t given =>
        have taken := giveCommand_frame given
        unfold SameButCommand at *
        rw [taken]
        rfl
      next => rfl

theorem seatLockStage_frame (s : State) : s.seatLockStage = { s with motion := s.seatLockStage.motion } := by
  unfold seatLockStage
  split <;> rfl

theorem toeStage_frame (s : State) : s.toeStage = { s with locks := s.toeStage.locks } := by
  unfold toeStage
  repeat' split
  all_goals rfl

theorem roadStage_frame (s : State) : s.roadStage = { s with apA := s.roadStage.apA, apB := s.roadStage.apB } :=
  onUsedAps_frame _ _

theorem startTest_frame (s : State) : s.SameButStep s.startTest := by
  unfold startTest
  repeat' split
  · exact enterPhase_frame _ _
  · exact (show s.SameButStep (s.modOpening _) from rfl).trans (enterPhase_frame _ _)
  all_goals exact .refl s

theorem advancePhase_frame (s : State) : s.SameButStep s.advancePhase := by
  unfold advancePhase
  repeat' split
  · exact toIdle_frame s
  · exact enterPhase_frame _ _
  all_goals exact .refl s

theorem driftStage_frame (s : State) :
    s.driftStage = { s with book := s.driftStage.book, signals := s.driftStage.signals } := by
  unfold driftStage
  repeat' split
  · exact revoke_frame s _
  all_goals rfl

/-- Two states that differ in what a call may write: the book, the opening record and the signals. -/
def SameButCall (s t : State) : Prop := t = { s with book := t.book, opening := t.opening, signals := t.signals }

theorem callIfReady_frame (s : State) (d : Dir) (n : Nat) : s.SameButCall (s.callIfReady d n) := by
  unfold callIfReady
  split <;> rfl

theorem callStage_frame (s : State) : s.SameButCall s.callStage := by
  unfold callStage
  dsimp only
  repeat' split
  · exact callIfReady_frame _ _ _
  · have h := callIfReady_frame (s.serve (s.signals.call.serving.getD Dir.inbound).other)
      (s.signals.call.serving.getD Dir.inbound).other ‹_›
    unfold SameButCall at *
    rw [h]
    rfl
  all_goals rfl

theorem channelStage_frame (s : State) : s.SameButCall s.channelStage := by
  unfold channelStage
  split
  · rfl
  · have h := callStage_frame s.driftStage
    unfold SameButCall at *
    rw [h, driftStage_frame]

theorem lampStage_frame (s : State) : s.lampStage = { s with apA := s.lampStage.apA, apB := s.lampStage.apB } :=
  onUsedAps_frame _ _

end State

end Sys2Proof.Machine
end

section
/-!
SUPPORT. How a promise is kept by every step: the four outcomes of a command with its own change named, and the theorem that
a promise which the settling brings about, and which the port and a millisecond leave alone, is kept by every step.
-/

namespace Sys2Proof.Machine

open Sys2Proof

theorem next_inj {s t : State} (h : (.next s : Host.Outcome State Fault Refusal) = .next t) : s = t := Host.Outcome.next.inj h

/-- Two states that differ in the port, the queue, the mark of a reset and the resume-prepare flag at most. -/
def State.SameButPort (s t : State) : Prop :=
  t = { s with port := t.port, pending := t.pending, justReset := t.justReset,
               faults := { s.faults with prepare := t.faults.prepare, lapse := t.faults.lapse } }

/-! ### RESUME_PREPARE and RESUME (R175, R177) -/

/-- The resume-prepare flag is set, and its lapse timer runs at 5 s (R175). -/
def State.prepared (s : State) : State :=
  { s with faults := { s.faults with prepare := true, lapse := .running 5000 } }

theorem execResumePrepare_operator (s : State) : execResumePrepare .operator s =
    .next (if s.wake.faults.halted then s.wake.prepared.settle.respond .ok [] else s.wake.respond .wrongState []) := by
  unfold execResumePrepare
  generalize s.wake = w
  dsimp only
  rw [if_pos (by decide)]
  split <;> rfl

theorem execResumePrepare_other (s : State) {st : Station} (h : st ≠ .operator) :
    execResumePrepare st s = .next (s.asked.respond .notPermitted []) := by
  unfold execResumePrepare State.asked
  generalize s.wake = w
  simp [h]

theorem execResume_operator (s : State) : execResume .operator s =
    .next (match s.wake.resumeRefusal with
      | some r => s.asked.respond r []
      | none => s.asked.endHalt.settle.respond .ok []) := by
  unfold execResume State.asked
  generalize s.wake = w
  dsimp only
  rw [if_pos (by decide)]
  cases w.resumeRefusal with
  | some r => rw [State.answer_refuse]
  | none => rw [State.answer_ok]

theorem execResume_other (s : State) {st : Station} (h : st ≠ .operator) :
    execResume st s = .next (s.asked.respond .notPermitted []) := by
  unfold execResume State.asked
  generalize s.wake = w
  simp [h]

namespace State.SameButPort

theorem prepared (s : State) : s.SameButPort s.prepared := rfl

theorem respond (s : State) (r : Result) (d : List Byte) : s.SameButPort (s.respond r d) := rfl

theorem clearPrepare (s : State) : s.SameButPort s.clearPrepare := rfl

theorem asked (s : State) : s.wake.SameButPort s.asked := clearPrepare _

theorem awake (s : State) : s.SameButPort { s with justReset := false } := rfl

theorem pending (s : State) (q : List Instr) : s.SameButPort { s with pending := q } := rfl

theorem deselect (s : State) : s.SameButPort s.deselect := rfl

theorem emptyPort (s : State) : s.SameButPort s.emptyPort := rfl

theorem working (s : State) (bs : List Byte) : s.SameButPort (s.working bs) := rfl

theorem trans {s t u : State} (h : s.SameButPort t) (h' : t.SameButPort u) : s.SameButPort u := by
  unfold SameButPort at *
  rw [h', h]

end State.SameButPort

/-- The outcomes of a command on a state, with its own change in a relation: the change settled, and answered where the
command is a request; or nothing but an answer. -/
inductive Ran (R : State → State → Prop) (s : State) (o : Host.Outcome State Fault Refusal) : Prop
  | settled (u : State) (own : R s.wake u) (h : o = .next u.settle)
  | accepted (w u : State) (found : w = s.wake ∨ w = s.asked) (own : R w u) (r : Result) (d : List Byte)
      (h : o = .next (u.settle.respond r d))
  | answered (w : State) (found : w = s.wake ∨ w = s.asked) (r : Result) (d : List Byte) (h : o = .next (w.respond r d))

/-- An answer whose change, where it is accepted, stands in a relation to the state found. -/
def Answer.Does (R : State → State → Prop) (s : State) : Answer → Prop
  | .refuse _ => True
  | .accept t _ => R s t

/-- A request on one record. -/
theorem State.onRecord_does {R : State → State → Prop} {s : State} {n : Nat} {f : Rec → Answer}
    (own : ∀ r, s.findRec n = some r → s.role ≠ .follow → (f r).Does R s) : (s.onRecord n f).Does R s := by
  unfold onRecord
  split
  · trivial
  next lead =>
    split
    · trivial
    next r found => exact own r found (by simpa using lead)

namespace Ran

variable {R : State → State → Prop} {s : State}

theorem event {f : State → State} (own : R s.wake (f s.wake)) : Ran R s (s.event f) := .settled _ own rfl

theorem request {st : Station} {who : List Station} {f : State → Answer}
    (own : who.contains st = true → (f s.asked).Does R s.asked) : Ran R s (s.request st who f) := by
  cases sent : who.contains st with
  | true =>
    rw [State.request_allowed s st who f sent]
    cases given : f s.asked with
    | refuse r => exact .answered _ (.inr rfl) r [] (by rw [State.answer_refuse])
    | accept u d =>
      have taken : (f s.asked).Does R s.asked := own sent
      rw [given] at taken
      exact .accepted _ u (.inr rfl) taken .ok (d u.settle) (by rw [State.answer_accept])
  | false => rw [State.request_denied s st who f sent]; exact .answered _ (.inr rfl) _ _ rfl

theorem asks {st : Station} {who : List Station} {f : State → Answer} (own : (f s.asked).Does R s.asked) :
    Ran R s (s.request st who f) :=
  .request fun _ => own

theorem read {f : State → Except Result (List Byte)} : Ran R s (s.read f) := by
  cases given : f s.wake with
  | ok d => rw [State.read_ok s f d given]; exact .answered _ (.inl rfl) _ _ rfl
  | error r => rw [State.read_error s f r given]; exact .answered _ (.inl rfl) _ _ rfl

theorem resumePrepare {st : Station} (own : R s.wake s.wake.prepared) : Ran R s (execResumePrepare st s) := by
  by_cases sent : st = .operator
  · subst sent
    rw [execResumePrepare_operator]
    split
    · exact .accepted _ _ (.inl rfl) own .ok [] rfl
    · exact .answered _ (.inl rfl) .wrongState [] rfl
  · rw [execResumePrepare_other s sent]
    exact .answered _ (.inr rfl) .notPermitted [] rfl

theorem resume {st : Station} (own : s.wake.resumeRefusal = none → R s.asked s.asked.endHalt) :
    Ran R s (execResume st s) := by
  by_cases sent : st = .operator
  · subst sent
    rw [execResume_operator]
    split
    next r _ => exact .answered _ (.inr rfl) r [] rfl
    next refusal => exact .accepted _ _ (.inr rfl) (own refusal) .ok [] rfl
  · rw [execResume_other s sent]
    exact .answered _ (.inr rfl) .notPermitted [] rfl

theorem of_outcome {o : Host.Outcome State Fault Refusal} (h : Outcome s o) : Ran (fun _ _ => True) s o := by
  rcases h with ⟨u, h⟩ | ⟨u, r, d, h⟩ | ⟨r, d, h⟩ | ⟨r, d, h⟩
  · exact .settled u trivial h
  · exact .accepted _ u (.inl rfl) trivial r d h
  · exact .answered _ (.inl rfl) r d h
  · exact .answered _ (.inr rfl) r d h

theorem mono {R' : State → State → Prop} {o : Host.Outcome State Fault Refusal} (h : Ran R s o)
    (weaker : ∀ w u, R w u → R' w u) : Ran R' s o := by
  rcases h with ⟨u, own, h⟩ | ⟨w, u, found, own, r, d, h⟩ | ⟨w, found, r, d, h⟩
  · exact .settled u (weaker _ _ own) h
  · exact .accepted w u found (weaker _ _ own) r d h
  · exact .answered w found r d h

end Ran

/-- A command that is neither RESET nor the end of a selection. -/
def Instr.plain : Instr → Prop
  | .reset .. | .selectionEnd _ => False
  | _ => True

theorem plain_of_permitted {i : Instr} (h : permitted i = true) : Instr.plain i := by
  cases i <;> trivial

/-- The end of a selection: the port alone is written, or the request that the frame carries is worked. -/
theorem selectionEnd_cases {s t : State} {bs : List Byte} (e : exec (.selectionEnd bs) s = .next t) :
    (∃ u, s.wake.SameButPort u ∧ (t = u.settle ∨ t = u)) ∨
      ∃ i u, judgeFrame bs = .ok i ∧ permitted i = true ∧ exec i s.wake.deselect = .next u ∧ t = u.working bs := by
  unfold exec execSelectionEnd at e
  dsimp only at e
  split at e
  · obtain rfl := next_inj e; exact .inl ⟨_, .deselect _, .inl rfl⟩
  · split at e
    · obtain rfl := next_inj e; exact .inl ⟨_, .trans (.deselect _) (.emptyPort _), .inl rfl⟩
    · unfold State.takeRequest at e
      split at e
      · obtain rfl := next_inj e
        exact .inl ⟨_, .trans (.deselect _) (.trans (.respond _ _ _) (.working _ bs)), .inr rfl⟩
      next i judged =>
        split at e
        next may =>
          refine .inr ?_
          rw [dispatch_eq_exec i _ (isSome_of_permitted i may)] at e
          cases given : exec i s.wake.deselect with
          | next u => rw [given] at e; obtain rfl := next_inj e; exact ⟨i, u, judged, may, given, rfl⟩
          | fault r => cases r
          | refused r => rw [given] at e; exact nomatch e
        next =>
          obtain rfl := next_inj e
          exact .inl ⟨_, .trans (.deselect _) (.trans (.clearPrepare _) (.trans (.respond _ _ _) (.working _ bs))), .inr rfl⟩

/-- A promise `P` that every settling brings about from `Q`, and that the port, the mark of a reset and the resume-prepare flag
leave standing. -/
structure Carried (P Q : State → Prop) : Prop where
  port : ∀ {s t : State}, s.SameButPort t → P s → P t
  start : ∀ {s : State}, P s → Q s
  settle : ∀ {u : State}, Q u → P u.settle

namespace Carried

variable {P Q : State → Prop} (h : Carried P Q)
include h

theorem wake {s : State} (p : P s) : P s.wake := by
  unfold State.wake
  split
  · exact h.settle (h.start (h.port (.awake s) p))
  · exact p

theorem found {s w : State} (p : P s) (found : w = s.wake ∨ w = s.asked) : P w := by
  rcases found with rfl | rfl
  · exact h.wake p
  · exact h.port (.asked s) (h.wake p)

theorem of_ran {R : State → State → Prop} (keeps : ∀ w u, R w u → P w → Q u) {s t : State}
    {o : Host.Outcome State Fault Refusal} (ran : Ran R s o) (p : P s) (e : o = .next t) : P t := by
  rcases ran with ⟨u, own, rfl⟩ | ⟨w, u, found, own, r, d, rfl⟩ | ⟨w, found, r, d, rfl⟩ <;> obtain rfl := next_inj e
  · exact h.settle (keeps _ _ own (h.wake p))
  · exact h.port (.respond _ r d) (h.settle (keeps _ _ own (h.found p found)))
  · exact h.port (.respond w r d) (h.found p found)

/-- The end of a selection carries the promise, or works the request of its frame on a state that has it. -/
theorem selection {s t : State} {bs : List Byte} (p : P s) (e : exec (.selectionEnd bs) s = .next t) :
    P t ∨ ∃ i u, judgeFrame bs = .ok i ∧ permitted i = true ∧ P s.wake.deselect ∧ exec i s.wake.deselect = .next u ∧
      t = u.working bs := by
  rcases selectionEnd_cases e with ⟨u, same, rfl | rfl⟩ | ⟨i, u, judged, may, work, rfl⟩
  · exact .inl (h.settle (h.start (h.port same (h.wake p))))
  · exact .inl (h.port same (h.wake p))
  · exact .inr ⟨i, u, judged, may, h.port (.deselect _) (h.wake p), work, rfl⟩

end Carried

/-- A promise that is carried, and that a millisecond and a reset leave standing. -/
structure Promise (P Q : State → Prop) : Prop extends Carried P Q where
  elapse : ∀ {s : State}, P s → P s.elapse
  reset : ∀ s a b e, P (State.restart s a b e)

namespace Promise

variable {P Q : State → Prop} (h : Promise P Q) {R : State → State → Prop} (keeps : ∀ w u, R w u → P w → Q u)
  (ran : ∀ c s, Instr.plain c → Ran R s (Machine.exec c s))
include h keeps ran

theorem run {c : Instr} {s t : State} (p : P s) (e : Machine.exec c s = .next t) : P t := by
  cases c
  case reset a b e' => obtain rfl := next_inj e; exact h.reset s a b e'
  case selectionEnd bs =>
    rcases h.selection p e with kept | ⟨i, u, -, may, found, work, rfl⟩
    · exact kept
    · exact h.port (.working u bs) (h.of_ran keeps (ran i _ (plain_of_permitted may)) found work)
  all_goals exact h.of_ran keeps (ran _ s (by trivial)) p e

theorem step {s t : State} (p : P s) (e : Machine.step s = .next t) : P t := by
  cases queue : s.pending with
  | nil =>
    have idle : Machine.step s = .next s.elapse := by rw [Machine.step, queue]; rfl
    obtain rfl := next_inj (idle.symm.trans e)
    exact h.elapse p
  | cons c rest =>
    have front : Machine.step s = Machine.exec c { s with pending := rest } := by rw [Machine.step, queue]
    exact h.run keeps ran (h.port (.pending s rest) p) (front.symm.trans e)

end Promise

theorem ran_true (c : Instr) (s : State) (h : Instr.plain c) : Ran (fun _ _ => True) s (exec c s) :=
  .of_outcome (exec_outcome c s (fun _ _ _ e => by subst e; exact h) fun _ e => by subst e; exact h)

/-- A promise that every settling brings about, whatever was before, is kept by every step. -/
theorem Promise.step_of_settle {P : State → Prop} (h : Promise P fun _ => True) {s t : State} (p : P s)
    (e : Machine.step s = .next t) : P t :=
  h.step (fun _ _ _ _ => trivial) ran_true p e

end Sys2Proof.Machine
end

section
/-!
SUPPORT. What every round ends with: the outputs of the leaf, the lane lamps and the aspects, formed from the state as it
then stands (R59, R60, R62, R88, R93, R112), and what a sequencer step leaves of the gates.
-/

namespace Sys2Proof

theorem Six.zip_at {α β γ : Type} (f : α → β → γ) (x : Six α) (y : Six β) (i : Fin 6) :
    (Six.zip f x y).at i = f (x.at i) (y.at i) := by
  fin_cases i <;> rfl

theorem Six.put_at {α : Type} (x : Six α) (i j : Fin 6) (v : α) : (x.put i v).at j = if j = i then v else x.at j := by
  fin_cases i <;> fin_cases j <;> rfl

end Sys2Proof

namespace Sys2Proof.Machine

open Sys2Proof

namespace State

/-! ### Approaches and gates -/

theorem onUsedAps_ap (s : State) (f : RoadCtx → Approach → Approach) (x : Ap) :
    (s.onUsedAps f).ap x = if s.usesAp x = true then f (s.roadCtx x) (s.ap x) else s.ap x := by
  unfold onUsedAps
  dsimp only
  cases x with
  | a => split <;> rfl
  | b =>
    show (if s.usesAp .b = true then _ else _ : State).ap .b = _
    split <;> rfl

theorem onAp_ap (s : State) (x y : Ap) (f : RoadCtx → Approach → Approach) :
    (s.onAp x f).ap y = if y = x then f (s.roadCtx x) (s.ap x) else s.ap y := by
  cases x <;> cases y <;> rfl

/-- A gate of an approach out of service is UNUSED (R84). -/
theorem usesAp_of_gateUsed {s : State} {g : GateId} (h : s.gateUsed g = true) : s.usesAp g.ap = true := by
  by_contra out
  obtain ⟨x, i⟩ := g
  simp only [gateUsed, kinds, if_neg out] at h
  fin_cases i <;> exact absurd h (by decide)

theorem kind_ne_unused {s : State} {g : GateId} (h : s.gateUsed g = true) : (s.kinds g.ap).at g.ix ≠ .unused := by
  simpa [gateUsed] using h

/-- Two states whose gates differ in their hold flashes at most: what entering a closure state may write of a gate. -/
def GatesRest (s t : State) : Prop := ∀ g : GateId, t.gate g = { s.gate g with holdFlash := (t.gate g).holdFlash }

theorem GatesRest.refl (s : State) : s.GatesRest s := fun _ => rfl

theorem GatesRest.trans {s t u : State} (h : s.GatesRest t) (h' : t.GatesRest u) : s.GatesRest u := by
  intro g
  rw [h' g, h g]

/-- What leaves the approaches alone leaves the gates alone. -/
theorem GatesRest.of_aps {s t : State} (a : t.apA = s.apA) (b : t.apB = s.apB) : s.GatesRest t := by
  rintro ⟨x, i⟩
  cases x
  · rw [show t.gate ⟨.a, i⟩ = s.gate ⟨.a, i⟩ from congrArg (fun a : Approach => a.gates.at i) a]
  · rw [show t.gate ⟨.b, i⟩ = s.gate ⟨.b, i⟩ from congrArg (fun a : Approach => a.gates.at i) b]

end State

/-- Two approaches whose gates differ in their hold flashes at most. -/
def Approach.GatesRest (a b : Approach) : Prop :=
  ∀ i, b.gates.at i = { a.gates.at i with holdFlash := (b.gates.at i).holdFlash }

theorem Approach.GatesRest.refl (a : Approach) : a.GatesRest a := fun _ => rfl

theorem Approach.GatesRest.trans {a b c : Approach} (h : a.GatesRest b) (h' : b.GatesRest c) : a.GatesRest c := by
  intro i
  rw [h' i, h i]

theorem Gate.maybeFlash_frame (t : Int) (c : Closure) (k : GateKind) (g : Gate) :
    g.maybeFlash t c k = { g with holdFlash := (g.maybeFlash t c k).holdFlash } := by
  unfold Gate.maybeFlash
  split <;> rfl

theorem Gate.enterClosure_frame (t : Int) (c : Closure) (k : GateKind) (g : Gate) :
    g.enterClosure t c k = { g with holdFlash := (g.enterClosure t c k).holdFlash } := by
  unfold Gate.enterClosure
  repeat' split
  all_goals first
    | rfl
    | exact Gate.maybeFlash_frame _ _ _ _

theorem Approach.enter_gates (x : RoadCtx) (a : Approach) (c : Closure) (st : Option ReopenStep) (t : Timer) :
    a.GatesRest (a.enter x c st t) := by
  intro i
  have e : (a.enter x c st t).gates.at i = (a.gates.at i).enterClosure x.stopTime c (x.kinds.at i) :=
    Six.zip_at _ _ _ i
  rw [e]
  exact Gate.enterClosure_frame _ _ _ _

theorem Approach.closureStart_gates (x : RoadCtx) (a : Approach) : a.GatesRest (a.closureStart x) := by
  unfold Approach.closureStart
  split
  all_goals first | exact .refl a | exact Approach.enter_gates _ _ _ _ _

theorem Approach.closureAbort_gates (x : RoadCtx) (a : Approach) : a.GatesRest (a.closureAbort x) := by
  unfold Approach.closureAbort
  split
  all_goals first | exact .refl a | exact Approach.enter_gates _ _ _ _ _

theorem Approach.reopeningStart_gates (x : RoadCtx) (a : Approach) : a.GatesRest (a.reopeningStart x) := by
  unfold Approach.reopeningStart
  split
  all_goals first | exact .refl a | exact Approach.enter_gates _ _ _ _ _

namespace State

theorem onUsedAps_gates {s : State} {f : RoadCtx → Approach → Approach} (h : ∀ (x : RoadCtx) (a : Approach), a.GatesRest (f x a)) :
    s.GatesRest (s.onUsedAps f) := by
  rintro ⟨x, i⟩
  unfold gate
  rw [onUsedAps_ap]
  split
  · exact h _ _ i
  · rfl

theorem roadStep_gates (s : State) : s.GatesRest s.roadStep := by
  unfold roadStep
  split
  · exact (onUsedAps_gates Approach.closureStart_gates).trans (.of_aps rfl rfl)
  · exact onUsedAps_gates fun x a => (Approach.closureAbort_gates x a).trans (Approach.reopeningStart_gates x _)
  · exact .refl s

theorem setPhase_gates (s : State) (p : Phase) : s.GatesRest (s.setPhase p) :=
  .of_aps (by rw [setPhase_frame]) (by rw [setPhase_frame])

theorem giveStep_gates (s : State) : s.GatesRest s.giveStep := by
  unfold giveStep
  split
  case h_3 | h_4 => split; exacts [.of_aps rfl rfl, roadStep_gates s]
  case h_7 =>
    split
    · exact .refl s
    · dsimp only
      split <;> exact .of_aps rfl rfl
  case h_6 | h_8 => split <;> exact .of_aps rfl rfl
  all_goals exact .of_aps rfl rfl

theorem enterPhase_gates (s : State) (p : Phase) : s.GatesRest (s.enterPhase p) :=
  (setPhase_gates s p).trans (giveStep_gates _)

theorem toIdle_gates (s : State) : s.GatesRest s.toIdle := by
  refine (setPhase_gates s .idle).trans ?_
  unfold toIdle
  rw [startInterval_frame]
  exact .of_aps rfl rfl

theorem startTest_gates (s : State) : s.GatesRest s.startTest := by
  unfold startTest
  repeat' split
  · exact enterPhase_gates s _
  · exact (show s.GatesRest (s.modOpening _) from .of_aps rfl rfl).trans (enterPhase_gates _ _)
  all_goals exact .refl s

theorem advancePhase_gates (s : State) : s.GatesRest s.advancePhase := by
  unfold advancePhase
  repeat' split
  · exact toIdle_gates s
  · exact enterPhase_gates s _
  all_goals exact .refl s

theorem endSuspension_gates (s : State) : s.GatesRest s.endSuspension := by
  unfold endSuspension
  dsimp only
  have past : s.GatesRest s.clearSuspension := .of_aps rfl rfl
  split
  · split
    · exact past.trans (enterPhase_gates _ _)
    · exact past.trans (giveStep_gates _)
  · exact .refl s

theorem giveCommand_gates {s t : State} {c : SeqCmd} (h : s.giveCommand c = some t) : s.GatesRest t := by
  cases c <;> simp only [giveCommand, Option.ite_none_right_eq_some, Option.some.injEq] at h
  case road => exact h ▸ roadStep_gates s
  all_goals obtain ⟨-, rfl⟩ := h
  case lower => exact .of_aps (by rw [startDown_opening_frame]) (by rw [startDown_opening_frame])
  all_goals exact .of_aps rfl rfl

theorem tryCommand_gates (s : State) : s.GatesRest s.tryCommand := by
  unfold tryCommand
  split
  · exact .refl s
  · split
    · exact .refl s
    · split
      next t given => exact (giveCommand_gates given).trans (.of_aps rfl rfl)
      next => exact .refl s

theorem channelStage_gates (s : State) : s.GatesRest s.channelStage :=
  .of_aps (by rw [channelStage_frame]) (by rw [channelStage_frame])

/-! ### The drive outputs (R59, R60) -/

theorem permitOK_iff (s : State) : s.permitOK = true ↔
    s.faults.halted = false ∧ s.apPermits .a = true ∧ s.apPermits .b = true ∧ (s.role ≠ .sole → s.link.paired = true) := by
  simp only [permitOK, freshOrSole, twin, Bool.and_eq_true, Bool.not_eq_true', Bool.or_eq_true, and_assoc]
  cases s.role <;> simp

theorem outputStage_permitExact (s : State) : s.outputStage.PermitExact := by
  show s.outputStage.motion.permit = true ↔ (s.motion.state = _ ∨ _ ∨ _ ∨ _) ∧ s.faults.halted = false ∧ s.apPermits .a = true ∧
    s.apPermits .b = true ∧ (s.role ≠ .sole → s.link.paired = true)
  rw [← permitOK_iff]
  cases e : s.motion.state <;> simp [outputStage, e]

theorem outputStage_driveFollows (s : State) : s.outputStage.DriveFollows := by
  unfold DriveFollows
  have run : s.outputStage.runClass = s.runClass := rfl
  simp only [run]
  cases e : s.motion.state <;> simp only [outputStage, e, Bool.and_true, Bool.and_false, and_self, ite_self]
  cases c : s.motion.correction <;> simp

/-! ### The aspects (R112) -/

theorem aspectStage_aspectOf (s : State) (d : Dir) : s.aspectStage.aspectOf d = s.aspectOf d := by
  have go : s.aspectStage.goConditions = s.goConditions := by
    funext r
    cases h : r.dir <;> simp only [goConditions, h] <;> rfl
  simp only [aspectOf, go]
  cases d <;> rfl

theorem outputs_aspectsFormed (s : State) : s.outputs.AspectsFormed := by
  have formed : s.aspectStage.AspectsFormed := ⟨(aspectStage_aspectOf s .inbound).symm, (aspectStage_aspectOf s .outbound).symm⟩
  unfold outputs
  rw [lampStage_frame]
  exact formed

/-! ### The lane lamps (R93) -/

theorem lampStage_gate {s : State} {g : GateId} (h : s.gateUsed g = true) : s.lampStage.gate g =
    { s.gate g with lamp := laneAspect (s.ap g.ap).closure ((s.kinds g.ap).at g.ix) (s.gate g) } := by
  unfold gate lampStage
  rw [onUsedAps_ap, if_pos (usesAp_of_gateUsed h)]
  exact Six.zip_at _ _ _ _

theorem lampStage_closure (s : State) (x : Ap) : (s.lampStage.ap x).closure = (s.ap x).closure := by
  unfold lampStage
  rw [onUsedAps_ap]
  split <;> rfl

theorem lampStage_gateUsed (s : State) (g : GateId) : s.lampStage.gateUsed g = s.gateUsed g := by
  rw [lampStage_frame]; rfl

theorem lampStage_lampsFormed (s : State) : s.lampStage.LampsFormed := by
  intro g used
  rw [lampStage_gateUsed] at used
  have kind : ((s.kinds g.ap).at g.ix == .unused) = false := beq_false_of_ne (kind_ne_unused used)
  dsimp only
  rw [lampStage_closure, lampStage_gate used]
  cases e : (s.ap g.ap).closure <;> simp [laneAspect, kind]

theorem outputs_lampsFormed (s : State) : s.outputs.LampsFormed := lampStage_lampsFormed s.aspectStage

/-! ### The seated states (R62) -/

theorem ownedLocksAre_iff (s : State) (l : LockState) :
    s.ownedLocksAre l = true ↔ s.locks.tail.state = l ∧ (s.role ≠ .follow → s.locks.toe.state = l) := by
  simp only [ownedLocksAre, Bool.and_eq_true, Bool.or_eq_true, beq_iff_eq]
  tauto

theorem seatedState_eq_locked_iff (s : State) : s.seatedState = .seatedLocked ↔ s.ownedLocksAre .driven = true := by
  unfold seatedState
  split <;> simp_all

theorem seatLockStage_seatedFollows (s : State) : s.seatLockStage.SeatedFollows := by
  intro seated
  show s.seatLockStage.motion.state = .seatedLocked ↔ _
  by_cases h : s.isSeated = true
  · have state : s.seatLockStage.motion.state = s.seatedState := by simp [seatLockStage, h]
    rw [state, seatedState_eq_locked_iff, ownedLocksAre_iff, seatLockStage_frame]
  · have still : s.seatLockStage = s := by simp [seatLockStage, h]
    rw [still] at seated
    exact absurd seated (by simpa [isSeated] using h)

/-- A lock takes the drive command as DRIVEN exactly where it was (R76). -/
theorem drive_driven_iff (l : Lock) (t : Int) : (l.drive t).state = .driven ↔ l.state = .driven := by
  unfold Lock.drive
  split
  · rfl
  · split <;> simp_all

/-- A pending TOE drive moves no lock to or from DRIVEN. -/
theorem toeStage_seatedFollows {s : State} (h : s.SeatedFollows) : s.toeStage.SeatedFollows := by
  unfold toeStage
  repeat' split
  · exact h
  · intro seated
    have before := h seated
    show _ ↔ _ ∧ (_ → (s.locks.toe.drive _).state = .driven)
    rw [drive_driven_iff]
    exact before
  all_goals exact h

/-- The promise speaks of the motion state, the locks and the role alone. -/
theorem SeatedFollows.congr {s t : State} (h : s.SeatedFollows) (motion : t.motion.state = s.motion.state)
    (locks : t.locks = s.locks) (role : t.role = s.role) : t.SeatedFollows := by
  unfold SeatedFollows
  rw [motion, locks, role]
  exact h

/-- What follows the leaf and the locks in a round leaves them and the role alone. -/
theorem reactTail_frame (s : State) :
    let t := s.roadStage.startTest.advancePhase.channelStage
    t.motion = s.motion ∧ t.locks = s.locks ∧ t.role = s.role ∧ t.settings = s.settings := by
  dsimp only
  rw [channelStage_frame, advancePhase_frame, startTest_frame, roadStage_frame]
  exact ⟨rfl, rfl, rfl, rfl⟩

theorem outputs_motion_state (s : State) : s.outputs.motion.state = s.motion.state := by
  unfold outputs
  rw [lampStage_frame]
  rfl

theorem outputs_locks (s : State) : s.outputs.locks = s.locks := by
  unfold outputs
  rw [lampStage_frame]
  rfl

theorem outputs_role (s : State) : s.outputs.role = s.role := by
  unfold outputs
  rw [lampStage_frame]
  rfl

theorem react_outputs_seatedFollows (s : State) : s.react.outputs.SeatedFollows := by
  unfold react
  generalize s.reportAll.permitStage.angleStage.endSuspension.tryCommand = v
  obtain ⟨motion, locks, role, -⟩ := reactTail_frame v.seatLockStage.toeStage
  exact (toeStage_seatedFollows (seatLockStage_seatedFollows v)).congr
    ((outputs_motion_state _).trans (congrArg Motion.state motion)) ((outputs_locks _).trans locks)
    ((outputs_role _).trans role)

/-! ### The gates on their way up (R88) -/

end State

/-- A gate on its way up is RELEASED, on a SEATED_LOCKED leaf. -/
def Gate.Safe (locked : Bool) (g : Gate) : Prop := g.state = .raising → g.held = false ∧ locked = true

/-- What the pursuit of a demand can do to a gate (R88): nothing, where a gate on its way up may rise; or it is set moving,
up only where it may rise, and from rest only with no retry wait running (R90). -/
theorem Gate.pursue_cases (x : RoadCtx) (g : Gate) :
    (g.pursue x = g ∧ g.Safe x.locked) ∨
      (g.state = .lowering ∨ g.state = .raising ∨ g.retryWait.isRunning = false) ∧
        (g.pursue x = g.move .lowering x.gateTime ∨
          (g.held = false ∧ x.locked = true) ∧ g.pursue x = g.move .raising x.gateTime) := by
  unfold Gate.pursue Gate.Safe
  cases e : g.state <;> dsimp only
  case jammed => exact .inl ⟨rfl, nofun⟩
  case raising => split <;> simp_all
  case lowering => split <;> simp_all
  all_goals
    split
    · exact .inl ⟨rfl, nofun⟩
    · cases g.demand <;> dsimp only <;> (try split) <;> simp_all

theorem Gate.pursue_safe (x : RoadCtx) (g : Gate) : (g.pursue x).Safe x.locked := by
  rcases g.pursue_cases x with ⟨same, safe⟩ | ⟨-, down | ⟨may, up⟩⟩
  · rw [same]; exact safe
  · rw [down]; exact fun up => nomatch up
  · rw [up]; exact fun _ => may

theorem Gate.endTravel_safe {x : RoadCtx} {l : Bool} {g : Gate} (h : g.Safe l) (c : Closure) (k : GateKind) :
    (g.endTravel x c k).Safe l := by
  unfold Gate.endTravel
  dsimp only
  split
  · rw [Gate.maybeFlash_frame]; exact fun up => nomatch up
  · split
    · exact fun up => nomatch up
    · split
      · rw [Gate.maybeFlash_frame]; exact fun up => nomatch up
      · exact h

theorem Gate.meetObstruct_safe {x : RoadCtx} {g : Gate} (h : g.Safe x.locked) : (g.meetObstruct x).Safe x.locked := by
  unfold Gate.meetObstruct
  repeat' split
  · exact fun up => nomatch up
  next may => intro _; simpa [Gate.move] using may
  · exact fun up => nomatch up
  · exact h

theorem Gate.round_safe (x : RoadCtx) (c : Closure) (st : Option ReopenStep) {k : GateKind} (used : k ≠ .unused)
    (g : Gate) : (g.round x c st k).Safe x.locked := by
  unfold Gate.round
  rw [if_neg (by simpa using used)]
  exact Gate.meetObstruct_safe (Gate.endTravel_safe (Gate.pursue_safe _ _) _ _)

theorem Approach.followZones_gates (x : RoadCtx) (a : Approach) : (a.followZones x).gates = a.gates := by
  unfold Approach.followZones
  repeat' split
  all_goals rfl

theorem Approach.gateAdvance_gates {x : RoadCtx} {a b : Approach} (h : a.gateAdvance x = some b) : a.GatesRest b := by
  unfold Approach.gateAdvance Approach.toClearing at h
  repeat' split at h
  all_goals first
    | (obtain rfl := Option.some.inj h; exact Approach.enter_gates _ _ _ _ _)
    | (obtain rfl := Option.some.inj h; exact .refl a)
    | cases h

theorem Approach.advance_gates (x : RoadCtx) (a : Approach) : a.GatesRest (a.advance x) := by
  unfold Approach.advance
  split
  next b h => split; exacts [.refl a, Approach.gateAdvance_gates h]
  next => exact .refl a

/-- A round gives each gate its own round, and a hold flash where the closure state changes. -/
theorem Approach.round_gate (x : RoadCtx) (a : Approach) (i : Fin 6) : (a.round x).gates.at i =
    { (a.gates.at i).round x a.closure a.reopenStep (x.kinds.at i) with
      holdFlash := ((a.round x).gates.at i).holdFlash } := by
  have rounded : (Six.zip (fun k g => Gate.round x a.closure a.reopenStep k g) x.kinds a.gates).at i =
      (a.gates.at i).round x a.closure a.reopenStep (x.kinds.at i) := Six.zip_at _ _ _ i
  have rest := Approach.advance_gates x
    (({ a with gates := Six.zip (fun k g => Gate.round x a.closure a.reopenStep k g) x.kinds a.gates }).followZones x) i
  rw [Approach.followZones_gates, rounded] at rest
  exact rest

namespace State

theorem roadStage_gate {s : State} {g : GateId} (used : s.usesAp g.ap = true) : s.roadStage.gate g =
    { (s.gate g).round (s.roadCtx g.ap) (s.ap g.ap).closure (s.ap g.ap).reopenStep ((s.kinds g.ap).at g.ix) with
      holdFlash := (s.roadStage.gate g).holdFlash } := by
  have e : s.roadStage.gate g = ((s.ap g.ap).round (s.roadCtx g.ap)).gates.at g.ix := by
    unfold gate roadStage
    rw [onUsedAps_ap, if_pos used]
  rw [e]
  exact Approach.round_gate _ _ _

theorem roadStage_gatesSafe (s : State) : s.roadStage.GatesSafe := by
  intro g used up
  have used' : s.gateUsed g = true := by rw [roadStage_frame] at used; exact used
  rw [roadStage_gate (usesAp_of_gateUsed used')] at up ⊢
  have safe := Gate.round_safe (s.roadCtx g.ap) (s.ap g.ap).closure (s.ap g.ap).reopenStep (kind_ne_unused used') (s.gate g)
  obtain ⟨held, locked⟩ := safe up
  refine ⟨held, ?_⟩
  rw [roadStage_frame]
  exact beq_iff_eq.mp locked

theorem gateUsed_congr {s t : State} (role : t.role = s.role) (settings : t.settings = s.settings) (g : GateId) :
    t.gateUsed g = s.gateUsed g := by
  cases s
  cases t
  cases role
  cases settings
  rfl

/-- The promise speaks of the gates' travel and hold, their use, and the motion state alone. -/
theorem GatesSafe.congr {s t : State} (h : s.GatesSafe) (state : ∀ g, (t.gate g).state = (s.gate g).state)
    (held : ∀ g, (t.gate g).held = (s.gate g).held) (motion : t.motion.state = s.motion.state) (role : t.role = s.role)
    (settings : t.settings = s.settings) : t.GatesSafe := by
  intro g used up
  rw [state] at up
  rw [held, motion]
  exact h g (gateUsed_congr role settings g ▸ used) up

theorem outputs_settings (s : State) : s.outputs.settings = s.settings := by
  unfold outputs
  rw [lampStage_frame]
  rfl

theorem react_outputs_gatesSafe (s : State) : s.react.outputs.GatesSafe := by
  unfold react
  generalize s.reportAll.permitStage.angleStage.endSuspension.tryCommand.seatLockStage.toeStage = v
  have rest : v.roadStage.GatesRest v.roadStage.startTest.advancePhase.channelStage :=
    (startTest_gates _).trans ((advancePhase_gates _).trans (channelStage_gates _))
  obtain ⟨motion, -, role, settings⟩ := reactTail_frame v
  have lamps : ∀ (w : State) (g : GateId), w.outputs.gate g = { w.gate g with lamp := (w.outputs.gate g).lamp } := by
    intro w g
    show w.aspectStage.lampStage.gate g = { w.gate g with lamp := (w.aspectStage.lampStage.gate g).lamp }
    unfold gate lampStage
    rw [onUsedAps_ap]
    split
    · rw [show (Approach.setLamps _ _).gates.at g.ix = _ from Six.zip_at _ _ _ _]; rfl
    · rfl
  refine (roadStage_gatesSafe v).congr (fun g => ?_) (fun g => ?_) ?_ ?_ ?_
  · rw [lamps, rest g]
  · rw [lamps, rest g]
  · rw [outputs_motion_state, motion, roadStage_frame]
  · rw [outputs_role, role, roadStage_frame]
  · rw [outputs_settings, settings, roadStage_frame]

end State

end Sys2Proof.Machine
end

section
/-!
SUPPORT. The book under each operation: what the record rules say of a record beside its place in an opening (R1 to R4, R18),
and where the records of an opening stand (R121, R129).
-/

namespace Sys2Proof.Machine

open Sys2Proof

/-! ### The record rules (R1, R3, R4) -/

/-- What the record rules say of a record. -/
structure Life where
  number : Nat
  vessel : Nat
  dir : Dir
  follows : Option Nat
  closedAt : Option Nat
  live : Bool

def Rec.life (r : Rec) : Life :=
  { number := r.number, vessel := r.vessel, dir := r.dir, follows := r.follows, closedAt := r.closedAt, live := r.live }

/-- A record CALLED or PASSING. -/
def Rec.inCall (r : Rec) : Bool := r.state == .called || r.state == .passing

/-- A record whose number belongs on the group list. -/
def Rec.inGroup (r : Rec) : Prop := r.state = .grouped ∨ r.state = .called ∨ r.state = .passing

namespace State

/-- The record rules see no difference between two books. -/
structure SameLives (s t : State) : Prop where
  lives : t.book.records.map Rec.life = s.book.records.map Rec.life
  counter : t.book.counter = s.book.counter

theorem SameLives.trans {s t u : State} (h : s.SameLives t) (h' : t.SameLives u) : s.SameLives u :=
  ⟨h'.lives.trans h.lives, h'.counter.trans h.counter⟩

theorem SameLives.map {α : Type} {s t : State} (h : s.SameLives t) (f : Life → α) :
    t.book.records.map (f ∘ Rec.life) = s.book.records.map (f ∘ Rec.life) := by
  rw [← List.map_map, h.lives, List.map_map]

theorem SameLives.of_book {s t : State} (h : t.book = s.book) : s.SameLives t := by
  exact ⟨by rw [h], by rw [h]⟩

theorem SameLives.numbers {s t : State} (h : s.SameLives t) :
    t.book.records.map (·.number) = s.book.records.map (·.number) := h.map Life.number

/-- A record of one book has its like in the other. -/
theorem SameLives.like {s t : State} (h : s.SameLives t) {r : Rec} (hr : r ∈ t.book.records) :
    ∃ q ∈ s.book.records, q.life = r.life := by
  have like : r.life ∈ s.book.records.map Rec.life := h.lives ▸ List.mem_map_of_mem hr
  exact List.mem_map.mp like

theorem BookNumbered.of_numbers {s t : State} (h : s.BookNumbered)
    (numbers : t.book.records.map (·.number) = s.book.records.map (·.number)) (counter : t.book.counter = s.book.counter) :
    t.BookNumbered := by
  obtain ⟨few, apart, range, low, high⟩ := h
  have length : t.book.records.length = s.book.records.length := by simpa using congrArg List.length numbers
  refine ⟨length ▸ few, numbers ▸ apart, fun r hr => ?_, counter ▸ low, counter ▸ high⟩
  have mem : r.number ∈ s.book.records.map (·.number) := numbers ▸ List.mem_map_of_mem hr
  obtain ⟨q, hq, same⟩ := List.mem_map.mp mem
  exact same ▸ range q hq

theorem BookNumbered.of_lives {s t : State} (h : s.BookNumbered) (lives : s.SameLives t) : t.BookNumbered :=
  h.of_numbers lives.numbers lives.counter

theorem liveVessels_eq (rs : List Rec) : (rs.filter Rec.live).map (·.vessel) =
    ((rs.map fun r => (r.live, r.vessel)).filter (·.1)).map (·.2) := by
  rw [List.filter_map, List.map_map]
  rfl

theorem VesselsApart.of_vessels {s t : State} (h : s.VesselsApart)
    (vessels : (t.book.records.map fun r => (r.live, r.vessel)) = s.book.records.map fun r => (r.live, r.vessel)) :
    t.VesselsApart := by
  unfold VesselsApart at *
  rwa [liveVessels_eq, vessels, ← liveVessels_eq]

theorem VesselsApart.of_lives {s t : State} (h : s.VesselsApart) (lives : s.SameLives t) : t.VesselsApart :=
  h.of_vessels (lives.map fun l => (l.live, l.vessel))

theorem ClosedMarked.of_lives {s t : State} (h : s.ClosedMarked) (lives : s.SameLives t) : t.ClosedMarked := by
  intro r hr
  obtain ⟨q, hq, like⟩ := lives.like hr
  have closedAt : q.closedAt = r.closedAt := congrArg Life.closedAt like
  have live : q.live = r.live := congrArg Life.live like
  rw [← closedAt, ← live]
  exact h q hq

theorem FollowsEarlier.of_lives {s t : State} (h : s.FollowsEarlier) (lives : s.SameLives t) : t.FollowsEarlier := by
  intro xs r ys split live n follows
  have parts := lives.lives
  rw [split, List.map_append, List.map_cons] at parts
  obtain ⟨xs', rest, split', before, after⟩ := List.map_eq_append_iff.mp parts.symm
  obtain ⟨r', ys', rfl, like, -⟩ := List.map_eq_cons_iff.mp after
  have live' : r'.live = true := (congrArg Life.live like).trans live
  have follows' : r'.follows = some n := (congrArg Life.follows like).trans follows
  have dir : r'.dir = r.dir := congrArg Life.dir like
  obtain ⟨q', hq', number, livesOn, sameDir⟩ := h xs' r' ys' split' live' n follows'
  have mem : q'.life ∈ xs.map Rec.life := before ▸ List.mem_map_of_mem hq'
  obtain ⟨q, hq, same⟩ := List.mem_map.mp mem
  exact ⟨q, hq, (congrArg Life.number same).trans number, (congrArg Life.live same).trans livesOn,
    (congrArg Life.dir same).trans (sameDir.trans dir)⟩

/-! ### One record among others -/

/-- Under different numbers a record of the number found is the one found (R4). -/
theorem eq_of_findRec {s : State} (apart : (s.book.records.map (·.number)).Nodup) {n : Nat} {r q : Rec}
    (found : s.findRec n = some r) (hq : q ∈ s.book.records) (number : q.number = n) : q = r := by
  subst number
  exact Option.some.inj ((find?_number apart hq).symm.trans found)

theorem findRec_mem {s : State} {n : Nat} {r : Rec} (found : s.findRec n = some r) :
    r ∈ s.book.records ∧ r.number = n :=
  ⟨List.mem_of_find?_eq_some found, by simpa using List.find?_some found⟩

theorem findRec_of_mem {s : State} (apart : (s.book.records.map (·.number)).Nodup) {r : Rec} (hr : r ∈ s.book.records) :
    s.findRec r.number = some r :=
  find?_number apart hr

@[simp] theorem modRec_records (s : State) (n : Nat) (f : Rec → Rec) : (s.modRec n f).book.records =
    s.book.records.map fun r => if r.number == n then f r else r := rfl

/-- A live record takes a state of a live one (R17). -/
theorem setRecState_lives {s : State} {n : Nat} {st : RecState} (was : ∀ r ∈ s.book.records, r.number = n → r.live = true)
    (is : ∀ r : Rec, { r with state := st }.live = true) : s.SameLives (s.setRecState n st) where
  lives := by
    rw [setRecState, modRec_records, List.map_map]
    refine List.map_congr_left fun r hr => ?_
    dsimp only [Function.comp]
    split
    next same =>
      have live : r.live = true := was r hr (by simpa using same)
      simp [Rec.life, live, show ({ r with state := st, changed := true } : Rec).live = true from is r]
    next => rfl
  counter := rfl

/-! ### The calls and the group list (R121, R129) -/

theorem OneCall.of_map {s t : State} (h : s.OneCall) {f : Rec → Rec} (records : t.book.records = s.book.records.map f)
    (fewer : ∀ r ∈ s.book.records, (f r).inCall = true → r.inCall = true) : t.OneCall := by
  unfold OneCall at *
  rw [records, List.countP_map]
  exact (List.countP_mono_left fewer).trans h

/-- The list loses the numbers that a test rejects, and the records with them. -/
theorem GroupExact.of_map {s t : State} (h : s.GroupExact) {f : Rec → Rec} (records : t.book.records = s.book.records.map f)
    (numbers : ∀ r, (f r).number = r.number) {keep : Nat → Bool} (list : t.opening.group = s.opening.group.filter keep)
    (exact : ∀ r ∈ s.book.records, (f r).inGroup ↔ keep r.number = true ∧ r.inGroup) : t.GroupExact := by
  obtain ⟨six, apart, held, listed⟩ := h
  refine ⟨?_, list ▸ apart.filter _, fun n hn => ?_, fun r hr => ?_⟩
  · rw [list]; exact (List.length_filter_le _ _).trans six
  · rw [list] at hn
    obtain ⟨r, hr, number⟩ := held n (List.mem_of_mem_filter hn)
    exact ⟨f r, records ▸ List.mem_map_of_mem hr, (numbers r).trans number⟩
  · rw [records] at hr
    obtain ⟨q, hq, rfl⟩ := List.mem_map.mp hr
    rw [list, numbers, List.mem_filter]
    refine Iff.trans ?_ (exact q hq).symm
    rw [and_comm]
    exact and_congr_right fun _ => listed q hq

theorem GroupExact.of_map_same {s t : State} (h : s.GroupExact) {f : Rec → Rec}
    (records : t.book.records = s.book.records.map f) (numbers : ∀ r, (f r).number = r.number)
    (list : t.opening.group = s.opening.group) (exact : ∀ r ∈ s.book.records, (f r).inGroup ↔ r.inGroup) :
    t.GroupExact :=
  h.of_map records numbers (keep := fun _ => true) (by rw [list, List.filter_true]) fun r hr => by simpa using exact r hr

/-- Every promise about the book and the group list is carried from one state to the next. -/
structure BookKeeps (s t : State) : Prop where
  numbered : s.BookNumbered → t.BookNumbered
  vessels : s.BookNumbered → s.VesselsApart → t.VesselsApart
  marked : s.BookNumbered → s.ClosedMarked → t.ClosedMarked
  follows : s.BookNumbered → s.FollowsEarlier → t.FollowsEarlier
  calls : s.BookNumbered → s.OneCall → t.OneCall
  group : s.BookNumbered → s.GroupExact → t.GroupExact

namespace BookKeeps

theorem trans {s t u : State} (h : s.BookKeeps t) (h' : t.BookKeeps u) : s.BookKeeps u where
  numbered n := h'.numbered (h.numbered n)
  vessels n p := h'.vessels (h.numbered n) (h.vessels n p)
  marked n p := h'.marked (h.numbered n) (h.marked n p)
  follows n p := h'.follows (h.numbered n) (h.follows n p)
  calls n p := h'.calls (h.numbered n) (h.calls n p)
  group n p := h'.group (h.numbered n) (h.group n p)

theorem of_lives {s t : State} (lives : s.BookNumbered → s.SameLives t) (calls : s.BookNumbered → s.OneCall → t.OneCall)
    (group : s.BookNumbered → s.GroupExact → t.GroupExact) : s.BookKeeps t where
  numbered n := n.of_lives (lives n)
  vessels n p := p.of_lives (lives n)
  marked n p := p.of_lives (lives n)
  follows n p := p.of_lives (lives n)
  calls := calls
  group := group

/-- What writes neither the records nor the list carries them all. -/
theorem of_same {s t : State} (book : t.book = s.book) (list : t.opening.group = s.opening.group) : s.BookKeeps t :=
  of_lives (fun _ => .of_book book) (fun _ p => by unfold OneCall at *; rwa [book]) fun _ p => by
    unfold GroupExact at *
    rwa [book, list]

theorem refl (s : State) : s.BookKeeps s := of_same rfl rfl

end BookKeeps

/-- A record takes a state (R17). -/
theorem setRecState_records (s : State) (n : Nat) (st : RecState) : (s.setRecState n st).book.records =
    s.book.records.map fun r => if r.number == n then { r with state := st, changed := true } else r := rfl

/-- A record that is found takes another state that keeps its number on the list, and no new call. -/
theorem setRecState_bookKeeps {s t : State} {r : Rec} {st : RecState} (found : s.findRec r.number = some r)
    (inGroup : r.inGroup) (is : st = .grouped ∨ st = .called ∨ st = .passing)
    (calls : st ≠ .grouped → r.inCall = true) (book : t.book = (s.setRecState r.number st).book)
    (list : t.opening.group = s.opening.group) : s.BookKeeps t := by
  have one : s.BookNumbered → ∀ q ∈ s.book.records, q.number = r.number → q = r := fun numbered q hq number =>
    eq_of_findRec numbered.2.1 found hq number
  have records : t.book.records = _ := (congrArg Book.records book).trans (setRecState_records s r.number st)
  refine .of_lives (fun numbered => ?_) (fun numbered p => ?_) fun numbered p => ?_
  · have lives : s.SameLives (s.setRecState r.number st) := by
      refine setRecState_lives (fun q hq number => ?_) fun q => ?_
      · rw [one numbered q hq number]
        rcases inGroup with h | h | h <;> simp [Rec.live, h]
      · rcases is with rfl | rfl | rfl <;> rfl
    exact lives.trans (.of_book book)
  · refine p.of_map records fun q hq called => ?_
    split at called
    next number =>
      rw [one numbered q hq (by simpa using number)]
      refine calls fun e => ?_
      subst e
      cases called
    next => exact called
  · refine p.of_map_same records (fun q => by split <;> rfl) list fun q hq => ?_
    split
    next number =>
      rw [one numbered q hq (by simpa using number)]
      exact ⟨fun _ => inGroup, fun _ => is⟩
    next => rfl

/-- The CALLED record of the call context stands in the book under its number. -/
theorem calledRec_found {s : State} {r : Rec} (called : s.calledRec = some r) :
    s.findRec r.number = some r ∧ r.state = .called ∧ s.signals.call.called = some r.number := by
  unfold calledRec at called
  split at called
  next n named =>
    obtain ⟨found, state⟩ := Option.filter_eq_some_iff.mp called
    obtain ⟨-, rfl⟩ := findRec_mem found
    exact ⟨found, by simpa using state, named⟩
  next => cases called

theorem revoke_bookKeeps {s : State} {r : Rec} (called : s.calledRec = some r) : s.BookKeeps (s.revoke r) := by
  obtain ⟨found, state, -⟩ := calledRec_found called
  refine setRecState_bookKeeps found (.inr (.inl state)) (.inl rfl) (fun h => absurd rfl h) ?_ ?_
  · unfold revoke; rw [callEnd_frame]
  · rw [revoke_frame]

theorem revokeCalled_bookKeeps (s : State) : s.BookKeeps s.revokeCalled := by
  unfold revokeCalled
  split
  next r called => exact revoke_bookKeeps called
  next => exact .refl s

theorem enterHalt_bookKeeps (s : State) (f : FaultId) : s.BookKeeps (s.enterHalt f) := by
  have halted : s.BookKeeps ((s.setHalted f).haltMotion.haltLocks.revokeCalled) :=
    (show s.BookKeeps (s.setHalted f).haltMotion.haltLocks from .of_same rfl rfl).trans (revokeCalled_bookKeeps _)
  have suspended : ∀ u : State, u.BookKeeps u.haltOpening := fun u => by
    unfold haltOpening
    split <;> exact .of_same rfl rfl
  have toned : ∀ u : State, u.BookKeeps u.startTone := fun u => by
    unfold startTone
    split <;> exact .of_same rfl rfl
  exact halted.trans ((suspended _).trans (toned _))

theorem raise_bookKeeps (s : State) (f : FaultId) : s.BookKeeps (s.raise f) := by
  unfold raise
  split
  · exact .refl s
  · dsimp only
    have latched : s.BookKeeps (s.setFault f { s.fault f with latch := true }) := .of_same rfl rfl
    split
    · exact latched.trans (enterHalt_bookKeeps _ _)
    · exact latched

end State

end Sys2Proof.Machine
end

section
/-!
SUPPORT. Records that leave an opening, close, or join it: what each does to the book and the group list (R18, R129, R131,
R139).
-/

namespace Sys2Proof.Machine

open Sys2Proof

/-- A record as it stands once those of a number have entered a closed state (R18). -/
def Rec.afterClose (n : Nat) (st : RecState) (clock : Nat) (r : Rec) : Rec :=
  let q := if r.number == n then { r with state := st, closedAt := some clock, changed := true } else r
  if q.live && q.follows == some n then { q with follows := none, changed := true } else q

/-- A closed state (R2). -/
def RecState.closes (st : RecState) : Prop := st = .passed ∨ st = .cancelled ∨ st = .lapsed

namespace State

/-- The records of a number leave the list for a state outside the group. -/
theorem leave_listed {s t : State} {n : Nat} {g : Rec → Rec}
    (records : t.book.records = s.book.records.map fun q => if q.number == n then g q else q)
    (numbers : ∀ q, (g q).number = q.number) (out : ∀ q, ¬(g q).inGroup)
    (list : t.opening.group = s.opening.group.filter (· != n)) :
    (s.OneCall → t.OneCall) ∧ (s.GroupExact → t.GroupExact) := by
  refine ⟨fun p => ?_, fun p => ?_⟩
  · refine p.of_map records fun q _ called => ?_
    split at called
    · refine absurd ?_ (out q)
      simp only [Rec.inCall, Bool.or_eq_true, beq_iff_eq] at called
      exact .inr called
    · exact called
  · refine p.of_map records (fun q => by split; exacts [numbers q, rfl]) list fun q _ => ?_
    split
    next same => simp [out q, bne, same]
    next other => simp [bne, other]

/-! ### Returns (R17, R124, R142) -/

theorem leaveGroup_book (s : State) (n : Nat) : (s.leaveGroup n).book = s.book := by rw [leaveGroup_frame]

theorem setRecState_twice (s : State) (n : Nat) (st st' : RecState) :
    ((s.setRecState n st).setRecState n st').book = (s.setRecState n st').book := by
  have twice : ∀ r : Rec, (if (if r.number == n then { r with state := st, changed := true } else r).number == n then
        { (if r.number == n then { r with state := st, changed := true } else r) with state := st', changed := true }
      else if r.number == n then { r with state := st, changed := true } else r) =
      if r.number == n then { r with state := st', changed := true } else r := by
    intro r
    by_cases same : (r.number == n) = true <;> simp [same]
  simp only [setRecState, modRec, List.map_map, Function.comp_def, twice]

/-- A record that is found, live, is BOOKED again and off the list. -/
theorem unbook_bookKeeps {s t : State} {n : Nat} {r : Rec} (found : s.findRec n = some r) (live : r.live = true)
    (book : t.book = (s.setRecState n .booked).book) (list : t.opening.group = s.opening.group.filter (· != n)) :
    s.BookKeeps t := by
  obtain ⟨calls, group⟩ := leave_listed (s := s) (t := t) (n := n) (g := fun q => { q with state := .booked, changed := true })
    (congrArg Book.records book) (fun _ => rfl) (fun _ => by simp [Rec.inGroup]) list
  refine .of_lives (fun numbered => ?_) (fun _ => calls) fun _ => group
  refine (setRecState_lives (n := n) (st := .booked) (fun q hq number => ?_) fun _ => rfl).trans (.of_book book)
  rw [eq_of_findRec numbered.2.1 found hq number]
  exact live

theorem returnToBooked_bookKeeps (s : State) (n : Nat) : s.BookKeeps (s.returnToBooked n) := by
  unfold returnToBooked
  split
  next r found =>
    split
    next grouped =>
      refine unbook_bookKeeps found (by simp [Rec.live, grouped]) ?_ ?_
      · rw [leaveGroup_book]
      · rw [leaveGroup_group]; rfl
    next called =>
      obtain ⟨-, rfl⟩ := findRec_mem found
      refine unbook_bookKeeps found (by simp [Rec.live, called]) ?_ ?_
      · rw [leaveGroup_book, revoke, callEnd_frame]
        exact setRecState_twice s r.number .grouped .booked
      · rw [leaveGroup_group, revoke_frame]; rfl
    next => exact .refl s
  next => exact .refl s

theorem returnAll_bookKeeps (s : State) : s.BookKeeps s.returnAll :=
  foldl_frame returnToBooked BookKeeps .refl (fun _ _ _ => .trans) returnToBooked_bookKeeps _ s

/-! ### Closing (R18) -/

/-- The state after a record has closed, before the book is examined for joins (R18). -/
def closed (s : State) (n : Nat) (st : RecState) : State :=
  ((s.modRec n fun r => { r with state := st, closedAt := some s.clock, changed := true }).leaveGroup n).freeFollowers n

theorem closeRec_eq (s : State) (n : Nat) (st : RecState) : s.closeRec n st = (s.closed n st).examineJoins := rfl

theorem closed_records (s : State) (n : Nat) (st : RecState) :
    (s.closed n st).book.records = s.book.records.map (Rec.afterClose n st s.clock) := by
  unfold closed freeFollowers
  rw [leaveGroup_book, modRec_records, List.map_map]
  rfl

theorem closed_group (s : State) (n : Nat) (st : RecState) :
    (s.closed n st).opening.group = s.opening.group.filter (· != n) := leaveGroup_group _ n

theorem live_of_closes {st : RecState} (h : st.closes) {r : Rec} (is : r.state = st) : r.live = false := by
  rcases h with rfl | rfl | rfl <;> simp [Rec.live, is]

theorem afterClose_same {st : RecState} (h : st.closes) (n : Nat) (clock : Nat) {r : Rec} (same : r.number = n) :
    r.afterClose n st clock = { r with state := st, closedAt := some clock, changed := true } := by
  subst same
  have dead := live_of_closes h (r := { r with state := st, closedAt := some clock, changed := true }) rfl
  simp [Rec.afterClose, dead]

theorem afterClose_other (st : RecState) {n : Nat} (clock : Nat) {r : Rec} (other : r.number ≠ n) :
    r.afterClose n st clock =
      if r.live = true ∧ r.follows = some n then { r with follows := none, changed := true } else r := by
  simp [Rec.afterClose, other]

/-- What a closing leaves of a record: its number, vessel and direction. -/
theorem afterClose_keeps (n : Nat) (st : RecState) (clock : Nat) (r : Rec) :
    (r.afterClose n st clock).number = r.number ∧ (r.afterClose n st clock).vessel = r.vessel ∧
      (r.afterClose n st clock).dir = r.dir := by
  unfold Rec.afterClose
  dsimp only
  split <;> split <;> exact ⟨rfl, rfl, rfl⟩

theorem afterClose_live {st : RecState} (h : st.closes) (n : Nat) (clock : Nat) (r : Rec) :
    (r.afterClose n st clock).live = true ↔ r.number ≠ n ∧ r.live = true := by
  by_cases same : r.number = n
  · rw [afterClose_same h n clock same]
    simp [same, live_of_closes h]
  · rw [afterClose_other st clock same]
    split <;> simp [same, Rec.live]

theorem afterClose_state {st : RecState} {n : Nat} {clock : Nat} {r : Rec} (other : r.number ≠ n) :
    (r.afterClose n st clock).state = r.state := by
  rw [afterClose_other st clock other]
  split <;> rfl

theorem closed_bookKeeps (s : State) (n : Nat) {st : RecState} (h : st.closes) : s.BookKeeps (s.closed n st) where
  numbered p := by
    refine p.of_numbers ?_ ?_
    · rw [closed_records, List.map_map]
      exact List.map_congr_left fun r _ => (afterClose_keeps n st s.clock r).1
    · unfold closed freeFollowers
      rw [leaveGroup_book]
      rfl
  vessels _ p := by
    unfold VesselsApart at *
    rw [closed_records, List.filter_map, List.map_map]
    have vessel : (Rec.vessel ∘ Rec.afterClose n st s.clock) = Rec.vessel :=
      funext fun r => (afterClose_keeps n st s.clock r).2.1
    have still : ∀ r : Rec, (Rec.live ∘ Rec.afterClose n st s.clock) r = true → r.live = true :=
      fun r live => ((afterClose_live h n s.clock r).mp live).2
    rw [vessel]
    exact p.sublist ((List.monotone_filter_right _ still).map _)
  marked _ p := by
    intro r hr
    rw [closed_records] at hr
    obtain ⟨q, hq, rfl⟩ := List.mem_map.mp hr
    by_cases same : q.number = n
    · rw [afterClose_same h n s.clock same]
      simp [live_of_closes h]
    · have closedAt : (q.afterClose n st s.clock).closedAt = q.closedAt := by
        rw [afterClose_other st s.clock same]
        split <;> rfl
      have live : (q.afterClose n st s.clock).live = q.live := by
        rw [Bool.eq_iff_iff, afterClose_live h]
        exact and_iff_right same
      rw [closedAt, live]
      exact p q hq
  follows numbered p := by
    intro xs r ys split live m follows
    rw [closed_records] at split
    obtain ⟨xs', rest, split', rfl, after⟩ := List.map_eq_append_iff.mp split
    obtain ⟨r', ys', rfl, rfl, -⟩ := List.map_eq_cons_iff.mp after
    obtain ⟨other, live'⟩ := (afterClose_live h n s.clock r').mp live
    rw [afterClose_other st s.clock other] at follows
    split at follows
    next => cases follows
    next stays =>
      obtain ⟨q, hq, number, liveq, dir⟩ := p xs' r' ys' split' live' m follows
      have apart : m ≠ n := fun e => stays ⟨live', e ▸ follows⟩
      obtain ⟨sameNumber, -, sameDir⟩ := afterClose_keeps n st s.clock q
      exact ⟨_, List.mem_map_of_mem hq, sameNumber.trans number, (afterClose_live h n s.clock q).mpr ⟨number ▸ apart, liveq⟩,
        sameDir.trans (dir.trans (afterClose_keeps n st s.clock r').2.2.symm)⟩
  calls _ p := by
    refine p.of_map (closed_records s n st) fun r _ called => ?_
    by_cases same : r.number = n
    · rw [afterClose_same h n s.clock same] at called
      rcases h with rfl | rfl | rfl <;> cases called
    · unfold Rec.inCall at *
      rwa [afterClose_state same] at called
  group _ p := by
    refine p.of_map (closed_records s n st) (fun r => (afterClose_keeps n st s.clock r).1) (closed_group s n st) fun r _ => ?_
    by_cases same : r.number = n
    · rw [afterClose_same h n s.clock same]
      rcases h with rfl | rfl | rfl <;> simp [Rec.inGroup, same]
    · unfold Rec.inGroup
      rw [afterClose_state same]
      simp [same]

end State

end Sys2Proof.Machine
end

section
/-!
SUPPORT. The numbers that are taken into a group, and what the joining of records does to the book and the group list (R129 to
R131, R139).
-/

namespace Sys2Proof.Machine

open Sys2Proof

/-! ### The sort (R131) -/

theorem insertBy_perm {α : Type} (le : α → α → Bool) (x : α) (xs : List α) : (insertBy le x xs).Perm (x :: xs) := by
  induction xs with
  | nil => exact .refl _
  | cons y ys ih =>
    unfold insertBy
    split
    · exact (ih.cons y).trans (.swap x y ys)
    · exact .refl _

theorem sortBy_perm {α : Type} (le : α → α → Bool) (xs : List α) : (sortBy le xs).Perm xs := by
  have sorted : ∀ ys acc : List α, (ys.foldl (fun acc x => insertBy le x acc) acc).Perm (acc ++ ys) := by
    intro ys
    induction ys with
    | nil => intro acc; simp
    | cons y ys ih =>
      intro acc
      refine (ih (insertBy le y acc)).trans ?_
      exact ((insertBy_perm le y acc).append_right ys).trans List.perm_middle.symm
  simpa [sortBy] using sorted xs []

/-! ### Eligible records (R130) -/

/-- The eligible records are takeable records of the book, in book order. -/
theorem eligibleRecs_sublist (horizon : Int) (limit : Option Int) (onList : List Nat) (rs : List Rec) :
    (eligibleRecs horizon limit onList rs).Sublist (rs.filter fun r => r.takeable horizon limit) := by
  have walked : ∀ rs acc : List Rec,
      (rs.foldl (fun acc r => if r.takeable horizon limit &&
          (r.follows.all fun f => onList.contains f || acc.any fun q => q.number == f) then acc ++ [r] else acc) acc).Sublist
        (acc ++ rs.filter fun r => r.takeable horizon limit) := by
    intro rs
    induction rs with
    | nil => intro acc; simp
    | cons r rs ih =>
      intro acc
      rw [List.foldl_cons]
      by_cases takes : r.takeable horizon limit = true
      · rw [List.filter_cons_of_pos (by exact takes)]
        split
        · simpa using ih (acc ++ [r])
        · exact (ih acc).trans ((List.sublist_cons_self _ _).append_left acc)
      · rw [List.filter_cons_of_neg (by exact takes), if_neg (by simp [takes])]
        exact ih acc
  simpa [eligibleRecs] using walked rs []

/-! ### The numbers placed (R131) -/

/-- Numbers placed so far: none twice, no more than the room, and each of a record that may be placed. -/
structure Placing (room : Nat) (may : Nat → Prop) (ns : List Nat) : Prop where
  apart : ns.Nodup
  few : ns.length ≤ room
  ofRec : ∀ n ∈ ns, may n

theorem placeChain_placing {room : Nat} {may : Nat → Prop} {aside : List Rec} (from_ : ∀ q ∈ aside, may q.number) (fuel : Nat) :
    ∀ {acc : List Nat} {r : Rec}, Placing room may acc → may r.number → Placing room may (placeChain fuel room aside acc r) := by
  induction fuel with
  | zero => exact fun p _ => p
  | succ fuel ih =>
    intro acc r p one
    unfold placeChain
    split
    next place =>
      simp only [Bool.and_eq_true, decide_eq_true_eq, Bool.not_eq_true', List.contains_eq_mem, decide_eq_false_iff_not] at place
      have next : Placing room may (acc ++ [r.number]) := by
        refine ⟨?_, by simpa using place.1, fun n hn => ?_⟩
        · exact List.nodup_append.mpr ⟨p.apart, by simp, fun a ha b hb e => place.2 (List.mem_singleton.mp hb ▸ e ▸ ha)⟩
        · rcases List.mem_append.mp hn with h | h
          · exact p.ofRec n h
          · rw [List.mem_singleton.mp h]; exact one
      have folded : ∀ (qs : List Rec) (acc' : List Nat), (∀ q ∈ qs, may q.number) → Placing room may acc' →
          Placing room may (qs.foldl (placeChain fuel room aside) acc') := by
        intro qs
        induction qs with
        | nil => exact fun _ _ p => p
        | cons q qs ihq =>
          intro acc' all p'
          exact ihq _ (fun q' h => all q' (List.mem_cons_of_mem _ h)) (ih p' (all q List.mem_cons_self))
      exact folded _ _ (fun q hq => from_ q (List.mem_of_mem_filter hq)) next
    next => exact p

theorem placeAll_placing {room : Nat} {may : Nat → Prop} {onList : List Nat} (rs : List Rec) :
    ∀ {aside : List Rec} {acc : List Nat}, (∀ r ∈ rs, may r.number) → (∀ q ∈ aside, may q.number) → Placing room may acc →
      Placing room may (placeAll room onList rs aside acc) := by
  induction rs with
  | nil => exact fun _ _ p => p
  | cons r rs ih =>
    intro aside acc all from_ p
    have one : may r.number := all r List.mem_cons_self
    have rest : ∀ q ∈ rs, may q.number := fun q h => all q (List.mem_cons_of_mem _ h)
    unfold placeAll
    split
    · exact ih rest from_ (placeChain_placing from_ 25 p one)
    · refine ih rest (fun q hq => ?_) p
      rcases List.mem_append.mp hq with h | h
      · exact from_ q h
      · rw [List.mem_singleton.mp h]; exact one

namespace State

/-- The numbers taken at one event: none twice, in the room there is, and each of a BOOKED record. -/
theorem taken_placing (s : State) (limit : Option Int) : Placing (6 - s.opening.group.length)
    (fun n => ∃ r ∈ s.book.records, r.number = n ∧ r.state = .booked) (s.taken limit) := by
  refine placeAll_placing _ (fun r hr => ?_) nofun ⟨.nil, by simp, nofun⟩
  have takes := (eligibleRecs_sublist _ _ _ _).mem ((sortBy_perm _ _).mem_iff.mp hr)
  obtain ⟨mem, takeable⟩ := List.mem_filter.mp takes
  simp only [Rec.takeable, Bool.and_eq_true, beq_iff_eq] at takeable
  exact ⟨r, mem, rfl, takeable.1.1.1⟩

/-! ### Grouping (R129) -/

theorem groupThem_records (s : State) (ns : List Nat) : (s.groupThem ns).book.records =
    s.book.records.map fun r => if r.number ∈ ns then { r with state := .grouped, changed := true } else r := by
  have folded : ∀ (ns : List Nat) (t : State), (ns.foldl (fun t n => t.setRecState n .grouped) t).book.records =
      t.book.records.map fun r => if r.number ∈ ns then { r with state := .grouped, changed := true } else r := by
    intro ns
    induction ns with
    | nil => intro t; simp
    | cons n ns ih =>
      intro t
      rw [List.foldl_cons, ih, setRecState_records, List.map_map]
      refine List.map_congr_left fun r _ => ?_
      by_cases same : r.number = n <;> by_cases more : r.number ∈ ns <;> simp [same, more]
  exact folded ns s

theorem groupThem_counter (s : State) (ns : List Nat) : (s.groupThem ns).book.counter = s.book.counter := by
  have folded : ∀ (ns : List Nat) (t : State), (ns.foldl (fun t n => t.setRecState n .grouped) t).book.counter =
      t.book.counter := by
    intro ns
    induction ns with
    | nil => intro t; rfl
    | cons n ns ih => intro t; rw [List.foldl_cons, ih]; rfl
  exact folded ns s

theorem groupThem_group (s : State) (ns : List Nat) : (s.groupThem ns).opening.group = s.opening.group ++ ns := by
  rw [groupThem_frame]

/-- BOOKED records join, into the room there is. -/
theorem groupThem_bookKeeps {s : State} {ns : List Nat} (placing : Placing (6 - s.opening.group.length)
    (fun n => ∃ r ∈ s.book.records, r.number = n ∧ r.state = .booked) ns) : s.BookKeeps (s.groupThem ns) := by
  have booked : s.BookNumbered → ∀ r ∈ s.book.records, r.number ∈ ns → r.state = .booked := by
    rintro ⟨-, apart, -⟩ r hr mem
    obtain ⟨q, hq, number, state⟩ := placing.ofRec _ mem
    have same : q = r := Option.some.inj ((find?_number apart hq).symm.trans (number ▸ find?_number apart hr))
    exact same ▸ state
  refine .of_lives (fun numbered => ⟨?_, groupThem_counter s ns⟩) (fun numbered p => ?_) fun numbered p => ?_
  · rw [groupThem_records, List.map_map]
    refine List.map_congr_left fun r hr => ?_
    dsimp only [Function.comp]
    split
    next mem => simp [Rec.life, Rec.live, booked numbered r hr mem]
    next => rfl
  · refine p.of_map (groupThem_records s ns) fun r _ called => ?_
    split at called
    · cases called
    · exact called
  · obtain ⟨six, apart, held, listed⟩ := p
    have off : ∀ n ∈ ns, n ∉ s.opening.group := by
      intro n mem on
      obtain ⟨r, hr, rfl⟩ := held n on
      have grouped := (listed r hr).mp on
      rw [booked numbered r hr mem] at grouped
      rcases grouped with h | h | h <;> cases h
    refine ⟨?_, ?_, fun n hn => ?_, fun r hr => ?_⟩
    · rw [groupThem_group, List.length_append]
      have few := placing.few
      omega
    · rw [groupThem_group]
      exact List.nodup_append.mpr ⟨apart, placing.apart, fun a ha b hb e => off b hb (e ▸ ha)⟩
    · rw [groupThem_group] at hn
      have found : ∃ r ∈ s.book.records, r.number = n := by
        rcases List.mem_append.mp hn with h | h
        · exact held n h
        · obtain ⟨r, hr, number, -⟩ := placing.ofRec n h
          exact ⟨r, hr, number⟩
      obtain ⟨r, hr, number⟩ := found
      rw [groupThem_records]
      exact ⟨_, List.mem_map_of_mem hr, by split <;> exact number⟩
    · rw [groupThem_records] at hr
      obtain ⟨q, hq, rfl⟩ := List.mem_map.mp hr
      rw [groupThem_group, List.mem_append]
      by_cases mem : q.number ∈ ns
      · simp [mem]
      · simpa [mem] using listed q hq

/-- What leaves the book and the list alone leaves the promises about them alone. -/
theorem BookKeeps.then_same {s t u : State} (h : s.BookKeeps t) (book : u.book = t.book)
    (list : u.opening.group = t.opening.group) : s.BookKeeps u :=
  h.trans (.of_same book list)

theorem examineJoins_bookKeeps (s : State) : s.BookKeeps s.examineJoins := by
  unfold examineJoins
  split
  · generalize limit : (if s.opening.frozen then s.opening.target else none) = bound
    dsimp only
    split
    · exact .refl s
    · refine (groupThem_bookKeeps (taken_placing s bound)).then_same ?_ ?_
      · rw [recomputeTarget_frame]; rfl
      · rw [recomputeTarget_frame]; rfl
  · exact .refl s

/-! ### Re-evaluation (R30, R140) -/

theorem testGrouped_bookKeeps (s : State) (n : Nat) : s.BookKeeps (s.testGrouped n) := by
  unfold testGrouped
  split
  · dsimp only
    split
    · split; exacts [returnToBooked_bookKeeps s n, .refl s]
    · split; exacts [returnToBooked_bookKeeps s n, .refl s]
    · split; exacts [raise_bookKeeps s _, .refl s]
    · exact .refl s
  · exact .refl s

theorem recomputeTarget_bookKeeps (s : State) : s.BookKeeps s.recomputeTarget :=
  .of_same (by rw [recomputeTarget_frame]) (by rw [recomputeTarget_frame])

theorem testGroup_bookKeeps (s : State) (ns : List Nat) : s.BookKeeps (s.testGroup ns) :=
  (foldl_frame testGrouped BookKeeps .refl (fun _ _ _ => .trans) testGrouped_bookKeeps ns s).trans
    (recomputeTarget_bookKeeps _)

/-- A change of the records that no promise speaks of. -/
theorem BookKeeps.of_map_same {s t : State} {f : Rec → Rec} (records : t.book.records = s.book.records.map f)
    (counter : t.book.counter = s.book.counter) (list : t.opening.group = s.opening.group) (life : ∀ r, (f r).life = r.life)
    (state : ∀ r, (f r).state = r.state) : s.BookKeeps t := by
  refine .of_lives (fun _ => ⟨?_, counter⟩) (fun _ p => ?_) fun _ p => ?_
  · rw [records, List.map_map]
    exact List.map_congr_left fun r _ => life r
  · exact p.of_map records fun r _ called => by rwa [Rec.inCall, state] at called
  · exact p.of_map_same records (fun r => congrArg Life.number (life r)) list fun r _ => by rw [Rec.inGroup, state]; rfl

theorem rewriteAngles_bookKeeps (s : State) : s.BookKeeps s.rewriteAngles := by
  refine .of_map_same (f := fun r => if r.live then
      { r with required := s.requiredFor r.draft, changed := r.changed || s.requiredFor r.draft != r.required } else r)
    rfl rfl rfl (fun r => ?_) fun r => ?_
  all_goals split <;> rfl

theorem clearChanged_bookKeeps (s : State) : s.BookKeeps s.clearChanged := by
  refine .of_map_same (f := fun r => if s.changedPage.contains r.number then { r with changed := false } else r)
    rfl rfl rfl (fun r => ?_) fun r => ?_
  all_goals split <;> rfl

end State

end Sys2Proof.Machine
end

section
/-!
SUPPORT. Calls, entries, bookings, amendments and FORGET: what each does to the book and the group list (R4, R8, R10, R15, R117,
R121).
-/

namespace Sys2Proof.Machine

open Sys2Proof

namespace State

/-! ### Calls (R117, R121) -/

/-- A GROUPED record is CALLED while no record is CALLED or PASSING (R121). -/
theorem call_bookKeeps {s : State} {n : Nat} {r : Rec} (found : s.findRec n = some r) (grouped : r.state = .grouped)
    (none : ∀ q ∈ s.book.records, q.inCall = false) : s.BookKeeps (s.call n) := by
  have one : s.BookNumbered → ∀ q ∈ s.book.records, q.number = n → q = r := fun numbered q hq number =>
    eq_of_findRec numbered.2.1 found hq number
  have records : (s.call n).book.records = _ := setRecState_records s n .called
  refine .of_lives (fun numbered => ?_) (fun numbered p => ?_) fun numbered p => ?_
  · refine (setRecState_lives (fun q hq number => ?_) fun q => rfl).trans (.of_book rfl)
    rw [one numbered q hq number, Rec.live, grouped]
  · have counted : s.book.records.countP (Rec.inCall ∘ fun q => if q.number == n then { q with state := .called, changed := true } else q) ≤
        s.book.records.countP fun q => q.number == n := by
      refine List.countP_mono_left fun q hq called => ?_
      dsimp only [Function.comp] at called
      split at called
      next same => exact same
      next => rw [none q hq] at called; cases called
    have apart : (s.book.records.map (·.number)).count n ≤ 1 := List.nodup_iff_count_le_one.mp numbered.2.1 n
    unfold OneCall
    rw [records, List.countP_map]
    refine counted.trans ?_
    rwa [List.count, List.countP_map] at apart
  · refine p.of_map_same records (fun q => by split <;> rfl) rfl fun q hq => ?_
    split
    next same =>
      rw [one numbered q hq (by simpa using same)]
      simp [Rec.inGroup, grouped]
    next => rfl

/-- What a due call finds (R120). -/
theorem callDue_none {s : State} (h : s.callDue = true) : ∀ q ∈ s.book.records, q.inCall = false := by
  simp only [callDue, Bool.and_eq_true, Bool.not_eq_true', anyRec, List.any_eq_false] at h
  obtain ⟨⟨⟨⟨-, called⟩, passing⟩, -⟩, -⟩ := h
  intro q hq
  have c := called q hq
  have p := passing q hq
  simp_all [Rec.inCall]

/-- A candidate is a GROUPED record on the list (R120). -/
theorem candidate_spec {s : State} {d : Dir} {n : Nat} (h : s.candidate d = some n) :
    n ∈ s.opening.group ∧ ∃ r, s.findRec n = some r ∧ r.state = .grouped := by
  unfold candidate at h
  split at h
  · have test := List.find?_some h
    obtain ⟨r, found, fits⟩ := (Option.any_eq_true _ _).mp test
    simp only [Bool.and_eq_true, beq_iff_eq] at fits
    exact ⟨List.mem_of_find?_eq_some h, r, found, fits.1.1.1⟩
  · cases h

/-- The CALLED record of the context enters (R117). -/
theorem enterVessel_bookKeeps {s : State} {r : Rec} (called : s.calledRec = some r) : s.BookKeeps (s.enterVessel r) := by
  obtain ⟨found, state, -⟩ := calledRec_found called
  exact setRecState_bookKeeps found (.inr (.inl state)) (.inr (.inr rfl)) (fun _ => by simp [Rec.inCall, state]) rfl rfl

/-! ### Amendments (R9, R10) -/

/-- What stands in a book whose records changed one by one, each follows naming one that stands earlier. -/
theorem FollowsEarlier.of_map {s t : State} {f : Rec → Rec} (records : t.book.records = s.book.records.map f)
    (named : ∀ xs r ys, s.book.records = xs ++ r :: ys → (f r).live = true → ∀ n, (f r).follows = some n →
      ∃ q ∈ xs, (f q).number = n ∧ (f q).live = true ∧ (f q).dir = (f r).dir) : t.FollowsEarlier := by
  intro xs r ys split live n follows
  rw [records] at split
  obtain ⟨xs', rest, split', rfl, after⟩ := List.map_eq_append_iff.mp split
  obtain ⟨r', ys', rfl, rfl, -⟩ := List.map_eq_cons_iff.mp after
  obtain ⟨q, hq, fits⟩ := named xs' r' ys' split' live n follows
  exact ⟨_, List.mem_map_of_mem hq, fits⟩

/-- The checks of R9 that an AMEND passes. -/
structure Amendable (s : State) (n : Nat) (c : AmendChange) (r : Rec) (req : Required) : Prop where
  lead : s.role ≠ .follow
  formed : (c.draft.all draftInRange && c.priority.all fun p => (Priority.ofCode? p).isSome) = true ∧ contradicts c = false
  found : s.findRec n = some r
  live : r.live = true
  idle : r.inCall = false
  led : ∀ f, c.follows = some f → ∃ q ∈ s.earlierThan n, q.number = f ∧ q.live = true ∧ q.dir = r.dir
  drafted : ∀ d, c.draft = some d → req = s.requiredFor d
  undrafted : c.draft = none → req = r.required
  reached : ¬(c.draft ≠ none ∧ req = .unachievable)

theorem amendable_of_ok {s : State} {n : Nat} {c : AmendChange} {r : Rec} {req : Required}
    (h : s.judgeAmend n c = .ok (r, req)) : s.Amendable n c r req := by
  unfold judgeAmend at h
  split at h
  · cases h
  next lead =>
    split at h
    · cases h
    next formed =>
      split at h
      · cases h
      next q found =>
        split at h
        · cases h
        next live =>
          split at h
          · cases h
          next idle =>
            split at h
            · cases h
            next led =>
              have checked : r = q ∧ (∀ d, c.draft = some d → req = s.requiredFor d) ∧ (c.draft = none → req = r.required) ∧
                  ¬(c.draft ≠ none ∧ req = .unachievable) := by
                cases draft : c.draft with
                | none =>
                  simp only [draft, Option.isSome_none, Bool.false_and, Bool.false_eq_true, if_false] at h
                  obtain ⟨rfl, rfl⟩ := Prod.mk.inj (Except.ok.inj h)
                  exact ⟨rfl, nofun, fun _ => rfl, fun ⟨no, _⟩ => no rfl⟩
                | some d =>
                  simp only [draft, Option.isSome_some, Bool.true_and] at h
                  split at h
                  · cases h
                  next reached =>
                    obtain ⟨rfl, rfl⟩ := Prod.mk.inj (Except.ok.inj h)
                    exact ⟨rfl, fun _ e => by rw [Option.some.inj e], nofun, fun ⟨_, no⟩ => reached (beq_iff_eq.mpr no)⟩
              obtain ⟨rfl, drafted, undrafted, reached⟩ := checked
              exact {
                lead := by simpa using lead
                formed := by simpa using formed
                found := found
                live := by simpa using live
                idle := by simpa [Rec.inCall] using idle
                led := fun f follows => by simpa [follows, and_assoc] using led
                drafted := drafted
                undrafted := undrafted
                reached := reached }

/-- The record that an AMEND writes (R10). -/
def amendOf (c : AmendChange) (req : Required) (r : Rec) : Rec :=
  { amended c req r with changed := r.changed || amended c req r != r }

theorem amendRec_records (s : State) (n : Nat) (c : AmendChange) (req : Required) : (s.amendRec n c req).book.records =
    s.book.records.map fun r => if r.number == n then amendOf c req r else r := rfl

/-- The records before one of the book are those that stand earlier than its number (R9). -/
theorem earlierThan_eq {s : State} (apart : (s.book.records.map (·.number)).Nodup) {xs ys : List Rec} {r : Rec}
    (split : s.book.records = xs ++ r :: ys) : s.earlierThan r.number = xs := by
  rw [split] at apart
  have before : ∀ q ∈ xs, (q.number != r.number) = true := fun q hq =>
    bne_iff_ne.mpr (number_ne_of_nodup apart q (List.mem_append_left _ hq))
  unfold earlierThan
  rw [split, List.takeWhile_append_of_pos before, List.takeWhile_cons_of_neg (by simp), List.append_nil]

theorem amendRec_bookKeeps {s : State} {n : Nat} {c : AmendChange} {r : Rec} {req : Required}
    (may : s.Amendable n c r req) : s.BookKeeps (s.amendRec n c req) := by
  have records := amendRec_records s n c req
  have number : ∀ q : Rec, (if q.number == n then amendOf c req q else q).number = q.number := fun q => by split <;> rfl
  have vessel : ∀ q : Rec, (if q.number == n then amendOf c req q else q).vessel = q.vessel := fun q => by split <;> rfl
  have dir : ∀ q : Rec, (if q.number == n then amendOf c req q else q).dir = q.dir := fun q => by split <;> rfl
  have state : ∀ q : Rec, (if q.number == n then amendOf c req q else q).state = q.state := fun q => by split <;> rfl
  have live : ∀ q : Rec, (if q.number == n then amendOf c req q else q).live = q.live := fun q => by split <;> rfl
  have closedAt : ∀ q : Rec, (if q.number == n then amendOf c req q else q).closedAt = q.closedAt := fun q => by
    split <;> rfl
  exact {
    numbered := fun p => p.of_numbers (by rw [records, List.map_map]; exact List.map_congr_left fun q _ => number q) rfl
    vessels := fun _ p => p.of_vessels (by
      rw [records, List.map_map]
      exact List.map_congr_left fun q _ => Prod.ext (live q) (vessel q))
    marked := fun _ p q hq => by
      rw [records] at hq
      obtain ⟨q', hq', rfl⟩ := List.mem_map.mp hq
      rw [closedAt, live]
      exact p q' hq'
    follows := fun numbered p => by
      refine .of_map records fun xs q ys split livesOn m follows => ?_
      rw [live] at livesOn
      have named : ∃ p ∈ xs, p.number = m ∧ p.live = true ∧ p.dir = q.dir := by
        split at follows
        next same =>
          have at_n : q.number = n := by simpa using same
          have is : q = r := eq_of_findRec numbered.2.1 may.found (split ▸ List.mem_append_cons_self) at_n
          subst is
          have old : q.follows = some m → ∃ p ∈ xs, p.number = m ∧ p.live = true ∧ p.dir = q.dir := p xs q ys split livesOn m
          have new : c.follows = some m → ∃ p ∈ xs, p.number = m ∧ p.live = true ∧ p.dir = q.dir := fun carried => by
            have led := may.led m carried
            rwa [← at_n, earlierThan_eq numbered.2.1 split] at led
          dsimp only [amendOf, amended] at follows
          split at follows
          · cases follows
          · split at follows
            exacts [new follows, old follows]
        next => exact p xs q ys split livesOn m follows
      obtain ⟨p, hp, at_m, livep, samedir⟩ := named
      exact ⟨p, hp, (number p).trans at_m, (live p).trans livep, (dir p).trans (samedir.trans (dir q).symm)⟩
    calls := fun _ p => p.of_map records fun q _ called => by rwa [Rec.inCall, state] at called
    group := fun _ p => p.of_map_same records number rfl fun q _ => by rw [Rec.inGroup, state]; rfl }

/-! ### FORGET (R15) -/

/-- Closed records leave the book. -/
theorem drop_bookKeeps {s t : State} {keep : Rec → Bool} (records : t.book.records = s.book.records.filter keep)
    (counter : t.book.counter = s.book.counter) (list : t.opening.group = s.opening.group)
    (stays : s.BookNumbered → ∀ r ∈ s.book.records, r.live = true → keep r = true) : s.BookKeeps t := by
  have sub : t.book.records.Sublist s.book.records := records ▸ List.filter_sublist
  have live_of_inGroup : ∀ r : Rec, r.inGroup → r.live = true := by
    rintro r (h | h | h) <;> simp [Rec.live, h]
  exact {
    numbered := fun ⟨few, apart, range, low, high⟩ =>
      ⟨sub.length_le.trans few, apart.sublist (sub.map _), fun q hq => range q (sub.mem hq), counter ▸ low, counter ▸ high⟩
    vessels := fun _ p => List.Nodup.sublist ((sub.filter _).map _) p
    marked := fun _ p q hq => p q (sub.mem hq)
    follows := fun numbered p xs r ys split live n follows => by
      rw [records] at split
      obtain ⟨xs', rest, split', rfl, after⟩ := List.filter_eq_append_iff.mp split
      obtain ⟨mid, ys', rfl, left, -, -⟩ := List.filter_eq_cons_iff.mp after
      obtain ⟨q, hq, number, liveq, dir⟩ := p (xs' ++ mid) r ys' (by rw [split', List.append_assoc]) live n follows
      have kept : keep q = true := stays numbered q (split' ▸ by simp only [List.mem_append] at hq ⊢; tauto) liveq
      have before : q ∈ xs' := (List.mem_append.mp hq).resolve_right fun h => left q h kept
      exact ⟨q, List.mem_filter.mpr ⟨before, kept⟩, number, liveq, dir⟩
    calls := fun _ p => (sub.countP_le).trans p
    group := fun numbered ⟨six, apart, held, listed⟩ => by
      refine ⟨list ▸ six, list ▸ apart, fun n hn => ?_, fun r hr => list ▸ listed r (sub.mem hr)⟩
      obtain ⟨r, hr, rfl⟩ := held n (list ▸ hn)
      have live : r.live = true := live_of_inGroup r ((listed r hr).mp (list ▸ hn))
      exact ⟨r, records ▸ List.mem_filter.mpr ⟨hr, stays numbered r hr live⟩, rfl⟩ }

theorem forget_bookKeeps {s : State} {n : Nat} {r : Rec} (found : s.findRec n = some r) (closed : r.live = false) :
    s.BookKeeps { s with book := { s.book with records := s.book.records.filter fun q => q.number != n } } :=
  drop_bookKeeps rfl rfl rfl fun numbered q hq live => bne_iff_ne.mpr fun same => by
    rw [eq_of_findRec numbered.2.1 found hq same, closed] at live
    cases live

end State

end Sys2Proof.Machine
end

section
/-!
SUPPORT. A booking: the number it takes, the room that is made for it, and its place in the book (R4, R8).
-/

namespace Sys2Proof.Machine

open Sys2Proof

/-! ### The number (R4) -/

/-- A passage number (R4). -/
def IsNumber (n : Nat) : Prop := 1 ≤ n ∧ n ≤ 65535

theorem nextNumber_isNumber {n : Nat} (h : IsNumber n) : IsNumber (nextNumber n) := by
  obtain ⟨low, high⟩ := h
  unfold nextNumber IsNumber
  split <;> omega

/-- The numbers that follow one another run through the range and wrap (R4). -/
theorem nextNumber_iterate {n : Nat} (h : IsNumber n) (k : Nat) : nextNumber^[k] n = (n - 1 + k) % 65535 + 1 := by
  obtain ⟨low, high⟩ := h
  induction k with
  | zero => simp only [Function.iterate_zero, id]; omega
  | succ k ih =>
    rw [Function.iterate_succ_apply', ih]
    unfold nextNumber
    split <;> omega

theorem nextNumber_iterate_isNumber {n : Nat} (h : IsNumber n) (k : Nat) : IsNumber (nextNumber^[k] n) := by
  rw [nextNumber_iterate h]
  unfold IsNumber
  omega

/-- Fewer than 65536 numbers on, none comes twice. -/
theorem nextNumber_iterate_injOn {n : Nat} (h : IsNumber n) {j k : Nat} (hj : j < 65535) (hk : k < 65535)
    (same : nextNumber^[j] n = nextNumber^[k] n) : j = k := by
  rw [nextNumber_iterate h, nextNumber_iterate h] at same
  omega

/-- The walk over the numbers ends at the first that no record holds, or at the end of its fuel. -/
theorem freeNumber_spec (rs : List Rec) (fuel n : Nat) : ∃ k ≤ fuel, freeNumber rs fuel n = nextNumber^[k] n ∧
    (∀ j < k, ∃ r ∈ rs, r.number = nextNumber^[j] n) ∧ (k < fuel → ∀ r ∈ rs, r.number ≠ nextNumber^[k] n) := by
  induction fuel generalizing n with
  | zero => exact ⟨0, le_refl 0, rfl, nofun, nofun⟩
  | succ fuel ih =>
    unfold freeNumber
    split
    next held =>
      obtain ⟨k, few, is, before, free⟩ := ih (nextNumber n)
      refine ⟨k + 1, by omega, is, fun j hj => ?_, fun h => free (by omega)⟩
      cases j with
      | zero => simpa using held
      | succ j => exact before j (by omega)
    next free =>
      refine ⟨0, by omega, rfl, nofun, fun _ r hr same => free ?_⟩
      exact List.any_eq_true.mpr ⟨r, hr, beq_iff_eq.mpr same⟩

/-- No more numbers are held than there are records, so that the walk of `freeNumber` finds a free one (R4). -/
theorem freeNumber_free {rs : List Rec} {n : Nat} (h : IsNumber n) (few : rs.length < 65535) :
    ∃ k, freeNumber rs rs.length n = nextNumber^[k] n ∧ (∀ j < k, ∃ r ∈ rs, r.number = nextNumber^[j] n) ∧
      ∀ r ∈ rs, r.number ≠ nextNumber^[k] n := by
  obtain ⟨k, hk, is, before, free⟩ := freeNumber_spec rs rs.length n
  refine ⟨k, is, before, fun r hr same => ?_⟩
  have last : k = rs.length := by
    by_contra short
    exact free (by omega) r hr same
  have held : ∀ j < k + 1, nextNumber^[j] n ∈ rs.map (·.number) := fun j hj => by
    rcases Nat.lt_succ_iff_lt_or_eq.mp hj with h | rfl
    · obtain ⟨q, hq, number⟩ := before j h
      exact number ▸ List.mem_map_of_mem hq
    · exact same ▸ List.mem_map_of_mem hr
  have apart : ((List.range (k + 1)).map fun j => nextNumber^[j] n).Nodup := by
    refine List.Nodup.map_on (fun i hi j hj e => ?_) List.nodup_range
    have hi := List.mem_range.mp hi
    have hj := List.mem_range.mp hj
    exact nextNumber_iterate_injOn h (by omega) (by omega) e
  have fits : ((List.range (k + 1)).map fun j => nextNumber^[j] n).length ≤ (rs.map (·.number)).length :=
    (List.subperm_of_subset apart fun m hm => by
      obtain ⟨j, hj, rfl⟩ := List.mem_map.mp hm
      exact held j (List.mem_range.mp hj)).length_le
  simp only [List.length_map, List.length_range] at fits
  omega

/-! ### The room (R8) -/

/-- The closed record with the earliest closed-at, the earliest in book order among equals (R8). -/
theorem oldestClosed_spec (rs : List Rec) : (oldestClosed rs = none ∧ ∀ r ∈ rs, r.live = true) ∨
    ∃ xs q ys, oldestClosed rs = some q ∧ rs = xs ++ q :: ys ∧ q.live = false ∧
      (∀ p ∈ xs, p.live = false → q.closedAt.getD 0 < p.closedAt.getD 0) ∧
      ∀ p ∈ ys, p.live = false → q.closedAt.getD 0 ≤ p.closedAt.getD 0 := by
  induction rs using List.reverseRecOn with
  | nil => exact .inl ⟨rfl, nofun⟩
  | append_singleton rs r ih =>
    cases live : r.live with
    | true =>
      have same : oldestClosed (rs ++ [r]) = oldestClosed rs := by simp [oldestClosed, live]
      rw [same]
      rcases ih with ⟨none, all⟩ | ⟨xs, q, ys, some_, split, closed, before, after⟩
      · refine .inl ⟨none, fun p hp => ?_⟩
        rcases List.mem_append.mp hp with h | h
        · exact all p h
        · rw [List.mem_singleton.mp h]; exact live
      · refine .inr ⟨xs, q, ys ++ [r], some_, by simp [split], closed, before, fun p hp dead => ?_⟩
        rcases List.mem_append.mp hp with h | h
        · exact after p h dead
        · rw [List.mem_singleton.mp h, live] at dead; cases dead
    | false =>
      have next : oldestClosed (rs ++ [r]) = match oldestClosed rs with
          | none => some r
          | some q => if r.closedAt.getD 0 < q.closedAt.getD 0 then some r else some q := by
        simp [oldestClosed, live, List.foldl_append] <;> rfl
      rcases ih with ⟨none, all⟩ | ⟨xs, q, ys, some_, split, closed, before, after⟩
      · rw [none] at next
        refine .inr ⟨rs, r, [], next, rfl, live, fun p hp dead => ?_, nofun⟩
        rw [all p hp] at dead; cases dead
      · rw [some_] at next
        by_cases earlier : r.closedAt.getD 0 < q.closedAt.getD 0
        · refine .inr ⟨rs, r, [], next.trans (if_pos earlier), rfl, live, fun p hp dead => ?_, nofun⟩
          rw [split] at hp
          rcases List.mem_append.mp hp with h | h
          · exact earlier.trans (before p h dead)
          · rcases List.mem_cons.mp h with rfl | h
            · exact earlier
            · exact earlier.trans_le (after p h dead)
        · refine .inr ⟨xs, q, ys ++ [r], next.trans (if_neg earlier), by simp [split], closed, before, fun p hp dead => ?_⟩
          rcases List.mem_append.mp hp with h | h
          · exact after p h dead
          · rw [List.mem_singleton.mp h]; exact not_lt.mp earlier

/-- What stays of the book when a booking comes: all of it while there is room, else all but its oldest closed record (R8). -/
theorem makeRoom_spec (rs : List Rec) (few : rs.length ≤ 24) (room : ¬(rs.length = 24 ∧ ∀ r ∈ rs, r.live = true))
    (apart : (rs.map (·.number)).Nodup) :
    (rs.length < 24 → makeRoom rs = rs) ∧
      (rs.length = 24 → ∃ xs q ys, rs = xs ++ q :: ys ∧ makeRoom rs = xs ++ ys ∧ q.live = false ∧
        (∀ p ∈ xs, p.live = false → q.closedAt.getD 0 < p.closedAt.getD 0) ∧
        ∀ p ∈ ys, p.live = false → q.closedAt.getD 0 ≤ p.closedAt.getD 0) := by
  refine ⟨fun less => by simp [makeRoom, less], fun full => ?_⟩
  rcases oldestClosed_spec rs with ⟨-, all⟩ | ⟨xs, q, ys, oldest, split, closed, before, after⟩
  · exact absurd ⟨full, all⟩ room
  · refine ⟨xs, q, ys, split, ?_, closed, before, after⟩
    have dropped : makeRoom rs = rs.filter fun r => r.number != q.number := by simp [makeRoom, full, oldest]
    rw [dropped]
    subst split
    exact filter_number_ne apart

theorem makeRoom_filter (rs : List Rec) : ∃ keep : Rec → Bool, makeRoom rs = rs.filter keep ∧
    ((rs.map (·.number)).Nodup → ∀ r ∈ rs, r.live = true → keep r = true) := by
  unfold makeRoom
  split
  · exact ⟨fun _ => true, (List.filter_true _).symm, fun _ _ _ _ => rfl⟩
  · rcases oldestClosed_spec rs with ⟨none, -⟩ | ⟨xs, q, ys, oldest, split, closed, -, -⟩
    · rw [none]
      exact ⟨fun _ => true, (List.filter_true _).symm, fun _ _ _ _ => rfl⟩
    · rw [oldest]
      refine ⟨fun r => r.number != q.number, rfl, fun apart r hr live => bne_iff_ne.mpr fun same => ?_⟩
      have hq : q ∈ rs := split ▸ List.mem_append_cons_self
      have is : r = q := Option.some.inj ((find?_number apart hr).symm.trans (same ▸ find?_number apart hq))
      rw [is, closed] at live
      cases live

namespace State

/-! ### The place in the book (R7, R8) -/

/-- The checks of R7 that a BOOK passes, and the booking it then carries. -/
structure Bookable (s : State) (vessel dir : Nat) (draft : Int) (priority : Nat) (nb : NotBeforeParam) (follows : Nat)
    (b : Booking) : Prop where
  lead : s.role ≠ .follow
  configured : (s.fault .unconfigured).cond = false
  inRange : draftInRange draft = true ∧ nb.flag ≤ 1
  dir : Dir.ofCode? dir = some b.dir
  priority : Priority.ofCode? priority = some b.priority
  led : follows = 0 ∨ ∃ r ∈ s.book.records, r.number = follows ∧ r.live = true ∧ r.dir = b.dir
  unknown : ∀ r ∈ s.book.records, r.live = true → r.vessel ≠ vessel
  reached : s.requiredFor draft ≠ .unachievable
  room : ¬(24 ≤ s.book.records.length ∧ ∀ r ∈ s.book.records, r.live = true)
  carries : b = ⟨vessel, b.dir, draft, b.priority, if nb.flag = 1 then some nb.value else none,
    if follows = 0 then none else some follows, s.requiredFor draft⟩

theorem bookable_of_ok {s : State} {vessel dir : Nat} {draft : Int} {priority : Nat} {nb : NotBeforeParam} {follows : Nat}
    {b : Booking} (h : s.judgeBooking vessel dir draft priority nb follows = .ok b) :
    s.Bookable vessel dir draft priority nb follows b := by
  unfold judgeBooking at h
  split at h
  · cases h
  next lead =>
    split at h
    · cases h
    next configured =>
      split at h
      next d p inRange isDir isPriority =>
        split at h
        · cases h
        next led =>
          split at h
          · cases h
          next unknown =>
            dsimp only at h
            split at h
            · cases h
            next reached =>
              split at h
              · cases h
              next room =>
                obtain rfl := Except.ok.inj h
                exact {
                  lead := by simpa using lead
                  configured := by simpa using configured
                  inRange := by simpa using inRange
                  dir := isDir
                  priority := isPriority
                  led := by
                    by_cases zero : follows = 0
                    · exact .inl zero
                    · have found : (s.findRec follows).any (fun r => r.live && r.dir == d) = true := by
                        simpa [zero] using led
                      obtain ⟨r, at_n, fits⟩ := (Option.any_eq_true _ _).mp found
                      obtain ⟨hr, number⟩ := findRec_mem at_n
                      simp only [Bool.and_eq_true, beq_iff_eq] at fits
                      exact .inr ⟨r, hr, number, fits.1, fits.2⟩
                  unknown := by simpa using unknown
                  reached := by simpa using reached
                  room := by simpa using room
                  carries := rfl }
      next => cases h

theorem bookingNumber_spec {s : State} (h : s.BookNumbered) : ∃ k, s.bookingNumber = nextNumber^[k] s.book.counter ∧
    (∀ j < k, ∃ r ∈ s.book.records, r.number = nextNumber^[j] s.book.counter) ∧
    ∀ r ∈ s.book.records, r.number ≠ s.bookingNumber := by
  obtain ⟨few, -, -, low, high⟩ := h
  obtain ⟨k, is, before, free⟩ := freeNumber_free (rs := s.book.records) ⟨low, high⟩ (by omega)
  exact ⟨k, is, before, by rw [bookingNumber, is]; exact free⟩

theorem bookingNumber_isNumber {s : State} (h : s.BookNumbered) : IsNumber s.bookingNumber := by
  obtain ⟨k, is, -, -⟩ := bookingNumber_spec h
  rw [is]
  exact nextNumber_iterate_isNumber ⟨h.2.2.2.1, h.2.2.2.2⟩ k

/-- A BOOKED record under a free number comes to the end of a book that has room. -/
theorem append_bookKeeps {s t : State} {r : Rec} (records : t.book.records = s.book.records ++ [r])
    (list : t.opening.group = s.opening.group) (booked : r.state = .booked) (open_ : r.closedAt = none)
    (room : s.book.records.length < 24) (number : s.BookNumbered → IsNumber r.number ∧ IsNumber t.book.counter)
    (free : s.BookNumbered → ∀ q ∈ s.book.records, q.number ≠ r.number)
    (vessel : ∀ q ∈ s.book.records, q.live = true → q.vessel ≠ r.vessel)
    (led : ∀ n, r.follows = some n → ∃ q ∈ s.book.records, q.number = n ∧ q.live = true ∧ q.dir = r.dir) :
    s.BookKeeps t := by
  have live : r.live = true := by simp [Rec.live, booked]
  exact {
    numbered := fun p => by
      obtain ⟨few, apart, range, low, high⟩ := p
      have numbered : s.BookNumbered := ⟨few, apart, range, low, high⟩
      refine ⟨by rw [records]; simp; omega, ?_, fun q hq => ?_, (number numbered).2.1, (number numbered).2.2⟩
      · rw [records, List.map_append]
        refine List.nodup_append.mpr ⟨apart, by simp, fun a ha b hb e => ?_⟩
        obtain ⟨q, hq, rfl⟩ := List.mem_map.mp ha
        exact free numbered q hq (e.trans (by simpa using hb))
      · rw [records] at hq
        rcases List.mem_append.mp hq with h | h
        · exact range q h
        · rw [List.mem_singleton.mp h]; exact (number numbered).1
    vessels := fun _ p => by
      unfold VesselsApart at *
      rw [records, List.filter_append, List.map_append]
      refine List.nodup_append.mpr ⟨p, by simp [live], fun a ha b hb e => ?_⟩
      obtain ⟨q, hq, rfl⟩ := List.mem_map.mp ha
      obtain ⟨mem, liveq⟩ := List.mem_filter.mp hq
      exact vessel q mem liveq (e.trans (by simpa [live] using hb))
    marked := fun _ p q hq => by
      rw [records] at hq
      rcases List.mem_append.mp hq with h | h
      · exact p q h
      · rw [List.mem_singleton.mp h, open_, live]; rfl
    follows := fun _ p xs q ys split liveq n follows => by
      rw [records] at split
      rcases List.eq_nil_or_concat ys with rfl | ⟨ys', z, rfl⟩
      · obtain ⟨rfl, last⟩ := List.append_inj' split rfl
        obtain rfl : r = q := List.singleton_inj.mp last
        exact led n follows
      · rw [List.concat_eq_append, ← List.cons_append, ← List.append_assoc] at split
        obtain ⟨old, -⟩ := List.append_inj' split rfl
        exact p xs q ys' old liveq n follows
    calls := fun _ p => by
      unfold OneCall at *
      rw [records, List.countP_append]
      simpa [booked] using p
    group := fun numbered ⟨six, apart, held, listed⟩ => by
      refine ⟨list ▸ six, list ▸ apart, fun n hn => ?_, fun q hq => ?_⟩
      · obtain ⟨q, hq, at_n⟩ := held n (list ▸ hn)
        exact ⟨q, records ▸ List.mem_append_left _ hq, at_n⟩
      · rw [records] at hq
        rcases List.mem_append.mp hq with h | h
        · rw [list]; exact listed q h
        · rw [List.mem_singleton.mp h, list, booked]
          refine iff_of_false (fun on => ?_) (by simp)
          obtain ⟨p, hp, at_n⟩ := held _ on
          exact free numbered p hp at_n }

/-- Nothing is promised of a book that is not numbered. -/
theorem BookKeeps.of_not_numbered {s t : State} (h : ¬s.BookNumbered) : s.BookKeeps t :=
  ⟨fun p => absurd p h, fun p => absurd p h, fun p => absurd p h, fun p => absurd p h, fun p => absurd p h,
    fun p => absurd p h⟩

theorem placeBooking_bookKeeps {s : State} {vessel dir : Nat} {draft : Int} {priority : Nat} {nb : NotBeforeParam}
    {follows : Nat} {b : Booking} (may : s.Bookable vessel dir draft priority nb follows b) :
    s.BookKeeps (s.placeBooking b) := by
  by_cases numbered : s.BookNumbered
  · have ⟨few, apart, _⟩ := numbered
    obtain ⟨keep, dropped, stays⟩ := makeRoom_filter s.book.records
    obtain ⟨less, full⟩ := makeRoom_spec s.book.records few (fun h => may.room ⟨h.1.ge, h.2⟩) apart
    obtain ⟨-, -, -, free⟩ := bookingNumber_spec numbered
    have number := bookingNumber_isNumber numbered
    have named : b = _ := may.carries
    have sub : ∀ q ∈ s.book.records.filter keep, q ∈ s.book.records := fun q hq => List.mem_of_mem_filter hq
    refine (drop_bookKeeps (t := { s with book := { s.book with records := s.book.records.filter keep } })
      rfl rfl rfl fun _ => stays apart).trans (append_bookKeeps (r := b.toRec s.bookingNumber) ?_ rfl rfl rfl ?_ ?_ ?_ ?_ ?_)
    · rw [← dropped]; rfl
    · show (s.book.records.filter keep).length < 24
      rw [← dropped]
      rcases Nat.lt_or_eq_of_le few with h | h
      · rw [less h]; exact h
      · obtain ⟨xs, q, ys, split, rest, -⟩ := full h
        rw [rest]
        rw [split] at h
        simp only [List.length_append, List.length_cons] at h ⊢
        omega
    · exact fun _ => ⟨number, nextNumber_isNumber number⟩
    · exact fun _ q hq => free q (sub q hq)
    · intro q hq live
      have vesselIs : (b.toRec s.bookingNumber).vessel = vessel := by rw [named]; rfl
      rw [vesselIs]
      exact may.unknown q (sub q hq) live
    · intro n follows'
      have followsIs : (b.toRec s.bookingNumber).follows = if follows = 0 then none else some follows := by rw [named]; rfl
      rw [followsIs] at follows'
      split at follows'
      · cases follows'
      next other =>
        obtain rfl := Option.some.inj follows'
        obtain ⟨q, hq, fits⟩ := may.led.resolve_left other
        exact ⟨q, List.mem_filter.mpr ⟨hq, stays apart q hq fits.2.1⟩, fits⟩
  · exact .of_not_numbered numbered

end State

end Sys2Proof.Machine
end

section
/-!
SUPPORT. The target, the leaving of the group list, and where the records of an opening may stand (R31, R129, R138, R141).
-/

namespace Sys2Proof.Machine

open Sys2Proof

/-! ### The largest of a list of angles (R31) -/

theorem le_foldl_max (l : List Int) (b : Int) : b ≤ l.foldl max b ∧ ∀ x ∈ l, x ≤ l.foldl max b := by
  induction l generalizing b with
  | nil => exact ⟨le_refl b, nofun⟩
  | cons y l ih =>
    obtain ⟨base, each⟩ := ih (max b y)
    rw [List.foldl_cons]
    refine ⟨(le_max_left b y).trans base, fun x hx => ?_⟩
    rcases List.mem_cons.mp hx with rfl | h
    · exact (le_max_right b x).trans base
    · exact each x h

theorem foldl_max_mem (l : List Int) (b : Int) : l.foldl max b = b ∨ l.foldl max b ∈ l := by
  induction l generalizing b with
  | nil => exact .inl rfl
  | cons y l ih =>
    rw [List.foldl_cons]
    rcases ih (max b y) with is | mem
    · rw [is]
      rcases max_choice b y with h | h <;> rw [h]
      · exact .inl rfl
      · exact .inr List.mem_cons_self
    · exact .inr (List.mem_cons_of_mem _ mem)

/-- What the promise about the places of the records reads of the opening record. -/
def Opening.stand (o : Opening) : Phase × List Nat × Timer × Bool × Bool × Option Phase :=
  (o.phase, o.group, o.linger, o.closeRequested, o.suspended, o.resumePoint)

namespace State

/-! ### The target (R31, R138) -/

theorem targetFor_is (s : State) : TargetIs s s.targetFor := by
  unfold targetFor
  have mem : ∀ v, v ∈ (s.opening.group.filterMap fun n => (s.findRec n).map fun r => r.required.cd) ↔
      ∃ r, Grouped s r ∧ r.required.cd = v := by
    intro v
    simp only [List.mem_filterMap, Option.map_eq_some_iff, Grouped]
    constructor
    · rintro ⟨n, hn, r, found, is⟩; exact ⟨r, ⟨n, hn, found⟩, is⟩
    · rintro ⟨r, ⟨n, hn, found⟩, is⟩; exact ⟨n, hn, r, found, is⟩
  generalize (s.opening.group.filterMap fun n => (s.findRec n).map fun r => r.required.cd) = angles at mem
  dsimp only
  split
  next =>
    refine .inl ⟨fun r grouped => ?_, rfl⟩
    exact nomatch (mem _).mpr ⟨r, grouped, rfl⟩
  next some_ =>
    have nonempty : ∃ v, v ∈ angles := List.exists_mem_of_ne_nil _ some_
    obtain ⟨v, hv⟩ := nonempty
    obtain ⟨r, grouped, -⟩ := (mem v).mp hv
    obtain ⟨base, each⟩ := le_foldl_max angles 0
    refine .inr ⟨⟨r, grouped⟩, angles.foldl max 0, base, fun q a hq is => ?_, ?_, ?_⟩
    · refine each a ((mem a).mpr ⟨q, hq, ?_⟩)
      rw [is]; rfl
    · rcases foldl_max_mem angles 0 with zero | top
      · exact .inl zero
      · obtain ⟨q, hq, is⟩ := (mem _).mp top
        cases required : q.required with
        | angle a => rw [required] at is; exact .inr ⟨q, hq, by rw [required, ← is]; rfl⟩
        | unachievable => rw [required] at is; exact .inl is.symm
    · split
      next big => rw [min_eq_left (le_of_lt big)]
      next small => rw [min_eq_right (not_lt.mp small)]

theorem targetOpen_iff (s : State) : s.targetOpen = true ↔ s.role ≠ .follow ∧ TargetOpen s := by
  simp only [targetOpen, TargetOpen, Bool.and_eq_true, Bool.or_eq_true, Bool.not_eq_true', bne_iff_ne, beq_iff_eq, and_assoc,
    or_assoc]

theorem recomputeTarget_target (s : State) :
    s.recomputeTarget.opening.target = if s.targetOpen then some s.targetFor else s.opening.target := by
  unfold recomputeTarget
  split <;> rfl

/-- The target of one state is that of another with the same list, records and settings. -/
theorem TargetIs.congr {s t : State} {target : Int} (h : TargetIs s target) (list : t.opening.group = s.opening.group)
    (book : t.book = s.book) (settings : t.settings = s.settings) : TargetIs t target := by
  have grouped : ∀ r, Grouped t r ↔ Grouped s r := fun r => by unfold Grouped findRec; rw [list, book]
  have low : t.minOpen = s.minOpen := by unfold minOpen items; rw [settings]
  have high : t.fullOpen = s.fullOpen := by unfold fullOpen items; rw [settings]
  have margin : t.angleMargin = s.angleMargin := by unfold angleMargin items; rw [settings]
  unfold TargetIs at *
  simp only [grouped, low, high, margin]
  exact h

/-! ### Off the list (R129, R141) -/

/-- The target that is held once the list has become `g` (R138). -/
def targetOn (s : State) (g : List Nat) : Option Int :=
  ({ s with opening := { s.opening with group := g } }).recomputeTarget.opening.target

/-- The opening record once a number that was on the list has left it (R129, R138, R141). -/
theorem leaveGroup_opening {s : State} {n : Nat} {g : List Nat} (on : n ∈ s.opening.group)
    (rest : s.opening.group.filter (· != n) = g) : (s.leaveGroup n).opening =
      if g = [] ∧ s.opening.phase = .pending then
        { s.opening with phase := .idle, group := [], target := none, runDir := none, resumePoint := none, frozen := false,
                         suspended := false, closeRequested := false, linger := .stopped, command := none }
      else
        { s.opening with
          group := g, target := s.targetOn g,
          linger := if g = [] ∧ s.opening.phase = .heldOpen then
              (if s.items.channel.linger = 0 then .expired else Timer.startS s.items.channel.linger)
            else s.opening.linger } := by
  subst rest
  unfold leaveGroup targetOn
  rw [if_pos (List.contains_iff_mem.mpr on)]
  dsimp only [modOpening]
  rw [recomputeTarget_frame]
  dsimp only
  generalize s.opening.group.filter (· != n) = g
  split
  next empty =>
    obtain rfl := List.isEmpty_iff.mp empty
    cases phase : s.opening.phase <;> simp [endPending, startLinger, modOpening] <;> rfl
  next some_ =>
    have some_ : g ≠ [] := fun h => some_ (List.isEmpty_iff.mpr h)
    simp [some_]

theorem targetOn_spec (s : State) (g : List Nat) : s.targetOn g =
    if s.targetOpen then some ({ s with opening := { s.opening with group := g } }).targetFor else s.opening.target :=
  recomputeTarget_target _

/-- A number leaves the list of a LEAD or SOLE part. -/
theorem leaveGroup_groupLeft {s : State} (lead : s.role ≠ .follow) {n : Nat} (on : n ∈ s.opening.group) :
    GroupLeft s (s.leaveGroup n) := by
  have some_ : s.opening.group ≠ [] := List.ne_nil_of_mem on
  have left : (s.leaveGroup n).opening.group = s.opening.group.filter (· != n) := leaveGroup_group s n
  have opening := leaveGroup_opening on rfl
  unfold GroupLeft
  rw [left]
  simp only [ne_eq, some_, not_false_eq_true, true_and, decide_eq_true_eq]
  split
  next ended => rw [opening, if_pos ended]
  next stays =>
    rw [if_neg stays] at opening
    have target : (s.leaveGroup n).opening.target = s.targetOn (s.opening.group.filter (· != n)) := by rw [opening]
    refine ⟨by rw [target]; exact opening, fun closed => ?_, fun open_ => ?_⟩
    · rw [target, targetOn_spec, if_neg fun h => closed ((targetOpen_iff s).mp h).2]
    · refine ⟨_, by rw [target, targetOn_spec, if_pos ((targetOpen_iff s).mpr ⟨lead, open_⟩)], ?_⟩
      refine TargetIs.congr (targetFor_is _) left (leaveGroup_book s n) ?_
      rw [leaveGroup_frame]

/-! ### Where the records of an opening may stand (R129, R137, R141, R142, R144) -/

/-- Every record of a later state that is GROUPED or CALLED, or CALLED or PASSING, stands for one that was. -/
structure NoneNew (s t : State) : Prop where
  grouped : ∀ r ∈ t.book.records, r.state = .grouped ∨ r.state = .called →
    ∃ q ∈ s.book.records, q.state = .grouped ∨ q.state = .called
  called : ∀ r ∈ t.book.records, r.state = .called ∨ r.state = .passing →
    ∃ q ∈ s.book.records, q.state = .called ∨ q.state = .passing

theorem NoneNew.of_records {s t : State} (h : t.book.records = s.book.records) : s.NoneNew t :=
  ⟨fun r hr is => ⟨r, h ▸ hr, is⟩, fun r hr is => ⟨r, h ▸ hr, is⟩⟩

/-- Records that change one by one, none of them to a state it was not near. -/
theorem NoneNew.of_map {s t : State} {f : Rec → Rec} (records : t.book.records = s.book.records.map f)
    (grouped : ∀ r ∈ s.book.records, (f r).state = .grouped ∨ (f r).state = .called → r.state = .grouped ∨ r.state = .called)
    (called : ∀ r ∈ s.book.records, (f r).state = .called ∨ (f r).state = .passing → r.state = .called ∨ r.state = .passing) :
    s.NoneNew t := by
  refine ⟨fun r hr is => ?_, fun r hr is => ?_⟩ <;> rw [records] at hr <;> obtain ⟨q, hq, rfl⟩ := List.mem_map.mp hr
  · exact ⟨q, hq, grouped q hq is⟩
  · exact ⟨q, hq, called q hq is⟩

/-- What leaves the opening record's stand, and brings no record to a new place, keeps the promise. -/
theorem GroupPlaced.of_stand {s t : State} (h : s.GroupPlaced) (role : t.role = s.role)
    (stand : t.opening.stand = s.opening.stand) (none : s.NoneNew t) : t.GroupPlaced := by
  obtain ⟨phase, group, linger, requested, suspended, resume⟩ : t.opening.phase = s.opening.phase ∧
      t.opening.group = s.opening.group ∧ t.opening.linger = s.opening.linger ∧
      t.opening.closeRequested = s.opening.closeRequested ∧ t.opening.suspended = s.opening.suspended ∧
      t.opening.resumePoint = s.opening.resumePoint := by simpa [Opening.stand] using stand
  obtain ⟨empty, lingers, idle, closing, resumes, calls⟩ := h
  unfold GroupPlaced
  dsimp only
  rw [role, phase, group, linger, requested, suspended, resume]
  refine ⟨empty, lingers, idle, fun asks r hr => ?_, resumes, fun r hr is => ?_⟩
  · by_contra no
    obtain ⟨q, hq, is⟩ := none.grouped r hr (by tauto)
    have none' := closing asks q hq
    tauto
  · obtain ⟨q, hq, was⟩ := none.called r hr is
    exact calls q hq was

/-- What records leave in an opening keeps the promise, with what it brings to the opening (R129, R141). -/
theorem GroupPlaced.of_left {s t : State} (h : s.GroupPlaced) (lead : s.role ≠ .follow) (role : t.role = s.role)
    (left : GroupLeft s t) (list : s.opening.group = [] → t.opening.group = []) (none : s.NoneNew t) : t.GroupPlaced := by
  obtain ⟨empty, lingers, idle, closing, resumes, calls⟩ := h
  have closing' : s.opening.closeRequested = true → ∀ r ∈ t.book.records, r.state ≠ .grouped ∧ r.state ≠ .called := by
    intro asks r hr
    by_contra no
    obtain ⟨q, hq, is⟩ := none.grouped r hr (by tauto)
    have none' := closing asks q hq
    tauto
  have calls' : ∀ r ∈ t.book.records, r.state = .called ∨ r.state = .passing →
      s.opening.phase = .raising ∨ s.opening.phase = .heldOpen := fun r hr is => by
    obtain ⟨q, hq, was⟩ := none.called r hr is
    exact calls q hq was
  unfold GroupLeft at left
  dsimp only at left
  unfold GroupPlaced
  dsimp only
  rw [role]
  split at left
  next ended =>
    rw [left]
    refine ⟨fun _ => rfl, fun _ => rfl, fun _ => ⟨rfl, rfl⟩, nofun, nofun, fun r hr is => ?_⟩
    rcases calls' r hr is with p | p <;> rw [p] at ended <;> exact nomatch ended.2
  next stays =>
    obtain ⟨opening, -, -⟩ := left
    have phase : t.opening.phase = s.opening.phase := by rw [opening]
    have requested : t.opening.closeRequested = s.opening.closeRequested := by rw [opening]
    have suspended : t.opening.suspended = s.opening.suspended := by rw [opening]
    have resume : t.opening.resumePoint = s.opening.resumePoint := by rw [opening]
    have linger := congrArg Opening.linger opening
    dsimp only at linger
    rw [phase, requested, suspended, resume]
    refine ⟨fun at_ => list (empty at_), fun runs => ?_, fun at_ => ?_, closing', resumes, calls'⟩
    · split at linger
      next emptied => exact (of_decide_eq_true emptied.1).2
      next => rw [linger] at runs; exact list (lingers runs)
    · obtain ⟨stopped, unasked⟩ := idle at_
      refine ⟨?_, unasked⟩
      split at linger
      next emptied =>
        rcases at_ with i | f
        · rw [i] at emptied; exact nomatch emptied.2
        · exact absurd f lead
      next => exact linger.trans stopped

end State

end Sys2Proof.Machine
end

section
/-!
SUPPORT. The places of an opening's records under each operation of the book, the faults and the sequencer (R129, R137, R141,
R142, R144).
-/

namespace Sys2Proof.Machine

open Sys2Proof

namespace State

/-- The promise about the places of the records is carried from one state to the next. -/
def PlacedKeeps (s t : State) : Prop := s.BookNumbered → s.FollowEmpty → s.GroupExact → s.GroupPlaced → t.GroupPlaced

theorem PlacedKeeps.of_stand {s t : State} (role : t.role = s.role) (stand : t.opening.stand = s.opening.stand)
    (none : s.BookNumbered → s.NoneNew t) : s.PlacedKeeps t :=
  fun numbered _ _ h => h.of_stand role stand (none numbered)

theorem PlacedKeeps.of_same {s t : State} (role : t.role = s.role) (book : t.book = s.book)
    (stand : t.opening.stand = s.opening.stand) : s.PlacedKeeps t :=
  .of_stand role stand fun _ => .of_records (by rw [book])

theorem PlacedKeeps.refl (s : State) : s.PlacedKeeps s := fun _ _ _ h => h

theorem setRecState_noneNew {s t : State} {r : Rec} {st : RecState} (numbered : s.BookNumbered)
    (found : s.findRec r.number = some r) (book : t.book = (s.setRecState r.number st).book)
    (grouped : st = .grouped ∨ st = .called → r.state = .grouped ∨ r.state = .called)
    (called : st = .called ∨ st = .passing → r.state = .called ∨ r.state = .passing) : s.NoneNew t := by
  have one : ∀ q ∈ s.book.records, q.number = r.number → q = r := fun q hq number =>
    eq_of_findRec numbered.2.1 found hq number
  refine .of_map (congrArg Book.records book) (fun q hq is => ?_) fun q hq is => ?_
  · split at is
    next same => rw [one q hq (by simpa using same)]; exact grouped is
    next => exact is
  · split at is
    next same => rw [one q hq (by simpa using same)]; exact called is
    next => exact is

theorem revoke_placed {s : State} {r : Rec} (called : s.calledRec = some r) : s.PlacedKeeps (s.revoke r) := by
  obtain ⟨found, state, -⟩ := calledRec_found called
  refine .of_stand (by rw [revoke_frame]) (by rw [revoke_frame]) fun numbered => ?_
  refine setRecState_noneNew (st := .grouped) numbered found ?_ (fun _ => .inr state) (by simp)
  unfold revoke; rw [callEnd_frame]

theorem enterVessel_placed {s : State} {r : Rec} (called : s.calledRec = some r) : s.PlacedKeeps (s.enterVessel r) := by
  obtain ⟨found, state, -⟩ := calledRec_found called
  exact .of_stand rfl rfl fun numbered =>
    setRecState_noneNew (st := .passing) numbered found rfl (by simp) fun _ => .inl state

/-! ### The span halt (R125, R144) -/

theorem haltOpening_placed (s : State) (h : s.GroupPlaced) : s.haltOpening.GroupPlaced := by
  unfold haltOpening
  split
  · exact h
  · obtain ⟨empty, lingers, idle, closing, -, calls⟩ := h
    exact ⟨empty, lingers, idle, closing, fun _ _ => rfl, calls⟩

/-! ### Returns and closings (R18, R142) -/

/-- In FOLLOW role the list is empty with the book (R21). -/
theorem GroupExact.empty_of_follow {s : State} (h : s.GroupExact) (follow : s.FollowEmpty) (role : s.role = .follow) :
    s.opening.group = [] := by
  obtain ⟨-, -, held, -⟩ := h
  refine List.eq_nil_iff_forall_not_mem.mpr fun n hn => ?_
  obtain ⟨r, hr, -⟩ := held n hn
  rw [(follow role).1] at hr
  cases hr

/-- The records of a number change to states outside the opening, or to none that is new, and the number leaves the list. -/
theorem leaveGroup_placed {s t : State} {n : Nat} (role : t.role = s.role) (opening : t.opening = s.opening)
    (none : s.BookNumbered → s.NoneNew t) : s.PlacedKeeps (t.leaveGroup n) := by
  intro numbered follow exact_ h
  by_cases on : n ∈ t.opening.group
  · have lead : t.role ≠ .follow := fun is => by
      rw [opening, exact_.empty_of_follow follow (role ▸ is)] at on
      cases on
    have before : t.GroupPlaced := h.of_stand role (by rw [opening]) (none numbered)
    refine before.of_left lead (by rw [leaveGroup_frame]) (leaveGroup_groupLeft lead on) (fun e => ?_) (.of_records ?_)
    · rw [leaveGroup_group, e]; rfl
    · rw [leaveGroup_book]
  · have still : t.leaveGroup n = t := by simp [leaveGroup, on]
    rw [still]
    exact h.of_stand role (by rw [opening]) (none numbered)

theorem returnToBooked_placed (s : State) (n : Nat) : s.PlacedKeeps (s.returnToBooked n) := by
  unfold returnToBooked
  split
  next r found =>
    obtain ⟨-, rfl⟩ := findRec_mem found
    split
    next =>
      exact leaveGroup_placed rfl rfl fun numbered =>
        setRecState_noneNew (st := .booked) numbered found rfl (by simp) (by simp)
    next =>
      refine leaveGroup_placed ?_ ?_ fun numbered => setRecState_noneNew (st := .booked) numbered found ?_ (by simp) (by simp)
      · rw [revoke_frame]; rfl
      · rw [revoke_frame]; rfl
      · rw [revoke, callEnd_frame]
        exact setRecState_twice s r.number .grouped .booked
    next => exact .refl s
  next => exact .refl s

theorem closed_placed (s : State) (n : Nat) {st : RecState} (h : st.closes) : s.PlacedKeeps (s.closed n st) := by
  intro numbered follow exact_ placed
  have left := leaveGroup_placed (s := s) (t := s.modRec n fun r => { r with state := st, closedAt := some s.clock, changed := true })
    (n := n) rfl rfl (fun _ => .of_map rfl (fun r _ is => ?_) fun r _ is => ?_) numbered follow exact_ placed
  · refine left.of_stand rfl rfl (.of_map rfl (fun r _ is => ?_) fun r _ is => ?_) <;> split at is <;> exact is
  all_goals
    split at is
    · rcases h with rfl | rfl | rfl <;> simp at is
    · exact is

end State

end Sys2Proof.Machine
end

section
/-!
SUPPORT. The places of an opening's records under the returns, the joins, the calls and the phases (R120, R129, R135 to R149).
-/

namespace Sys2Proof.Machine

open Sys2Proof

/-- A record as a return leaves it (R17). -/
def Rec.back (r : Rec) : Rec :=
  if r.state = .grouped ∨ r.state = .called then { r with state := .booked, changed := true } else r

@[simp] theorem Rec.back_number (r : Rec) : r.back.number = r.number := by unfold Rec.back; split <;> rfl

theorem Rec.back_out (r : Rec) : r.back.state ≠ .grouped ∧ r.back.state ≠ .called := by
  unfold Rec.back
  split
  · exact ⟨nofun, nofun⟩
  next out => exact not_or.mp out

theorem Rec.back_back (r : Rec) : r.back.back = r.back := by
  obtain ⟨grouped, called⟩ := r.back_out
  rw [Rec.back, if_neg (not_or.mpr ⟨grouped, called⟩)]

theorem Rec.back_of_out {r : Rec} (grouped : r.state ≠ .grouped) (called : r.state ≠ .called) : r.back = r :=
  if_neg (not_or.mpr ⟨grouped, called⟩)

theorem Rec.back_passing (r : Rec) : r.back.state = .passing ↔ r.state = .passing := by
  unfold Rec.back
  split
  next is => rcases is with h | h <;> simp [h]
  next => rfl

namespace State

/-! ### Returns (R17, R124, R142) -/

theorem map_number_congr {rs : List Rec} (apart : (rs.map (·.number)).Nodup) {r : Rec} (hr : r ∈ rs) {f g : Rec → Rec}
    (same : f r = g r) : (rs.map fun q => if q.number = r.number then f q else q) =
      rs.map fun q => if q.number = r.number then g q else q := by
  refine List.map_congr_left fun q hq => ?_
  split
  next number =>
    obtain rfl : q = r := List.inj_on_of_nodup_map apart hq hr number
    exact same
  next => rfl

theorem returnToBooked_records {s : State} (numbered : s.BookNumbered) (n : Nat) : (s.returnToBooked n).book.records =
    s.book.records.map fun r => if r.number = n then r.back else r := by
  have apart := numbered.2.1
  have booked : ∀ r, s.findRec n = some r → (r.state = .grouped ∨ r.state = .called) →
      (s.setRecState n .booked).book.records = s.book.records.map fun r => if r.number = n then r.back else r := by
    intro r found is
    obtain ⟨hr, rfl⟩ := findRec_mem found
    rw [setRecState_records]
    simp only [beq_iff_eq]
    exact map_number_congr apart hr (if_pos is).symm
  unfold returnToBooked
  split
  next r found =>
    split
    next grouped => rw [leaveGroup_book]; exact booked r found (.inl grouped)
    next called =>
      rw [leaveGroup_book, ← booked r found (.inr called)]
      obtain ⟨-, rfl⟩ := findRec_mem found
      rw [revoke, callEnd_frame]
      exact congrArg Book.records (setRecState_twice s r.number .grouped .booked)
    next grouped called =>
      obtain ⟨hr, rfl⟩ := findRec_mem found
      rw [map_number_congr (g := id) apart hr (Rec.back_of_out grouped called)]
      simp
  next none =>
    have other : ∀ r ∈ s.book.records, r.number ≠ n := fun r hr number => by
      rw [← number, findRec_of_mem apart hr] at none
      cases none
    exact (List.map_id' _).symm.trans (List.map_congr_left fun r hr => (if_neg (other r hr)).symm)

theorem returnAll_records {s : State} (numbered : s.BookNumbered) : s.returnAll.book.records =
    s.book.records.map fun r => if r.number ∈ s.opening.group then r.back else r := by
  have folded : ∀ (ns : List Nat) (t : State), t.BookNumbered → (ns.foldl returnToBooked t).book.records =
      t.book.records.map fun r => if r.number ∈ ns then r.back else r := by
    intro ns
    induction ns with
    | nil => intro t _; simp
    | cons n ns ih =>
      intro t numbered
      rw [List.foldl_cons, ih _ ((returnToBooked_bookKeeps t n).numbered numbered), returnToBooked_records numbered,
        List.map_map]
      refine List.map_congr_left fun r _ => ?_
      by_cases same : r.number = n <;> by_cases more : r.number ∈ ns <;> simp [same, more, Rec.back_back]
  exact folded _ s numbered

/-- With an exact list, a return of all leaves no record GROUPED or CALLED. -/
theorem returnAll_back {s : State} (numbered : s.BookNumbered) (exact_ : s.GroupExact) :
    s.returnAll.book.records = s.book.records.map Rec.back := by
  rw [returnAll_records numbered]
  refine List.map_congr_left fun r hr => ?_
  split
  next => rfl
  next off =>
    have out : ¬(r.state = .grouped ∨ r.state = .called ∨ r.state = .passing) := fun is => off ((exact_.2.2.2 r hr).mpr is)
    exact (Rec.back_of_out (fun h => out (.inl h)) fun h => out (.inr (.inl h))).symm

theorem returnAll_none {s : State} (numbered : s.BookNumbered) (exact_ : s.GroupExact) :
    ∀ r ∈ s.returnAll.book.records, r.state ≠ .grouped ∧ r.state ≠ .called := by
  rw [returnAll_back numbered exact_]
  intro r hr
  obtain ⟨q, -, rfl⟩ := List.mem_map.mp hr
  exact q.back_out

/-- The list is empty where no record is GROUPED, CALLED or PASSING. -/
theorem GroupExact.empty {s : State} (h : s.GroupExact) (none : ∀ r ∈ s.book.records, ¬r.inGroup) : s.opening.group = [] := by
  obtain ⟨-, -, held, listed⟩ := h
  refine List.eq_nil_iff_forall_not_mem.mpr fun n hn => ?_
  obtain ⟨r, hr, rfl⟩ := held n hn
  exact none r hr ((listed r hr).mp hn)

theorem GroupExact.none_of_empty {s : State} (h : s.GroupExact) (empty : s.opening.group = []) :
    ∀ r ∈ s.book.records, ¬r.inGroup := fun r hr is => by
  have mem := (h.2.2.2 r hr).mpr is
  rw [empty] at mem
  cases mem

/-! ### What a change carries -/

/-- What the promises about the credits, the roles and the link read, beside the book. -/
def bearing (s : State) : Role × Nat × Int × WaterSource × Bool × Option PartnerView × BufferState :=
  (s.role, s.opening.credits, s.items.road.roadCredits, s.water.source, s.link.paired, s.link.view, s.link.buffer)

/-- The promises about the book, the opening, the credits, the roles, the link and the retries are carried from one state to
the next, the places of the records where `full` holds. -/
structure Keeps (full : Prop) (s t : State) : Prop where
  book : s.BookKeeps t
  follow : s.FollowEmpty → t.FollowEmpty
  placed : full → s.PlacedKeeps t
  credits : s.CreditsBounded → t.CreditsBounded
  link : s.LinkOff → t.LinkOff
  retries : s.RetryBounded → t.RetryBounded

namespace Keeps

variable {full : Prop}

theorem trans {s t u : State} (h : s.Keeps full t) (h' : t.Keeps full u) : s.Keeps full u where
  book := h.book.trans h'.book
  follow p := h'.follow (h.follow p)
  placed f numbered follow exact_ p :=
    h'.placed f (h.book.numbered numbered) (h.follow follow) (h.book.group numbered exact_) (h.placed f numbered follow exact_ p)
  credits p := h'.credits (h.credits p)
  link p := h'.link (h.link p)
  retries p := h'.retries (h.retries p)

/-- What changes the book, the opening and the gates alone. -/
theorem of_book {s t : State} (bearing : t.bearing = s.bearing) (empty : s.book.records = [] → t.book.records = [])
    (book : s.BookKeeps t) (placed : full → s.PlacedKeeps t) (retries : s.RetryBounded → t.RetryBounded) :
    s.Keeps full t := by
  simp only [State.bearing, Prod.mk.injEq] at bearing
  obtain ⟨role, credits, most, water, paired, view, buffer⟩ := bearing
  exact {
    book := book
    placed := placed
    retries := retries
    follow := fun p is => ⟨empty (p (role ▸ is)).1, water.trans (p (role ▸ is)).2⟩
    credits := fun p => by unfold CreditsBounded; rw [credits, most]; exact p
    link := fun p is => by rw [paired, view, buffer]; exact p (role ▸ is) }

/-- What writes the gates alone of what the promises read. -/
theorem of_gates {s t : State} (h : (t.book, t.opening.stand, t.bearing) = (s.book, s.opening.stand, s.bearing))
    (retries : s.RetryBounded → t.RetryBounded) : s.Keeps full t := by
  simp only [Prod.mk.injEq] at h
  obtain ⟨book, stand, bearing⟩ := h
  have role : t.role = s.role := congrArg Prod.fst bearing
  have group : t.opening.group = s.opening.group := congrArg (fun x => x.2.1) stand
  exact .of_book bearing (fun e => by rw [book, e]) (.of_same book group) (fun _ => .of_same role book stand) retries

theorem retries_of_gates {s t : State} (a : t.apA.gates = s.apA.gates) (b : t.apB.gates = s.apB.gates)
    (h : s.RetryBounded) : t.RetryBounded := by
  intro g
  have same : t.gate g = s.gate g := by
    unfold State.gate State.ap
    cases g.ap <;> simp only [a, b]
  rw [same]
  exact h g

/-- What touches none of it. -/
theorem quiet {s t : State} (h : (t.book, t.opening.stand, t.bearing) = (s.book, s.opening.stand, s.bearing))
    (gates : (t.apA.gates, t.apB.gates) = (s.apA.gates, s.apB.gates)) : s.Keeps full t :=
  .of_gates h (retries_of_gates (congrArg Prod.fst gates) (congrArg Prod.snd gates))

theorem refl (s : State) : s.Keeps full s := .quiet rfl rfl

end Keeps

end State

end Sys2Proof.Machine
end

section
/-!
SUPPORT. The obstruction retries of a gate under each of its operations (R85, R86, R89 to R92).
-/

namespace Sys2Proof.Machine

open Sys2Proof

namespace Gate

namespace RetryRight

/-- A gate at rest that counts no fewer than it did, its wait running only as it did. -/
theorem rest {g h : Gate} (p : g.RetryRight) (state : h.state ≠ .lowering ∧ h.state ≠ .raising)
    (count : h.retryCount ≤ g.retryCount) (wait : h.retryWait = g.retryWait) (reversing : h.reversing = false) :
    h.RetryRight := by
  obtain ⟨few, waits, -⟩ := p
  refine ⟨count.trans few, fun runs => ⟨state.1, state.2, ?_⟩, fun r => ?_⟩
  · obtain ⟨-, -, most⟩ := waits (wait ▸ runs)
    exact count.trans most
  · rw [reversing] at r; cases r

/-- A gate that moves has no retry wait running. -/
theorem moving {g : Gate} (p : g.RetryRight) (state : g.state = .lowering ∨ g.state = .raising) :
    g.retryWait.isRunning = false := by
  by_contra runs
  obtain ⟨low, high, -⟩ := p.2.1 (by simpa using runs)
  rcases state with h | h
  exacts [low h, high h]

/-- A gate whose wait does not run and that does not reverse. -/
theorem still {g h : Gate} (p : g.RetryRight) (count : h.retryCount ≤ g.retryCount) (wait : h.retryWait.isRunning = false)
    (reversing : h.reversing = false) : h.RetryRight :=
  ⟨count.trans p.1, fun runs => absurd runs (by simp [wait]), fun r => absurd r (by simp [reversing])⟩

theorem maybeFlash {g : Gate} (p : g.RetryRight) (t : Int) (c : Closure) (k : GateKind) : (g.maybeFlash t c k).RetryRight := by
  rw [Gate.maybeFlash_frame]
  exact p

theorem demandTo {g : Gate} (p : g.RetryRight) (d : Demand) : (g.demandTo d).RetryRight := by
  obtain ⟨few, waits, reverses⟩ := p
  unfold Gate.demandTo
  split
  · exact ⟨few, waits, reverses⟩
  · split
    · exact ⟨Nat.zero_le _, fun runs => ⟨(waits runs).1, (waits runs).2.1, Nat.zero_le _⟩,
        fun r => ⟨(reverses r).1, Nat.zero_le _⟩⟩
    · exact ⟨few, waits, nofun⟩
    · exact ⟨few, waits, reverses⟩

theorem pursue {g : Gate} (p : g.RetryRight) (x : RoadCtx) : (g.pursue x).RetryRight := by
  rcases g.pursue_cases x with ⟨same, -⟩ | ⟨before, moved⟩
  · rw [same]; exact p
  · have wait : g.retryWait.isRunning = false := by
      rcases before with h | h | h
      exacts [p.moving (.inl h), p.moving (.inr h), h]
    rcases moved with e | ⟨-, e⟩ <;> rw [e] <;> exact p.still le_rfl wait rfl

theorem endTravel {g : Gate} (p : g.RetryRight) (x : RoadCtx) (c : Closure) (k : GateKind) :
    (g.endTravel x c k).RetryRight := by
  unfold Gate.endTravel
  dsimp only
  split
  next h =>
    simp only [Bool.and_eq_true, Bool.or_eq_true, beq_iff_eq] at h
    refine maybeFlash ?_ _ _ _
    exact p.still le_rfl (p.moving h.1) rfl
  next =>
    split
    next h =>
      simp only [Bool.and_eq_true, beq_iff_eq] at h
      exact p.still (Nat.zero_le _) (p.moving (.inl h.1)) rfl
    next =>
      split
      next h =>
        simp only [Bool.and_eq_true, beq_iff_eq] at h
        refine maybeFlash ?_ _ _ _
        refine ⟨p.1, fun runs => ⟨nofun, nofun, ?_⟩, nofun⟩
        dsimp only at runs
        split at runs
        next reverses => exact (p.2.2 reverses).2
        next => rw [p.moving (.inr h.1)] at runs; cases runs
      next => exact p

theorem meetObstruct {g : Gate} (p : g.RetryRight) (x : RoadCtx) : (g.meetObstruct x).RetryRight := by
  unfold Gate.meetObstruct
  split
  next h =>
    simp only [Bool.and_eq_true, beq_iff_eq] at h
    have wait := p.moving (.inl h.1)
    split
    next => exact p.still le_rfl wait rfl
    next few =>
      have few : g.retryCount ≤ 2 := by omega
      split
      · exact ⟨p.1, fun runs => absurd runs (by simp [Gate.move, wait]), fun _ => ⟨rfl, few⟩⟩
      · exact ⟨p.1, fun _ => ⟨nofun, nofun, few⟩, nofun⟩
  next => exact p

theorem round {g : Gate} (p : g.RetryRight) (x : RoadCtx) (c : Closure) (st : Option ReopenStep) (k : GateKind) :
    (g.round x c st k).RetryRight := by
  unfold Gate.round
  split
  · exact p
  · exact (((p.demandTo _).pursue x).endTravel x c k).meetObstruct x

theorem setHold {g : Gate} (p : g.RetryRight) (x : RoadCtx) (c : Closure) (k : GateKind) (held : Bool) :
    (g.setHold x c k held).RetryRight := by
  unfold Gate.setHold
  split
  · exact p
  · split
    · refine maybeFlash ?_ _ _ _
      exact p
    · exact p

theorem stateFromLimits_rest (g : Gate) : g.stateFromLimits ≠ .lowering ∧ g.stateFromLimits ≠ .raising := by
  unfold Gate.stateFromLimits
  repeat' split
  all_goals exact ⟨nofun, nofun⟩

theorem restFromLimits {g : Gate} (p : g.RetryRight) : g.restFromLimits.RetryRight :=
  p.rest (stateFromLimits_rest g) le_rfl rfl rfl

/-- A gate at rest does not reverse. -/
theorem atRest {g : Gate} (p : g.RetryRight) (rests : g.atRest = true) : g.reversing = false := by
  by_contra r
  obtain ⟨raising, -⟩ := p.2.2 (by simpa using r)
  simp [Gate.atRest, raising] at rests

theorem limitChange {g : Gate} (p : g.RetryRight) (x : RoadCtx) (l : GateLimits) : (g.limitChange x l).RetryRight := by
  unfold Gate.limitChange
  dsimp only
  split
  next rests =>
    have same : g.reversing = false := p.atRest rests
    split
    · exact p.rest ⟨nofun, nofun⟩ le_rfl rfl same
    · split
      · exact p.rest ⟨nofun, nofun⟩ le_rfl rfl same
      · split
        · exact p.rest ⟨nofun, nofun⟩ (Nat.zero_le _) rfl same
        · split <;> exact p
  next => exact p

theorem establish {g : Gate} (p : g.RetryRight) (l : GateLimits) : (g.establish l).RetryRight := by
  unfold Gate.establish
  dsimp only
  split
  · exact restFromLimits (g := { g with limits := some l }) p
  · exact p

theorem travelExpiry {g : Gate} (p : g.RetryRight) : g.travelExpiry.RetryRight := by
  unfold Gate.travelExpiry
  split
  · exact p
  · split
    next rests => exact p.rest ⟨nofun, nofun⟩ le_rfl rfl (p.atRest rests)
    next => exact p.rest ⟨nofun, nofun⟩ le_rfl rfl rfl

theorem retryExpiry {g : Gate} (p : g.RetryRight) : g.retryExpiry.RetryRight := by
  unfold Gate.retryExpiry
  split
  · exact p
  next runs =>
    obtain ⟨low, high, few⟩ := p.2.1 (by simpa using runs)
    refine ⟨?_, nofun, fun r => absurd (p.2.2 r).1 high⟩
    dsimp only
    split <;> omega

theorem retry {g : Gate} (p : g.RetryRight) : g.retry.RetryRight :=
  restFromLimits (g := { g with retryCount := 0, retryWait := .stopped })
    ⟨Nat.zero_le _, nofun, fun r => ⟨(p.2.2 r).1, Nat.zero_le _⟩⟩

theorem reset (k : GateKind) : (Gate.reset k).RetryRight := ⟨Nat.zero_le _, nofun, nofun⟩

theorem rekind {g : Gate} (p : g.RetryRight) (old new : GateKind) : (Gate.rekind old new g).RetryRight := by
  unfold Gate.rekind
  split
  · exact p
  · split
    · exact reset .unused
    · split
      · exact restFromLimits (g := { Gate.reset new with limits := g.limits, obstruct := g.obstruct }) (reset new)
      · exact p

theorem tick {g : Gate} (p : g.RetryRight) : g.tick.RetryRight := by
  refine ⟨p.1, fun runs => p.2.1 ?_, p.2.2⟩
  have ticked : (g.retryWait.tick).isRunning = g.retryWait.isRunning := by cases g.retryWait <;> rfl
  exact ticked.symm.trans runs

end RetryRight

end Gate

/-! ### The gates of an approach, and of the part -/

/-- The obstruction retries of all gates of an approach are right. -/
def Approach.RetryRight (a : Approach) : Prop := ∀ i, (a.gates.at i).RetryRight

namespace Approach.RetryRight

theorem of_gates {a b : Approach} (p : a.RetryRight) (h : a.GatesRest b) : b.RetryRight := by
  intro i
  rw [h i]
  exact p i

theorem zip {α : Type} {a b : Approach} (p : a.RetryRight) {f : α → Gate → Gate} {ks : Six α}
    (gates : b.gates = Six.zip f ks a.gates) (each : ∀ k g, g.RetryRight → (f k g).RetryRight) : b.RetryRight := by
  intro i
  rw [gates, Six.zip_at]
  exact each _ _ (p i)

theorem put {a : Approach} (p : a.RetryRight) (i : Fin 6) {g : Gate} (q : g.RetryRight) :
    ({ a with gates := a.gates.put i g } : Approach).RetryRight := by
  intro j
  rw [Six.put_at]
  split
  exacts [q, p j]

theorem round {a : Approach} (p : a.RetryRight) (x : RoadCtx) : (a.round x).RetryRight := by
  intro i
  rw [Approach.round_gate]
  exact (p i).round x _ _ _

theorem setHolds {a : Approach} (p : a.RetryRight) (x : RoadCtx) (held : Bool) : (a.setHolds x held).RetryRight := by
  refine p.zip (f := fun k g => if k == GateKind.unused then g else g.setHold x a.closure k held) rfl fun k g q => ?_
  split
  exacts [q, q.setHold _ _ _ _]

theorem establish {a : Approach} (p : a.RetryRight) (x : RoadCtx) (l : Six GateLimits) : (a.establish x l).RetryRight := by
  intro i
  unfold Approach.establish
  dsimp only
  rw [Six.zip_at, Six.zip_at]
  dsimp only
  split
  · exact p i
  · split
    exacts [p i, (p i).establish _]

theorem timerExpiry {a : Approach} (p : a.RetryRight) (x : RoadCtx) : (a.timerExpiry x).RetryRight := by
  unfold Approach.timerExpiry
  split
  · exact p
  · split
    case h_4 => exact p
    all_goals exact p.of_gates (Approach.enter_gates _ _ _ _ _)

end Approach.RetryRight

end Sys2Proof.Machine
end

section
/-!
SUPPORT. The promises about the book, the opening, the credits, the roles, the link and the retries through the reactions of a
round (R121, R129, R134 to R149).
-/

namespace Sys2Proof.Machine

open Sys2Proof

namespace State

/-! ### Retries of the whole part (R85, R90) -/

theorem retryBounded_iff (s : State) : s.RetryBounded ↔ ∀ x, (s.ap x).RetryRight :=
  ⟨fun h x i => h ⟨x, i⟩, fun h g => h g.ap g.ix⟩

theorem GatesRest.retries {s t : State} (h : s.GatesRest t) (p : s.RetryBounded) : t.RetryBounded := by
  intro g
  rw [h g]
  exact p g

theorem onAp_retries (s : State) (x : Ap) {f : RoadCtx → Approach → Approach}
    (each : ∀ (x : RoadCtx) (a : Approach), a.RetryRight → (f x a).RetryRight) (p : s.RetryBounded) : (s.onAp x f).RetryBounded := by
  rw [retryBounded_iff] at *
  intro y
  rw [onAp_ap]
  split
  · exact each _ _ (p x)
  · exact p y

theorem onUsedAps_retries (s : State) {f : RoadCtx → Approach → Approach}
    (each : ∀ (x : RoadCtx) (a : Approach), a.RetryRight → (f x a).RetryRight) (p : s.RetryBounded) :
    (s.onUsedAps f).RetryBounded := by
  rw [retryBounded_iff] at *
  intro y
  rw [onUsedAps_ap]
  split
  · exact each _ _ (p y)
  · exact p y

theorem setAp_retries (s : State) (x : Ap) {a : Approach} (p : s.RetryBounded) (q : a.RetryRight) :
    (s.setAp x a).RetryBounded :=
  onAp_retries s x (f := fun _ _ => a) (fun _ _ _ => q) p

/-! ### The fault unit (R124, R144, R168, R173) -/

theorem FollowEmpty.congr {s t : State} (p : s.FollowEmpty) (role : t.role = s.role) (book : t.book = s.book)
    (water : t.water.source = s.water.source) : t.FollowEmpty := by
  unfold FollowEmpty
  rw [role, book, water]
  exact p

namespace Keeps

variable {full : Prop}

theorem revoke {s : State} {r : Rec} (called : s.calledRec = some r) : s.Keeps full (s.revoke r) := by
  have book : (s.revoke r).book = (s.setRecState r.number .grouped).book := by unfold State.revoke; rw [callEnd_frame]
  refine .of_book ?_ (fun e => ?_) (revoke_bookKeeps called) (fun _ => revoke_placed called) (retries_of_gates ?_ ?_)
  · rw [revoke_frame]; rfl
  · rw [book, setRecState_records, e]; rfl
  · rw [revoke_frame]
  · rw [revoke_frame]

theorem haltOpening (s : State) : s.Keeps full s.haltOpening := by
  refine .of_book ?_ ?_ (.of_same ?_ ?_) (fun _ _ _ _ => haltOpening_placed s) (retries_of_gates ?_ ?_) <;>
    (unfold State.haltOpening; split)
  case refine_2.isTrue | refine_2.isFalse => exact id
  all_goals rfl

theorem startTone (s : State) : s.Keeps full s.startTone := by
  unfold State.startTone
  split
  next twin => exact {
    book := .of_same rfl rfl
    follow := fun p => p
    placed := fun _ => .of_same rfl rfl rfl
    credits := fun p => p
    link := fun _ role => absurd twin (by simp [State.twin, show s.role = .sole from role])
    retries := fun p => p }
  next => exact .refl s

theorem enterHalt (s : State) (f : FaultId) : s.Keeps full (s.enterHalt f) := by
  have stopped : s.Keeps full (s.setHalted f).haltMotion.haltLocks := .quiet rfl rfl
  refine ((stopped.trans ?_).trans (haltOpening _)).trans (startTone _)
  unfold State.revokeCalled
  split
  next r called => exact revoke called
  next => exact .refl _

theorem raise (s : State) (f : FaultId) : s.Keeps full (s.raise f) := by
  unfold State.raise
  split
  · exact .refl s
  · dsimp only
    have latched : s.Keeps full (s.setFault f { s.fault f with latch := true }) := .quiet rfl rfl
    split
    · exact latched.trans (enterHalt _ f)
    · exact latched

theorem reportAll (s : State) : s.Keeps full s.reportAll := by
  unfold State.reportAll
  dsimp only
  have reported : s.Keeps full { s with faults := { s.faults with recs := s.reportedRecs } } := .quiet rfl rfl
  split
  · exact reported
  · split
    · exact reported.trans (enterHalt _ _)
    · exact reported

/-! ### The steps of a phase (R119, R135) -/

theorem onUsedAps (s : State) {f : RoadCtx → Approach → Approach}
    (each : ∀ (x : RoadCtx) (a : Approach), a.RetryRight → (f x a).RetryRight) : s.Keeps full (s.onUsedAps f) := by
  refine .of_gates ?_ (onUsedAps_retries s each)
  rw [onUsedAps_frame]
  rfl

theorem of_gatesRest {s t : State} (h : (t.book, t.opening.stand, t.bearing) = (s.book, s.opening.stand, s.bearing))
    (rest : s.GatesRest t) : s.Keeps full t := .of_gates h rest.retries

theorem roadStep (s : State) : s.Keeps full s.roadStep := by
  refine .of_gatesRest ?_ (roadStep_gates s)
  rw [roadStep_frame]
  rfl

/-- The linger wait begins on an empty list (R141). -/
theorem startLinger {s : State} (held : s.opening.phase = .heldOpen) (lead : s.role ≠ .follow) (empty : s.opening.group = []) :
    s.Keeps full s.startLinger :=
  .of_book rfl id (.of_same rfl rfl)
    (fun _ _ _ _ h => ⟨fun _ => empty, fun _ => empty, fun is => is.elim (by simp [State.startLinger, modOpening, held]) (absurd · lead),
      h.2.2.2.1, h.2.2.2.2.1, h.2.2.2.2.2⟩) id

theorem order (s : State) (c : SeqCmd) : s.Keeps full (s.order c) := .quiet rfl rfl

theorem giveStep (s : State) : s.Keeps full s.giveStep := by
  unfold State.giveStep
  split
  case h_1 | h_2 => exact .refl s
  case h_3 | h_4 => split; exacts [order s _, roadStep s]
  case h_5 | h_9 => exact order s _
  case h_6 => split <;> exact .quiet rfl rfl
  case h_7 held =>
    split
    · exact .refl s
    next lead =>
      have served : s.Keeps full (s.modCall fun c => { c with serving := s.opening.runDir }) := .quiet rfl rfl
      dsimp only
      split
      next empty => exact served.trans (startLinger held (by simpa using lead) (List.isEmpty_iff.mp empty))
      next => exact served
  case h_8 =>
    split
    · exact order s _
    · refine .of_book rfl id (.of_same rfl rfl) (fun _ _ _ _ h => ?_) id
      exact ⟨h.1, fun runs => absurd rfl runs, fun is => ⟨rfl, (h.2.2.1 is).2⟩, h.2.2.2⟩

end Keeps

/-! ### Phases (R135 to R137) -/

theorem setPhase_opening (s : State) (p : Phase) : (s.setPhase p).opening = { s.opening with phase := p, command := none } := by
  unfold State.setPhase
  dsimp only
  split <;> rfl

/-- What a change of phase asks for, to keep the places of the records right. -/
structure MayEnter (s : State) (p : Phase) : Prop where
  empty : p = .idle ∨ p = .lowering ∨ p = .locking ∨ p = .reopeningRoad → s.opening.group = []
  idle : p = .idle → s.opening.linger = .stopped ∧ s.opening.closeRequested = false
  resume : s.role ≠ .follow → s.opening.suspended = true → s.opening.resumePoint = some p
  calls : ∀ r ∈ s.book.records, r.state = .called ∨ r.state = .passing → p = .raising ∨ p = .heldOpen

theorem setPhase_placed {s : State} {p : Phase} (may : s.GroupPlaced → MayEnter s p) (h : s.GroupPlaced) :
    (s.setPhase p).GroupPlaced := by
  obtain ⟨empty', idle', resume', calls'⟩ := may h
  obtain ⟨-, lingers, idle, closing, -, -⟩ := h
  have role : (s.setPhase p).role = s.role := by rw [setPhase_frame]
  have book : (s.setPhase p).book = s.book := by rw [setPhase_frame]
  unfold GroupPlaced
  dsimp only
  rw [setPhase_opening, role, book]
  exact ⟨empty', lingers, fun is => is.elim idle' fun f => idle (.inr f), closing, resume', calls'⟩

namespace Keeps

variable {full : Prop}

theorem setPhase {s : State} {p : Phase} (may : full → s.BookNumbered → s.FollowEmpty → s.GroupExact → s.GroupPlaced → MayEnter s p) :
    s.Keeps full (s.setPhase p) := by
  refine .of_book ?_ (fun e => ?_) (.of_same ?_ ?_) (fun full n f e => setPhase_placed (may full n f e)) (retries_of_gates ?_ ?_)
  all_goals rw [setPhase_frame]
  · unfold bearing items
    dsimp only
    rw [setPhase_opening]
  · exact e
  · dsimp only
    rw [setPhase_opening]

theorem enterPhase {s : State} {p : Phase} (may : full → s.BookNumbered → s.FollowEmpty → s.GroupExact → s.GroupPlaced → MayEnter s p) :
    s.Keeps full (s.enterPhase p) :=
  (setPhase may).trans (giveStep _)

end Keeps

/-- An opening that is not suspended goes on to a phase in which its records may stand. -/
theorem mayEnter_of_going {s : State} {p : Phase} (going : s.opening.suspended = false)
    (empty : p = .idle ∨ p = .lowering ∨ p = .locking ∨ p = .reopeningRoad → s.opening.group = []) (busy : p ≠ .idle)
    (calls : ∀ r ∈ s.book.records, r.state = .called ∨ r.state = .passing → p = .raising ∨ p = .heldOpen) : MayEnter s p :=
  ⟨empty, fun is => absurd is busy, fun _ held => absurd held (by simp [going]), calls⟩

/-- In a phase other than RAISING and HELD_OPEN no record is CALLED or PASSING. -/
theorem noCalls {s : State} (h : s.GroupPlaced) (raising : s.opening.phase ≠ .raising) (held : s.opening.phase ≠ .heldOpen)
    {p : Phase} : ∀ r ∈ s.book.records, r.state = .called ∨ r.state = .passing → p = .raising ∨ p = .heldOpen :=
  fun r hr is => by rcases h.2.2.2.2.2 r hr is with q | q; exacts [absurd q raising, absurd q held]

theorem advanceAllowed_going {s : State} (h : s.advanceAllowed = true) : s.opening.suspended = false := by
  simp only [State.advanceAllowed, Bool.and_eq_true, Bool.not_eq_true'] at h
  exact h.1.1.1

theorem nextPhase_cases {s : State} {p : Phase} (h : s.nextPhase = some p) :
    s.opening.phase = .closingRoad ∧ p = .unlocking ∨ s.opening.phase = .unlocking ∧ p = .raising ∨
      s.opening.phase = .raising ∧ p = .heldOpen ∨
      (s.opening.phase = .heldOpen ∧ p = .lowering ∧
        (s.opening.linger = .expired ∨ s.opening.closeRequested = true ∧ s.anyRec .passing = false)) ∨
      s.opening.phase = .lowering ∧ p = .locking ∨ s.opening.phase = .locking ∧ p = .reopeningRoad ∨
      s.opening.phase = .reopeningRoad ∧ p = .idle := by
  unfold State.nextPhase at h
  cases e : s.opening.phase <;> simp only [e, Option.ite_none_right_eq_some, Option.some.injEq, reduceCtorEq] at h <;>
    obtain ⟨test, rfl⟩ := h <;> simp
  simpa using test

/-- HELD_OPEN is left on an empty list (R137). -/
theorem empty_of_heldOpen_done {s : State} (exact_ : s.GroupExact) (h : s.GroupPlaced)
    (done : s.opening.linger = .expired ∨ s.opening.closeRequested = true ∧ s.anyRec .passing = false) :
    s.opening.group = [] := by
  rcases done with expired | ⟨asked, none⟩
  · exact h.2.1 (by rw [expired]; decide)
  · refine exact_.empty fun r hr is => ?_
    obtain ⟨grouped, called⟩ := h.2.2.2.1 asked r hr
    rcases is with g | c | p
    · exact grouped g
    · exact called c
    · simp only [anyRec, List.any_eq_false] at none
      exact none r hr (by simpa using p)

theorem mayEnter_next {s : State} {p : Phase} (going : s.opening.suspended = false) (next : s.nextPhase = some p)
    (busy : p ≠ .idle) (exact_ : s.GroupExact) (h : s.GroupPlaced) : MayEnter s p := by
  have none_of : s.opening.group = [] → ∀ r ∈ s.book.records, r.state = .called ∨ r.state = .passing →
      p = .raising ∨ p = .heldOpen := fun empty r hr is =>
    absurd (is.elim (fun c => .inr (.inl c)) fun q => .inr (.inr q)) (exact_.none_of_empty empty r hr)
  rcases nextPhase_cases next with ⟨at_, rfl⟩ | ⟨at_, rfl⟩ | ⟨at_, rfl⟩ | ⟨at_, rfl, done⟩ | ⟨at_, rfl⟩ | ⟨at_, rfl⟩ | ⟨at_, rfl⟩
  · exact mayEnter_of_going going (by simp) busy (noCalls h (by simp [at_]) (by simp [at_]))
  · exact mayEnter_of_going going (by simp) busy (noCalls h (by simp [at_]) (by simp [at_]))
  · exact mayEnter_of_going going (by simp) busy fun _ _ _ => .inr rfl
  · have empty := empty_of_heldOpen_done exact_ h done
    exact mayEnter_of_going going (fun _ => empty) busy (none_of empty)
  · exact mayEnter_of_going going (fun _ => h.1 (.inr (.inl at_))) busy (noCalls h (by simp [at_]) (by simp [at_]))
  · exact mayEnter_of_going going (fun _ => h.1 (.inr (.inr (.inl at_)))) busy (noCalls h (by simp [at_]) (by simp [at_]))
  · exact absurd rfl busy

/-! ### The return to IDLE, and the credits (R134, R137) -/

theorem intervalElapses_credits {s : State} (p : s.CreditsBounded) : s.intervalElapses.CreditsBounded := by
  show ((if (s.opening.credits : Int) < s.items.road.roadCredits then s.opening.credits + 1 else s.opening.credits : Nat) : Int) ≤
    s.items.road.roadCredits
  split
  · push_cast; omega
  · exact p

namespace Keeps

variable {full : Prop}

theorem intervalElapses (s : State) : s.Keeps full s.intervalElapses where
  book := .of_same rfl rfl
  follow p := p.congr rfl rfl rfl
  placed _ := .of_same rfl rfl rfl
  credits := intervalElapses_credits
  link p := p
  retries p := p

theorem startInterval (s : State) : s.Keeps full s.startInterval := by
  unfold State.startInterval
  split
  · exact intervalElapses s
  · exact .quiet rfl rfl

theorem toIdle {s : State} (at_ : s.opening.phase = .reopeningRoad) : s.Keeps full s.toIdle := by
  have idled : s.Keeps full ((s.setPhase .idle).modOpening fun o =>
      { o with target := none, runDir := none, resumePoint := none, frozen := false, suspended := false,
               closeRequested := false, linger := .stopped }) := by
    refine .of_book ?_ (fun e => ?_) (.of_same ?_ ?_) (fun _ _ _ exact_ h => ?_) (retries_of_gates ?_ ?_)
    · unfold bearing items modOpening
      dsimp only
      rw [setPhase_opening, setPhase_frame]
    · unfold modOpening
      rw [setPhase_frame]
      exact e
    · unfold modOpening
      rw [setPhase_frame]
    · unfold modOpening
      dsimp only
      rw [setPhase_opening]
    · have empty := h.1 (.inr (.inr (.inr at_)))
      have book : (s.setPhase .idle).book = s.book := by rw [setPhase_frame]
      unfold GroupPlaced modOpening
      dsimp only
      rw [setPhase_opening, book]
      refine ⟨fun _ => empty, nofun, fun _ => ⟨rfl, rfl⟩, nofun, nofun, fun r hr is => ?_⟩
      exact absurd (is.elim (fun c => .inr (.inl c)) fun q => .inr (.inr q)) (exact_.none_of_empty empty r hr)
    · unfold modOpening
      rw [setPhase_frame]
    · unfold modOpening
      rw [setPhase_frame]
  exact idled.trans (startInterval _)

/-! ### The stages of a round -/

theorem startTest (s : State) : s.Keeps full s.startTest := by
  unfold State.startTest
  split
  next test =>
    simp only [Bool.and_eq_true, bne_iff_ne, ne_eq, beq_iff_eq, Bool.not_eq_true'] at test
    obtain ⟨⟨⟨-, pending⟩, allowed⟩, -⟩ := test
    have going := advanceAllowed_going allowed
    have may : ∀ t : State, t.book = s.book → t.opening.suspended = s.opening.suspended → s.GroupPlaced →
        MayEnter t .closingRoad := fun t book same h =>
      mayEnter_of_going (same.trans going) (by simp) (by simp) (book ▸ noCalls h (by simp [pending]) (by simp [pending]))
    split
    · exact enterPhase fun _ _ _ _ => may s rfl rfl
    · split
      · have spent : s.Keeps full (s.modOpening fun o =>
            { o with credits := o.credits - 1, creditUsed := true, interval := .cut, intervalTimer := .stopped }) := {
          book := .of_same rfl rfl
          follow := fun p => p
          placed := fun _ => .of_same rfl rfl rfl
          credits := fun p => le_trans (Int.ofNat_le.mpr (Nat.sub_le _ _)) p
          link := fun p => p
          retries := fun p => p }
        exact spent.trans (enterPhase fun _ _ _ _ => may _ rfl rfl)
      · exact .refl s
  next => exact .refl s

theorem advancePhase (s : State) : s.Keeps full s.advancePhase := by
  unfold State.advancePhase
  split
  next test =>
    have going := advanceAllowed_going (Bool.and_eq_true_iff.mp test).2
    split
    next next =>
      rcases nextPhase_cases next with ⟨-, is⟩ | ⟨-, is⟩ | ⟨-, is⟩ | ⟨-, is, -⟩ | ⟨-, is⟩ | ⟨-, is⟩ | ⟨at_, -⟩
      case inr.inr.inr.inr.inr.inr => exact toIdle at_
      all_goals cases is
    next p busy next => exact enterPhase fun _ _ _ exact_ h => mayEnter_next going next busy exact_ h
    next => exact .refl s
  next => exact .refl s

theorem clearSuspension (s : State) : s.Keeps full s.clearSuspension :=
  .of_book rfl id (.of_same rfl rfl)
    (fun _ _ _ _ h => ⟨h.1, h.2.1, h.2.2.1, h.2.2.2.1, fun _ held => absurd held (by simp [State.clearSuspension, modOpening]),
      h.2.2.2.2.2⟩) id

theorem endSuspension (s : State) : s.Keeps full s.endSuspension := by
  unfold State.endSuspension
  split
  · dsimp only
    refine (clearSuspension s).trans ?_
    split
    · exact enterPhase fun _ _ _ _ _ => mayEnter_of_going rfl (by simp) (by simp) fun _ _ _ => .inl rfl
    · exact giveStep _
  · exact .refl s

theorem giveCommand {s t : State} {c : SeqCmd} (h : s.giveCommand c = some t) : s.Keeps full t := by
  cases c <;> simp only [State.giveCommand, Option.ite_none_right_eq_some, Option.some.injEq] at h
  case road => exact h ▸ roadStep s
  all_goals obtain ⟨-, rfl⟩ := h
  case lower =>
    rw [startDown_opening_frame]
    exact .quiet rfl rfl
  all_goals exact .quiet rfl rfl

theorem tryCommand (s : State) : s.Keeps full s.tryCommand := by
  unfold State.tryCommand
  split
  · exact .refl s
  · split
    · exact .refl s
    · split
      next t given => exact (giveCommand given).trans (.quiet rfl rfl)
      next => exact .refl s

theorem callIfReady {s : State} (d : Dir) {n : Nat} (due : s.callDue = true) (first : ∃ d, s.candidate d = some n) :
    s.Keeps full (s.callIfReady d n) := by
  obtain ⟨d', first⟩ := first
  obtain ⟨-, r, found, grouped⟩ := candidate_spec first
  unfold State.callIfReady
  split
  next =>
    refine .of_book rfl (fun e => ?_) (call_bookKeeps found grouped (callDue_none due)) (fun _ _ _ _ h => ?_) id
    · exact (setRecState_records s n .called).trans (by rw [e]; rfl)
    · obtain ⟨hr, -⟩ := findRec_mem found
      have open_ : s.opening.closeRequested = false := by
        by_contra asked
        exact (h.2.2.2.1 (by simpa using asked) r hr).1 grouped
      have held : s.opening.phase = .heldOpen := by
        simp only [callDue, Bool.and_eq_true, beq_iff_eq] at due
        exact due.1.1.1.1.1.1
      exact ⟨h.1, h.2.1, h.2.2.1, fun asked => absurd asked (by simp [State.call, modCall, setRecState, modRec, open_]),
        h.2.2.2.2.1, fun _ _ _ => .inr held⟩
  next => exact .refl s

theorem callStage (s : State) : s.Keeps full s.callStage := by
  unfold State.callStage
  split
  next due =>
    dsimp only
    split
    next n first => exact callIfReady _ due ⟨_, first⟩
    next =>
      split
      next n first =>
        refine Keeps.trans (t := s.serve _) (.quiet rfl rfl) (callIfReady (s := s.serve _) _ due ⟨_, first⟩)
      next => exact .refl s
  next => exact .refl s

theorem channelStage (s : State) : s.Keeps full s.channelStage := by
  unfold State.channelStage
  split
  · exact .refl s
  · refine .trans ?_ (callStage _)
    unfold State.driftStage
    split
    next r called => split; exacts [revoke called, .refl s]
    next => exact .refl s

theorem permitStage (s : State) : s.Keeps full s.permitStage := by
  refine .quiet ?_ ?_ <;> unfold State.permitStage <;> repeat' split
  all_goals rfl

theorem angleStage (s : State) : s.Keeps full s.angleStage := by
  rw [angleStage_frame]
  exact .quiet rfl rfl

theorem seatLockStage (s : State) : s.Keeps full s.seatLockStage := by
  rw [seatLockStage_frame]
  exact .quiet rfl rfl

theorem toeStage (s : State) : s.Keeps full s.toeStage := by
  rw [toeStage_frame]
  exact .quiet rfl rfl

theorem roadStage (s : State) : s.Keeps full s.roadStage := onUsedAps s fun x _ p => p.round x

/-- The stages of a round that follow the end of a suspension. -/
theorem afterSuspension (s : State) : s.Keeps full
    s.tryCommand.seatLockStage.toeStage.roadStage.startTest.advancePhase.channelStage :=
  (tryCommand s).trans <| (seatLockStage _).trans <| (toeStage _).trans <| (roadStage _).trans <|
    (startTest _).trans <| (advancePhase _).trans <| channelStage _

theorem react (s : State) : s.Keeps full s.react :=
  (reportAll s).trans <| (permitStage _).trans <| (angleStage _).trans <| (endSuspension _).trans <| afterSuspension _

theorem outputs (s : State) : s.Keeps full s.outputs := by
  have lamps : s.aspectStage.Keeps full s.aspectStage.lampStage :=
    onUsedAps _ fun x a p => .zip (f := fun k g => { g with lamp := laneAspect a.closure k g }) p rfl fun _ _ q => q
  exact (show s.Keeps full s.aspectStage from .quiet rfl rfl).trans (lamps.trans (.quiet rfl rfl))

theorem round (s : State) : s.Keeps full s.round := (react s).trans (outputs _)

theorem rounds (n : Nat) (s : State) : s.Keeps full (rounds n s) := by
  induction n generalizing s with
  | zero => exact .refl s
  | succ n ih => exact (round s).trans (ih s.round)

theorem settle (s : State) : s.Keeps full s.settle := rounds 8 s

end Keeps

end State

end Sys2Proof.Machine
end

section
/-!
SUPPORT. The promises about the book, the opening, the credits, the roles, the link and the retries through the shared
operations of the commands (R18, R30, R129, R139 to R149).
-/

namespace Sys2Proof.Machine

open Sys2Proof

namespace State

/-! ### Joins (R139) -/

theorem recomputeTarget_stand (s : State) : s.recomputeTarget.opening.stand = s.opening.stand := by
  unfold recomputeTarget
  split <;> rfl

theorem recomputeTarget_credits (s : State) : s.recomputeTarget.opening.credits = s.opening.credits := by
  unfold recomputeTarget
  split <;> rfl

theorem leaveGroup_credits (s : State) (n : Nat) : (s.leaveGroup n).opening.credits = s.opening.credits := by
  by_cases on : n ∈ s.opening.group
  · rw [leaveGroup_opening on rfl]
    split <;> rfl
  · simp [leaveGroup, on]

theorem groupThem_opening (s : State) (ns : List Nat) :
    (s.groupThem ns).opening = { s.opening with group := s.opening.group ++ ns } := by
  rw [groupThem_frame]

/-- Records made GROUPED in a phase that takes them in, the linger timer stopped. -/
theorem joined_placed {s t : State} {ns : List Nat} (role : t.role = s.role)
    (records : t.book.records = (s.groupThem ns).book.records) (phase : s.joinPhase = true)
    (open_ : s.opening.closeRequested = false) (stand : t.opening.stand =
      ({ s.opening with group := s.opening.group ++ ns, linger := .stopped } : Opening).stand) (h : s.GroupPlaced) :
    t.GroupPlaced := by
  simp only [Opening.stand, Prod.mk.injEq] at stand
  obtain ⟨phase', group, linger, requested, suspended, resume⟩ := stand
  obtain ⟨-, -, -, -, resumes, calls⟩ := h
  have joins : s.opening.phase ≠ .idle ∧ s.opening.phase ≠ .lowering ∧ s.opening.phase ≠ .locking ∧
      s.opening.phase ≠ .reopeningRoad := by
    unfold joinPhase at phase
    split at phase
    case h_6 => cases phase
    all_goals simp [*]
  unfold GroupPlaced
  dsimp only
  rw [role, phase', group, linger, requested, suspended, resume, open_, records, groupThem_records]
  refine ⟨fun at_ => ?_, fun runs => absurd rfl runs, fun _ => ⟨rfl, rfl⟩, nofun, resumes, fun r hr is => ?_⟩
  · obtain ⟨idle, lowering, locking, reopening⟩ := joins
    rcases at_ with e | e | e | e
    exacts [absurd e idle, absurd e lowering, absurd e locking, absurd e reopening]
  · obtain ⟨q, hq, rfl⟩ := List.mem_map.mp hr
    refine calls q hq ?_
    split at is
    · simp at is
    · exact is

namespace Keeps

variable {full : Prop}

theorem recomputeTarget (s : State) : s.Keeps full s.recomputeTarget := by
  refine .quiet ?_ ?_
  · unfold State.recomputeTarget
    split <;> rfl
  · rw [recomputeTarget_frame]

theorem examineJoins (s : State) : s.Keeps full s.examineJoins := by
  have frame := examineJoins_frame s
  unfold SameButBook at frame
  by_cases joins : (s.role != .follow && s.joinPhase && !s.opening.closeRequested) = true ∧
      (s.taken (if s.opening.frozen then s.opening.target else none)).isEmpty = false
  · have is : s.examineJoins = ((s.groupThem (s.taken (if s.opening.frozen then s.opening.target else none))).recomputeTarget
        |>.modOpening fun o => { o with linger := .stopped }) := by
      unfold State.examineJoins
      rw [if_pos joins.1]
      dsimp only
      rw [if_neg (by simp [joins.2])]
    have opening := groupThem_opening s (s.taken (if s.opening.frozen then s.opening.target else none))
    generalize s.taken (if s.opening.frozen then s.opening.target else none) = ns at is opening
    have stand : s.examineJoins.opening.stand =
        ({ s.opening with group := s.opening.group ++ ns, linger := .stopped } : Opening).stand := by
      have same := recomputeTarget_stand (s.groupThem ns)
      rw [is]
      simp only [Opening.stand, Prod.mk.injEq, modOpening] at same ⊢
      obtain ⟨phase, group, -, requested, suspended, resume⟩ := same
      rw [phase, group, requested, suspended, resume, opening]
      simp
    have credits : s.examineJoins.opening.credits = s.opening.credits := by
      rw [is]
      show (State.recomputeTarget _).opening.credits = _
      rw [recomputeTarget_credits, opening]
    have records : s.examineJoins.book.records = (s.groupThem ns).book.records := by
      rw [is, recomputeTarget_frame]; rfl
    simp only [Bool.and_eq_true, bne_iff_ne, ne_eq, Bool.not_eq_true'] at joins
    refine .of_book ?_ (fun e => ?_) (examineJoins_bookKeeps s) (fun _ _ _ _ => joined_placed ?_ records joins.1.1.2 joins.1.2 stand)
      (retries_of_gates ?_ ?_)
    · unfold bearing items
      rw [credits, frame]
    · rw [records, groupThem_records, e]; rfl
    all_goals rw [frame]
  · have still : s.examineJoins = s := by
      unfold State.examineJoins
      split
      next may =>
        dsimp only
        rw [if_pos]
        by_contra some_
        exact joins ⟨may, by simpa using some_⟩
      next => rfl
    rw [still]
    exact .refl s

/-! ### Returns and closings (R18, R129, R142) -/

theorem leaveGroup_bearing {s t : State} (n : Nat) (h : t.bearing = s.bearing) : (t.leaveGroup n).bearing = s.bearing := by
  have credits := leaveGroup_credits t n
  rw [← h, leaveGroup_frame]
  unfold bearing items
  dsimp only
  rw [credits]

theorem returnToBooked (s : State) (n : Nat) : s.Keeps full (s.returnToBooked n) := by
  refine .of_book ?_ (fun e => ?_) (returnToBooked_bookKeeps s n) (fun _ => returnToBooked_placed s n) (retries_of_gates ?_ ?_)
  · unfold State.returnToBooked
    split
    · split
      · exact leaveGroup_bearing n rfl
      · refine leaveGroup_bearing n ?_
        rw [revoke_frame]
        rfl
      · rfl
    · rfl
  · have none : s.findRec n = none := by simp [findRec, e]
    simp [State.returnToBooked, none, e]
  · rw [returnToBooked_frame]
  · rw [returnToBooked_frame]

theorem returnAll (s : State) : s.Keeps full s.returnAll :=
  foldl_frame State.returnToBooked (Keeps full) .refl (fun _ _ _ => .trans) returnToBooked _ s

theorem closeRec (s : State) (n : Nat) {st : RecState} (h : st.closes) : s.Keeps full (s.closeRec n st) := by
  have closed : s.Keeps full (s.closed n st) := by
    refine .of_book ?_ (fun e => ?_) (closed_bookKeeps s n h) (fun _ => closed_placed s n h) (retries_of_gates ?_ ?_)
    · exact leaveGroup_bearing n rfl
    · rw [closed_records, e]; rfl
    · unfold State.closed freeFollowers
      rw [leaveGroup_frame]
      rfl
    · unfold State.closed freeFollowers
      rw [leaveGroup_frame]
      rfl
  exact closed.trans (examineJoins _)

/-! ### Tests and re-evaluations (R30, R140) -/

/-- Records that change one by one, none of them its state. -/
theorem of_map {s t : State} {f : Rec → Rec} (records : t.book.records = s.book.records.map f)
    (state : ∀ r, (f r).state = r.state) (rest : (t.opening, t.bearing) = (s.opening, s.bearing))
    (gates : (t.apA.gates, t.apB.gates) = (s.apA.gates, s.apB.gates)) (book : s.BookKeeps t) : s.Keeps full t := by
  obtain ⟨opening, bearing⟩ := Prod.mk.inj rest
  refine .of_book bearing (fun e => by rw [records, e]; rfl) book (fun _ => ?_)
    (retries_of_gates (congrArg Prod.fst gates) (congrArg Prod.snd gates))
  refine .of_stand (congrArg Prod.fst bearing) (by rw [opening]) fun _ => .of_map records ?_ ?_ <;>
    exact fun r _ is => by rwa [state] at is

theorem rewriteAngles (s : State) : s.Keeps full s.rewriteAngles := by
  refine .of_map (f := fun r => if r.live then
    { r with required := s.requiredFor r.draft, changed := r.changed || s.requiredFor r.draft != r.required } else r)
    rfl (fun r => ?_) rfl rfl (rewriteAngles_bookKeeps s)
  split <;> rfl

theorem clearChanged (s : State) : s.Keeps full s.clearChanged := by
  refine .of_map (f := fun r => if s.changedPage.contains r.number then { r with changed := false } else r)
    rfl (fun r => ?_) rfl rfl (clearChanged_bookKeeps s)
  split <;> rfl

/-! ### BOOK, AMEND, FORGET (R8, R10, R15) -/

theorem amendRec {s : State} {n : Nat} {c : AmendChange} {r : Rec} {req : Required} (may : s.Amendable n c r req) :
    s.Keeps full (s.amendRec n c req) := by
  refine .of_map (amendRec_records s n c req) (fun q => ?_) rfl rfl (amendRec_bookKeeps may)
  split <;> rfl

theorem forget {s : State} {n : Nat} {r : Rec} (found : s.findRec n = some r) (closed : r.live = false) :
    s.Keeps full { s with book := { s.book with records := s.book.records.filter fun q => q.number != n } } := by
  refine .of_book rfl (fun e => ?_) (forget_bookKeeps found closed) (fun _ => ?_) id
  · dsimp only
    rw [e]
    rfl
  · exact .of_stand rfl rfl fun _ => ⟨fun q hq is => ⟨q, List.mem_of_mem_filter hq, is⟩,
      fun q hq is => ⟨q, List.mem_of_mem_filter hq, is⟩⟩

/-- A booking stands BOOKED; a part in FOLLOW role takes none (R7, R21). -/
theorem placeBooking {s : State} {vessel dir : Nat} {draft : Int} {priority : Nat} {nb : NotBeforeParam} {follows : Nat}
    {b : Booking} (may : s.Bookable vessel dir draft priority nb follows b) (lead : s.role ≠ .follow) :
    s.Keeps full (s.placeBooking b) := by
  have listed : ∀ q ∈ (s.placeBooking b).book.records, q ∈ s.book.records ∨ q.state = .booked := by
    intro q hq
    obtain ⟨keep, dropped, -⟩ := makeRoom_filter s.book.records
    rcases List.mem_append.mp hq with old | new
    · rw [dropped] at old
      exact .inl (List.mem_of_mem_filter old)
    · rw [List.mem_singleton.mp new]
      exact .inr rfl
  exact {
    book := placeBooking_bookKeeps may
    follow := fun _ role => absurd role lead
    placed := fun _ => .of_stand rfl rfl fun _ => ⟨fun q hq is => by
        rcases listed q hq with old | new
        · exact ⟨q, old, is⟩
        · simp [new] at is, fun q hq is => by
        rcases listed q hq with old | new
        · exact ⟨q, old, is⟩
        · simp [new] at is⟩
    credits := fun p => p
    link := fun p => p
    retries := fun p => p }

end Keeps

end State

end Sys2Proof.Machine
end

section
/-!
SUPPORT. The promises about the book, the opening, the credits, the roles, the link and the retries through the requests on the
opening, the mirror of a FOLLOW, and a write of a setting (R134, R141 to R149, R184).
-/

namespace Sys2Proof.Machine

open Sys2Proof

namespace State

/-! ### The opening is asked to end or to go on (R141 to R147) -/

/-- Of the opening record, what leaves the list in a phase other than PENDING writes the list, the target and the linger timer
alone. -/
def SameButList (s t : State) : Prop :=
  t.opening = { s.opening with group := t.opening.group, target := t.opening.target, linger := t.opening.linger }

theorem SameButList.trans {s t u : State} (h : s.SameButList t) (h' : t.SameButList u) : s.SameButList u := by
  unfold SameButList at *
  rw [h', h]

theorem SameButList.leaveGroup {s : State} (busy : s.opening.phase ≠ .pending) (n : Nat) : s.SameButList (s.leaveGroup n) := by
  unfold SameButList
  by_cases on : n ∈ s.opening.group
  · rw [leaveGroup_opening on rfl, if_neg fun h => busy h.2]
  · have still : s.leaveGroup n = s := by simp [State.leaveGroup, on]
    rw [still]

theorem SameButList.returnToBooked {s : State} (busy : s.opening.phase ≠ .pending) (n : Nat) :
    s.SameButList (s.returnToBooked n) := by
  unfold State.returnToBooked
  split
  · split
    · exact .leaveGroup (s := s.setRecState n .booked) busy n
    next r _ _ _ =>
      have opening : ((s.revoke r).setRecState n .booked).opening = s.opening := by rw [revoke_frame]; rfl
      have left := SameButList.leaveGroup (s := (s.revoke r).setRecState n .booked) (by rw [opening]; exact busy) n
      unfold SameButList at *
      rwa [opening] at left
    · rfl
  · rfl

theorem SameButList.phase {s t : State} (h : s.SameButList t) : t.opening.phase = s.opening.phase := by
  unfold SameButList at h
  rw [h]

theorem SameButList.returnAll {s : State} (busy : s.opening.phase ≠ .pending) : s.SameButList s.returnAll := by
  have folded : ∀ (ns : List Nat) (t : State), t.opening.phase ≠ .pending → t.SameButList (ns.foldl State.returnToBooked t) := by
    intro ns
    induction ns with
    | nil => exact fun _ _ => rfl
    | cons n ns ih =>
      intro t busy
      have one := SameButList.returnToBooked busy n
      exact one.trans (ih _ (one.phase ▸ busy))
  exact folded _ s busy

/-- With no record PASSING, a return of all leaves the list empty. -/
theorem returnAll_empty {s : State} (numbered : s.BookNumbered) (exact_ : s.GroupExact)
    (none : ∀ r ∈ s.book.records, r.state ≠ .passing) : s.returnAll.opening.group = [] := by
  refine GroupExact.empty ((returnAll_bookKeeps s).group numbered exact_) fun r hr is => ?_
  rw [returnAll_back numbered exact_] at hr
  obtain ⟨q, hq, rfl⟩ := List.mem_map.mp hr
  obtain ⟨grouped, called⟩ := q.back_out
  rcases is with g | c | p
  exacts [grouped g, called c, none q hq (q.back_passing.mp p)]

theorem returnAll_calls {s : State} (numbered : s.BookNumbered) (exact_ : s.GroupExact)
    (none : ∀ r ∈ s.book.records, r.state ≠ .passing) :
    ∀ r ∈ s.returnAll.book.records, ¬(r.state = .called ∨ r.state = .passing) := by
  intro r hr is
  rw [returnAll_back numbered exact_] at hr
  obtain ⟨q, hq, rfl⟩ := List.mem_map.mp hr
  rcases is with c | p
  exacts [q.back_out.2 c, none q hq (q.back_passing.mp p)]

/-- Where no record is CALLED or PASSING, an opening that is not suspended may go on to LOWERING and beyond on an empty list. -/
theorem mayEnter_of_returned {s t : State} {p : Phase} (numbered : s.BookNumbered) (exact_ : s.GroupExact)
    (none : ∀ r ∈ s.book.records, r.state ≠ .passing) (book : t.book = s.returnAll.book)
    (list : t.opening.group = s.returnAll.opening.group) (going : t.opening.suspended = false) (busy : p ≠ .idle) :
    MayEnter t p := by
  refine mayEnter_of_going going (fun _ => ?_) busy fun r hr is => ?_
  · rw [list, returnAll_empty numbered exact_ none]
  · rw [book] at hr
    exact absurd is (returnAll_calls numbered exact_ none r hr)

theorem passing_none {s : State} (h : s.GroupPlaced) (raising : s.opening.phase ≠ .raising) (held : s.opening.phase ≠ .heldOpen) :
    ∀ r ∈ s.book.records, r.state ≠ .passing := fun r hr is => by
  rcases h.2.2.2.2.2 r hr (.inr is) with q | q
  exacts [raising q, held q]

namespace Keeps

variable {full : Prop}

theorem lingerExpires {s : State} (runs : s.opening.linger.isRunning = true) :
    s.Keeps full (s.modOpening fun o => { o with linger := .expired }) := by
  refine .of_book rfl id (.of_same rfl rfl) (fun _ _ _ _ h => ?_) id
  have notStopped : s.opening.linger ≠ .stopped := fun is => by rw [is] at runs; cases runs
  exact ⟨h.1, fun _ => h.2.1 notStopped, fun is => absurd (h.2.2.1 is).1 notStopped, h.2.2.2⟩

/-- A close is asked for once every record but a PASSING one has been returned (R142). -/
theorem closeNow {s : State} (lead : s.role ≠ .follow) (held : s.opening.phase = .heldOpen) :
    s.Keeps full (s.returnAll.modOpening fun o => { o with closeRequested := true, linger := .stopped }) := by
  have returned : s.Keeps full s.returnAll := returnAll s
  exact {
    book := returned.book.trans (.of_same rfl rfl)
    follow := fun p => returned.follow p
    placed := fun f numbered follow exact_ h => by
      obtain ⟨empty, -, -, -, resumes, calls⟩ := returned.placed f numbered follow exact_ h
      refine ⟨empty, fun runs => absurd rfl runs, fun is => ?_, fun _ => returnAll_none numbered exact_, resumes, calls⟩
      rcases is with idle | role
      · have same : s.returnAll.opening.phase = s.opening.phase := (SameButList.returnAll (by simp [held])).phase
        rw [modOpening, same, held] at idle
        cases idle
      · refine absurd ?_ lead
        rw [returnAll_frame] at role
        exact role
    credits := fun p => returned.credits p
    link := fun p => returned.link p
    retries := fun p => returned.retries p }

theorem setPhase_after {s t : State} {p : Phase} (h : s.Keeps full t)
    (may : full → s.BookNumbered → s.FollowEmpty → s.GroupExact → s.GroupPlaced → MayEnter t p) :
    s.Keeps full (t.setPhase p) := by
  have entered : s.Keeps False (t.setPhase p) := Keeps.trans ⟨h.book, h.follow, nofun, h.credits, h.link, h.retries⟩ (setPhase nofun)
  exact ⟨entered.book, entered.follow, fun f n fo e q => setPhase_placed (fun _ => may f n fo e q) (h.placed f n fo e q),
    entered.credits, entered.link, entered.retries⟩

/-- An opening ends in PENDING once its records have been returned (R129, R143). -/
theorem endPending_after {s t : State} (h : s.Keeps full t) (placed : full → s.PlacedKeeps t.endPending) :
    s.Keeps full t.endPending where
  book := h.book.trans (.of_same rfl rfl)
  follow p := h.follow p
  placed := placed
  credits p := h.credits p
  link p := h.link p
  retries p := h.retries p

theorem abortOpening {s : State} (early : s.opening.phase = .pending ∨ s.opening.phase = .closingRoad) :
    s.Keeps full s.abortOpening := by
  have noPassing : s.GroupPlaced → ∀ r ∈ s.book.records, r.state ≠ .passing := fun h =>
    passing_none h (by rcases early with e | e <;> simp [e]) (by rcases early with e | e <;> simp [e])
  unfold State.abortOpening
  split
  · refine endPending_after (returnAll s) fun _ numbered _ exact_ h => ?_
    refine ⟨fun _ => returnAll_empty numbered exact_ (noPassing h), fun runs => absurd rfl runs, fun _ => ⟨rfl, rfl⟩, nofun, nofun,
      fun r hr is => absurd is (returnAll_calls numbered exact_ (noPassing h) r hr)⟩
  · have returned : s.Keeps full (s.returnAll.clearSuspension.modOpening fun o => { o with target := none }) :=
      ((returnAll s).trans (clearSuspension _)).trans (.quiet rfl rfl)
    refine (setPhase_after returned ?_).trans (giveStep _)
    exact fun _ numbered _ exact_ h => mayEnter_of_returned numbered exact_ (noPassing h) rfl rfl rfl (by simp)

theorem continueOpening {s : State} (held : s.opening.suspended = true) : s.Keeps full s.continueOpening := by
  unfold State.continueOpening
  have begun : s.Keeps full (if s.role == .follow then s.clearSuspension
      else s.clearSuspension.setPhase (s.opening.resumePoint.getD s.opening.phase)) := by
    split
    · exact clearSuspension s
    next lead =>
      refine setPhase_after (clearSuspension s) fun _ _ _ _ h => ?_
      obtain ⟨empty, -, idle, -, resumes, calls⟩ := h
      rw [resumes (by simpa using lead) held]
      exact ⟨empty, fun is => idle (.inl is), fun _ still => absurd still (by simp [State.clearSuspension, modOpening]), calls⟩
  dsimp only
  split
  · exact begun.trans (order _ _)
  · exact begun.trans (giveStep _)

theorem recoverOpening {s : State} (none : s.role ≠ .follow → ∀ r ∈ s.book.records, r.state ≠ .passing) :
    s.Keeps full s.recoverOpening := by
  unfold State.recoverOpening
  split
  · split
    exacts [(clearSuspension s).trans (giveStep _), .refl s]
  next lead =>
    have none := none (by simpa using lead)
    have returned : s.Keeps full s.returnAll.clearSuspension := (returnAll s).trans (clearSuspension _)
    split
    case h_1 | h_2 | h_3 | h_4 =>
      refine setPhase_after (returned.trans (.of_book rfl id (.of_same rfl rfl) (fun _ _ _ _ h => ?_) id)) ?_
      · exact ⟨h.1, fun runs => absurd rfl runs, fun _ => ⟨rfl, rfl⟩, nofun, h.2.2.2.2⟩
      · exact fun _ numbered _ exact_ _ => mayEnter_of_returned numbered exact_ none rfl rfl rfl (by simp)
    case h_5 | h_6 => exact returned.trans (giveStep _)
    case h_7 | h_8 => exact clearSuspension s
    case h_9 => exact .refl s

/-! ### The mirror (R148, R149) -/

/-- A FOLLOW, whose book is empty, takes any phase from its LEAD. -/
theorem mirror {s : State} (follow : s.role = .follow) (v : PartnerView) : s.Keeps full (s.mirror v) := by
  unfold State.mirror
  dsimp only
  have shown : s.Keeps full (s.modOpening fun o =>
      { o with target := v.target, number := v.number, runDir := mirrorRun v.runDir }) := .quiet rfl rfl
  have taken : s.Keeps full ((s.modOpening fun o =>
      { o with target := v.target, number := v.number, runDir := mirrorRun v.runDir }).setPhase (mirrorPhase v.phase)) := by
    refine setPhase_after shown fun _ _ empty exact_ h => ?_
    refine ⟨fun _ => exact_.empty_of_follow empty follow, fun _ => h.2.2.1 (.inr follow), fun lead => absurd follow lead,
      fun r hr => ?_⟩
    rw [show (s.modOpening _).book.records = s.book.records from rfl, (empty follow).1] at hr
    cases hr
  split
  · exact shown
  · split
    exacts [taken, taken.trans (giveStep _)]

/-- What writes the link of a part that is not in SOLE role, or whose link is not as it stands there. -/
theorem relink {s t : State} (h : t = { s with link := t.link }) (may : s.role = .sole → ¬s.LinkOff) : s.Keeps full t := by
  rw [h]
  exact {
    book := .of_same rfl rfl
    follow := fun p => p
    placed := fun _ => .of_same rfl rfl rfl
    credits := fun p => p
    link := fun off role => absurd off (may role)
    retries := fun p => p }

theorem acceptFrame {s : State} (twin : s.role ≠ .sole) (v : PartnerView) : s.Keeps full (s.acceptFrame v) := by
  unfold State.acceptFrame
  dsimp only
  split
  next follow =>
    refine .trans ?_ (mirror (by simpa using follow) v)
    exact relink rfl fun sole => absurd sole twin
  next => exact relink rfl fun sole => absurd sole twin

/-! ### An opening starts (R132) -/

theorem startOpening {s : State} {ns : List Nat} (taken : ns = s.taken none) (not_ : ¬full) :
    s.Keeps full (s.startOpening ns) := by
  have grouped : s.Keeps False (s.groupThem ns) := by
    refine .of_book ?_ (fun e => ?_) (groupThem_bookKeeps (taken ▸ taken_placing s none)) nofun (retries_of_gates ?_ ?_)
    · rw [groupThem_frame]; rfl
    · rw [groupThem_records, e]; rfl
    · rw [groupThem_frame]
    · rw [groupThem_frame]
  have named : s.Keeps False ((s.groupThem ns).modOpening fun o =>
      { o with number := nextOpening o.number, creditUsed := false, runDir := s.runOf (s.opening.group ++ ns), frozen := false }) :=
    grouped.trans (.quiet rfl rfl)
  have started := (named.trans (setPhase (p := .pending) nofun)).trans (recomputeTarget _)
  exact ⟨started.book, started.follow, fun f => absurd f not_, started.credits, started.link, started.retries⟩

/-! ### A setting is written (R184) -/

theorem put_roadCredits (x : Items) {i : Item} (other : i ≠ .roadCredits) (v : SettingValue) :
    (x.put i v).road.roadCredits = x.road.roadCredits := by
  cases i
  case roadCredits => exact absurd rfl other
  case table | bands => cases v <;> rfl
  case gateKind g => obtain ⟨x, i⟩ := g; cases x <;> rfl
  case zoneUse x i => cases x <;> rfl
  all_goals rfl

theorem putItem (s : State) {i : Item} (other : i ≠ .roadCredits) (v : SettingValue) : s.Keeps full (s.putItem i v) := by
  refine .quiet ?_ rfl
  have most : (s.putItem i v).items.road.roadCredits = s.items.road.roadCredits := put_roadCredits _ other v
  unfold bearing
  rw [most]
  rfl

/-- A write of ROAD_CREDITS keeps the counter within it (R134). -/
theorem writeCredits (s : State) {n : Int} (range : 0 ≤ n) : s.Keeps full (s.writeItem .roadCredits (.num n)) where
  book := .of_same rfl rfl
  follow p := p
  placed _ := .of_same rfl rfl rfl
  credits _ := by
    have few : ((min s.opening.credits n.toNat : Nat) : Int) ≤ n := by omega
    exact few
  link p := p
  retries p := p

end Keeps

end State

end Sys2Proof.Machine
end

section
/-!
SUPPORT. What a command can do to the fault unit: its own change raises conditions and touches the fault unit no further,
but for SET_MASK, ACK_FAULTS and RESUME (R168, R171 to R174).
-/

namespace Sys2Proof.Machine

open Sys2Proof

/-- Different faults stand at different places of the catalogue. -/
theorem FaultId.index_injective {f g : FaultId} (h : f.index = g.index) : f = g :=
  Function.LeftInverse.injective (g := fun i : Fin 29 => allFaults[i]) (fun f => by cases f <;> rfl) h

namespace State

/-- The records of the faults and the halt state, without the resume-prepare flag. -/
def faultCore (s : State) : Vector FaultRec 29 × Bool × Option FaultId × Option Nat :=
  (s.faults.recs, s.faults.halted, s.faults.entryFault, s.faults.enteredAt)

/-- From one state to the next the fault unit changes by conditions raised and reported alone, a halted leaf stays halted, and
the promises about the book, the opening and the road are carried, the places of the records where `full` holds. -/
inductive Path (full : Prop) : State → State → Prop
  | still {s t : State} (faults : t.faultCore = s.faultCore) (leaf : s.motion.state = .halted → t.motion.state = .halted)
    (keeps : s.Keeps full t) : Path full s t
  | raise (s : State) (f : FaultId) : Path full s (s.raise f)
  | report (s : State) : Path full s s.reportAll
  | trans {s t u : State} (h : Path full s t) (h' : Path full t u) : Path full s u

namespace Path

variable {full : Prop}

theorem refl (s : State) : s.Path full s := .still rfl id (.refl s)

theorem of_haltCore {s t : State} (core : t.haltCore = s.haltCore) (keeps : s.Keeps full t) : s.Path full t := by
  obtain ⟨faults, motion⟩ := haltCore_eq_iff.mp core
  exact .still (by unfold faultCore; rw [faults]) (fun h => motion ▸ h) keeps

theorem of_sameButBook {s t : State} (h : s.SameButBook t) (keeps : s.Keeps full t) : s.Path full t :=
  .of_haltCore (by unfold SameButBook at h; rw [h]; rfl) keeps

theorem of_sameButPort {s t : State} (h : s.SameButPort t) : s.Path full t := by
  unfold SameButPort at h
  rw [h]
  exact .still rfl id (.quiet rfl rfl)

/-! ### What stays along the way -/

theorem raise_haltStays (s : State) (f : FaultId) : s.HaltStays (s.raise f) where
  latched g l := by
    by_cases same : f.index = g.index
    · obtain rfl := FaultId.index_injective same
      by_cases mask : (s.fault f).mask = true
      · rwa [raise_masked s f mask]
      · exact raise_latched s f (by simpa using mask)
    · unfold State.latched at *
      rwa [raise_other s f g same]
  entry h := by
    unfold State.raise
    split
    · exact ⟨h, rfl, rfl⟩
    · dsimp only
      rw [if_neg (by simp [h])]
      exact ⟨h, rfl, rfl⟩
  leaf l := raise_leafHalted l f

theorem haltStays {s t : State} (h : s.Path full t) : s.HaltStays t := by
  induction h with
  | @still s t faults leaf keeps =>
    obtain ⟨recs, rest⟩ := Prod.mk_inj.mp faults
    obtain ⟨halted, rest⟩ := Prod.mk_inj.mp rest
    obtain ⟨entry, enteredAt⟩ := Prod.mk_inj.mp rest
    exact {
      latched := fun f l => by simpa only [State.latched, fault, recs] using l
      entry := fun h => ⟨halted.trans h, entry, enteredAt⟩
      leaf := fun l h => leaf (l (halted ▸ h)) }
  | raise s f => exact raise_haltStays s f
  | report s => exact reportAll_haltStays s
  | trans _ _ ih ih' => exact ih.trans ih'

theorem raise_faultsRight {s : State} (h : s.FaultsRight) (f : FaultId) : (s.raise f).FaultsRight := by
  intro g
  by_cases mask : (s.fault f).mask = true
  · rw [raise_masked s f mask]; exact h g
  · by_cases same : f.index = g.index
    · obtain rfl := FaultId.index_injective same
      obtain ⟨hold, -, -⟩ := h f
      have kept : ((s.raise f).fault f).mask = (s.fault f).mask := fault_mask_of_kept (by rw [raise_kept]) f
      exact ⟨fun c => kept.trans (hold c), fun m => absurd (kept.symm.trans m) mask,
        fun _ => raise_latched s f (by simpa using mask)⟩
    · rw [raise_other s f g same]; exact h g

theorem reportAll_faultsRight {s : State} (h : s.FaultsRight) : s.reportAll.FaultsRight := by
  intro f
  obtain ⟨hold, masked, seen⟩ := h f
  rw [reportAll_fault]
  refine ⟨hold, fun m => ?_, fun c => ?_⟩
  · have mask : (s.fault f).mask = true := m
    simp [reported, mask, (masked mask).2]
  · simp only [reported, Bool.and_eq_true, Bool.not_eq_true', Bool.or_eq_true] at c ⊢
    cases before : (s.fault f).cond with
    | true => exact .inl (seen before)
    | false => exact .inr ⟨c, rfl⟩

theorem faultsRight {s t : State} (h : s.Path full t) (right : s.FaultsRight) : t.FaultsRight := by
  induction h with
  | @still s t faults leaf keeps =>
    have recs : t.faults.recs = s.faults.recs := congrArg Prod.fst faults
    intro f
    unfold fault
    rw [recs]
    exact right f
  | raise s f => exact raise_faultsRight right f
  | report s => exact reportAll_faultsRight right
  | trans _ _ ih ih' => exact ih' (ih right)

/-- Every change carries the promises. -/
theorem keeps {s t : State} (h : s.Path full t) : s.Keeps full t := by
  induction h with
  | still _ _ keeps => exact keeps
  | raise s f => exact .raise s f
  | report s => exact .reportAll s
  | trans _ _ ih ih' => exact ih.trans ih'

/-! ### The settling -/

theorem permitStage (s : State) : s.Path full s.permitStage := by
  refine .still ?_ (fun halted => by simp [State.permitStage, halted]) (.permitStage s)
  rw [permitStage_frame]; rfl

theorem angleStage (s : State) : s.Path full s.angleStage := by
  refine .still ?_ (fun halted => by simp [State.angleStage, halted]) (.angleStage s)
  rw [angleStage_frame]; rfl

theorem seatLockStage (s : State) : s.Path full s.seatLockStage := by
  refine .still ?_ (fun halted => by simp [State.seatLockStage, isSeated, halted]) (.seatLockStage s)
  rw [seatLockStage_frame]; rfl

theorem tryCommand (s : State) : s.Path full s.tryCommand := by
  unfold State.tryCommand
  split
  · exact .refl s
  · split
    · exact .refl s
    · split
      next t given =>
        have taken : s.Path full t := .still (by unfold faultCore; rw [giveCommand_faults given])
          (fun halted => giveCommand_of_halted halted given) (.giveCommand given)
        exact taken.trans (.still rfl id (.quiet rfl rfl))
      next => exact .refl s

theorem react (s : State) : s.Path full s.react :=
  (Path.report s).trans <| (permitStage _).trans <| (angleStage _).trans <|
    (of_haltCore (endSuspension_haltCore _) (.endSuspension _)).trans <| (tryCommand _).trans <| (seatLockStage _).trans <|
    (of_haltCore (toeStage_haltCore _) (.toeStage _)).trans <| (of_haltCore (roadStage_haltCore _) (.roadStage _)).trans <|
    (of_haltCore (startTest_haltCore _) (.startTest _)).trans <|
    (of_haltCore (advancePhase_haltCore _) (.advancePhase _)).trans <| of_haltCore (channelStage_haltCore _) (.channelStage _)

theorem outputs (s : State) : s.Path full s.outputs := by
  have core : s.aspectStage.lampStage.haltCore = s.haltCore := by simp
  obtain ⟨faults, motion⟩ := haltCore_eq_iff.mp core
  refine .still (by unfold faultCore State.outputs; rw [← faults]; rfl) (fun h => ?_) (.outputs s)
  exact (congrArg Motion.state motion).trans h

theorem rounds (n : Nat) (s : State) : s.Path full (rounds n s) := by
  induction n generalizing s with
  | zero => exact .refl s
  | succ n ih => exact ((react s).trans (outputs _)).trans (ih s.round)

theorem settle (s : State) : s.Path full s.settle := rounds 8 s

/-! ### The shared operations -/

/-- An optional further change. -/
theorem ite {s t u : State} {b : Prop} [Decidable b] (h : s.Path full t) (h' : t.Path full u) :
    s.Path full (if b then u else t) := by
  split
  · exact h.trans h'
  · exact h

theorem compareTracks (s : State) : s.Path full s.compareTracks := by
  unfold State.compareTracks
  split
  · refine .trans ?_ (.raise _ _)
    exact .still rfl id (.quiet rfl rfl)
  · exact .refl s

theorem presetWhere (s : State) (f : Track → Bool) : s.Path full (s.presetWhere f) := by
  unfold State.presetWhere
  split
  · exact .refl s
  · refine .ite ?_ (compareTracks _)
    rw [fixSource_frame]
    exact .still rfl id (.quiet rfl rfl)

theorem setTrack (s : State) (ch : Channel) (t : Track) : s.Path full (s.setTrack ch t) := by
  cases ch <;> exact .still rfl id (.quiet rfl rfl)

theorem losePosition (s : State) : s.Path full s.losePosition := by
  unfold State.losePosition
  split <;> exact .still rfl id (.quiet rfl rfl)

theorem trackError (s : State) (ch : Channel) : s.Path full (s.trackError ch) := by
  refine .ite (.trans (.ite ((setTrack s ch _).trans (losePosition _)) ?_) (.raise _ _)) (.raise _ _)
  exact .still rfl id (.quiet rfl rfl)

theorem startBlockWrite (s : State) (b : BlockId) : s.Path full (s.startBlockWrite b) := .still rfl id (.quiet rfl rfl)

theorem withSettings {s t : State} (h : s.Path full t) (x : Settings)
    (credits : x.working.road.roadCredits = t.items.road.roadCredits) : s.Path full { t with settings := x } :=
  h.trans (.still rfl id (.quiet (by simp [bearing, items, credits]) rfl))

theorem judgeTeach (s : State) : s.Path full s.judgeTeach := by
  unfold State.judgeTeach State.presetUnreferenced
  dsimp only
  split
  · exact .still rfl id (.quiet rfl rfl)
  · split
    · refine .trans ?_ (presetWhere _ _)
      exact .still rfl id (.quiet rfl rfl)
    · split
      · refine withSettings (.trans ?_ (presetWhere _ _)) _ rfl
        exact .still rfl id (.quiet rfl rfl)
      · refine .trans (.trans ?_ (presetWhere _ _)) (startBlockWrite _ _)
        exact .still rfl id (.quiet rfl rfl)

/-- A motion that is not halted ends on the seat (R65). -/
theorem endAtSeat {s : State} (moving : s.motion.state ≠ .halted) : s.Path full s.endAtSeat := by
  unfold State.endAtSeat
  dsimp only
  have ended : s.Path full (s.modMotion fun m => { m with state := s.seatedState, kind := .none, correction := false }) :=
    .still rfl (fun h => absurd h moving) (.quiet rfl rfl)
  split
  · exact ended.trans (judgeTeach _)
  · exact ended

theorem startDown {s : State} (moving : s.motion.state ≠ .halted) (k : MotionKind) : s.Path full (s.startDown k) := by
  unfold State.startDown
  dsimp only
  have down : s.Path full (s.modMotion fun m =>
      { m with kind := k, correction := false, state := if s.angle ≤ 300 then .seatApproach else .lowering }) :=
    .still rfl (fun h => absurd h moving) (.quiet rfl rfl)
  split
  · exact down.trans (endAtSeat (by dsimp only [modMotion]; split <;> decide))
  · exact down

theorem callEnd (s : State) (d : Dir) : s.Path full (s.callEnd d) := by
  rw [callEnd_frame]; exact .still rfl id (.quiet rfl rfl)

theorem returnToBooked (s : State) (n : Nat) : s.Path full (s.returnToBooked n) :=
  .of_haltCore (by rw [returnToBooked_frame]; rfl) (.returnToBooked s n)

theorem examineJoins (s : State) : s.Path full s.examineJoins := .of_sameButBook (examineJoins_frame s) (.examineJoins s)

theorem closeRec (s : State) (n : Nat) {st : RecState} (h : st.closes) : s.Path full (s.closeRec n st) :=
  .of_sameButBook (closeRec_frame s n st) (.closeRec s n h)

theorem testGrouped (s : State) (n : Nat) : s.Path full (s.testGrouped n) := by
  unfold State.testGrouped
  split
  · dsimp only
    split
    · split; exacts [returnToBooked s n, .refl s]
    · split; exacts [returnToBooked s n, .refl s]
    · split; exacts [.raise s _, .refl s]
    · exact .refl s
  · exact .refl s

theorem recomputeTarget (s : State) : s.Path full s.recomputeTarget :=
  .of_haltCore (by rw [recomputeTarget_frame]; rfl) (.recomputeTarget s)

theorem testGroup (s : State) (ns : List Nat) : s.Path full (s.testGroup ns) :=
  (foldl_frame State.testGrouped (Path full) .refl (fun _ _ _ => .trans) testGrouped ns s).trans (recomputeTarget _)

theorem reevaluate (s : State) : s.Path full s.reevaluate :=
  (show s.Path full s.rewriteAngles from of_haltCore rfl (.rewriteAngles s)).trans ((testGroup _ _).trans (examineJoins _))

theorem onUsedAps (s : State) {f : RoadCtx → Approach → Approach}
    (each : ∀ (x : RoadCtx) (a : Approach), a.RetryRight → (f x a).RetryRight) : s.Path full (s.onUsedAps f) :=
  .of_haltCore (onUsedAps_haltCore s f) (.onUsedAps s each)

theorem onAp (s : State) (x : Ap) {f : RoadCtx → Approach → Approach}
    (each : ∀ (x : RoadCtx) (a : Approach), a.RetryRight → (f x a).RetryRight) : s.Path full (s.onAp x f) := by
  refine .of_haltCore ?_ (.of_gates ?_ (onAp_retries s x each)) <;> rw [onAp_frame] <;> rfl

theorem onGate (s : State) (g : GateId) {f : RoadCtx → Closure → GateKind → Gate → Gate}
    (each : ∀ x c k (h : Gate), h.RetryRight → (f x c k h).RetryRight) : s.Path full (s.onGate g f) :=
  onAp s g.ap fun _ _ q => q.put g.ix (each _ _ _ _ (q g.ix))

/-- An approach record written, its gates left alone. -/
theorem setAp (s : State) (x : Ap) {a : Approach} (gates : a.gates = (s.ap x).gates) : s.Path full (s.setAp x a) := by
  refine .of_haltCore ?_ (.of_gates ?_ fun p => setAp_retries s x p fun i => ?_)
  · cases x <;> rfl
  · cases x <;> rfl
  · rw [gates]; exact p ⟨x, i⟩

theorem modLock (s : State) (l : LockId) (f : Lock → Lock) : s.Path full (s.modLock l f) := by
  cases l <;> exact .still rfl id (.quiet rfl rfl)

theorem setDirRec (s : State) (d : Dir) (r : DirRec) : s.Path full (s.setDirRec d r) := by
  cases d <;> exact .still rfl id (.quiet rfl rfl)

theorem setBeam (s : State) (b : Beam) (v : Bool) : s.Path full (s.setBeam b v) := by
  cases b <;> exact .still rfl id (.quiet rfl rfl)

theorem transmit {s : State} (twin : s.role ≠ .sole) : s.Path full s.transmit := by
  unfold State.transmit
  split
  · exact .still rfl id (.relink rfl fun sole => absurd sole twin)
  · exact .refl s

theorem mirror_haltCore (s : State) (v : PartnerView) : (s.mirror v).haltCore = s.haltCore := by
  unfold State.mirror
  dsimp only
  repeat' split
  · rfl
  · rw [setPhase_haltCore]; rfl
  · rw [giveStep_haltCore, setPhase_haltCore]; rfl

theorem acceptFrame {s : State} (twin : s.role ≠ .sole) (v : PartnerView) : s.Path full (s.acceptFrame v) := by
  refine .of_haltCore ?_ (.acceptFrame twin v)
  unfold State.acceptFrame
  dsimp only
  split
  · rw [mirror_haltCore]; rfl
  · rfl

end Path

end State

end Sys2Proof.Machine
end

section
/-!
SUPPORT. The own change of every command on the fault unit, and what follows for the fault records, the latches and the span
halt at every step (R168, R171 to R177).
-/

namespace Sys2Proof.Machine

open Sys2Proof

namespace State.Path

variable {full : Prop}

theorem seatFromReading (s : State) : s.Path full s.seatFromReading := by
  unfold State.seatFromReading
  split
  · exact .refl s
  next moving => exact .still rfl (fun halted => absurd halted (by simpa using moving)) (.quiet rfl rfl)

theorem seating (s : State) : s.Path full s.seating := by
  have preset : s.Path full ({ s with pos := { s.pos with seat := some true } }).presetUnreferenced := by
    refine .trans ?_ (presetWhere _ _)
    exact .still rfl id (.quiet rfl rfl)
  unfold State.seating
  dsimp only
  split
  case h_1 moving | h_2 moving | h_3 moving => exact preset.trans (endAtSeat (by rw [moving]; decide))
  case h_4 => exact preset

theorem unseating (s : State) : s.Path full s.unseating := by
  unfold State.unseating
  dsimp only
  split
  next seated =>
    refine .still rfl (fun halted => absurd seated ?_) (.quiet rfl rfl)
    have halted' : s.motion.state = .halted := halted
    simp [isSeated, halted']
  next => exact .still rfl id (.quiet rfl rfl)

theorem startTeach {s : State} (may : s.teachRefusal = none) : s.Path full s.startTeach := by
  refine .still rfl (fun halted => ?_) (.quiet rfl rfl)
  simp [teachRefusal, halted] at may

theorem returnAll_haltCore (s : State) : s.returnAll.haltCore = s.haltCore := by
  rw [returnAll_frame]
  rfl

theorem clearSuspension_haltCore (s : State) : s.clearSuspension.haltCore = s.haltCore := rfl

/-- What RECOVER_LOWER does to the opening touches neither the fault unit nor the leaf (R147). -/
theorem recoverOpening_haltCore (s : State) : s.recoverOpening.haltCore = s.haltCore := by
  unfold State.recoverOpening
  split
  · split <;> simp [clearSuspension_haltCore]
  · split <;> simp [clearSuspension_haltCore, returnAll_haltCore]

theorem recoverLower {s : State} (stopped : s.motion.state = .stopped)
    (none : s.role ≠ .follow → ∀ r ∈ s.book.records, r.state ≠ .passing) :
    s.Path full (s.recoverOpening.startDown .recovery) := by
  refine (of_haltCore (recoverOpening_haltCore s) (.recoverOpening none)).trans (startDown ?_ _)
  rw [(haltCore_eq_iff.mp (recoverOpening_haltCore s)).2, stopped]
  decide

theorem afterAmend (s : State) (n : Nat) (c : AmendChange) (old : RecState) : s.Path full (s.afterAmend n c old) := by
  unfold State.afterAmend
  split
  · exact .refl _
  · split
    · exact examineJoins _
    · split
      exacts [(testGroup _ _).trans (examineJoins _), .refl _]

/-- A change of the water record that a part in FOLLOW role does not make, and the re-evaluation where it asks for one. -/
theorem rewater {s : State} (lead : s.role = .follow → s.water.source ≠ .none) (x : Water) (b : Prop) [Decidable b] :
    s.Path full (if b then { s with water := x } else ({ s with water := x }).reevaluate) := by
  have written : s.Path full { s with water := x } := .still rfl id {
    book := .of_same rfl rfl
    follow := fun p is => absurd (p is).2 (lead is)
    placed := fun _ => .of_same rfl rfl rfl
    credits := fun p => p
    link := fun p => p
    retries := fun p => p }
  split
  exacts [written, written.trans (reevaluate _)]

theorem afterWrite (s : State) (i : Item) {t : State} (other : i ≠ .roadCredits) : t.Path full (s.afterWrite i t) := by
  unfold State.afterWrite
  split
  · split
    exacts [presetWhere _ _, .refl t]
  · exact reevaluate t
  · exact reevaluate t
  · split
    exacts [.refl t, reevaluate t]
  · exact absurd rfl other
  · exact .still rfl id (.quiet rfl rfl)
  · exact onGate t _ fun _ _ _ _ q => q.rekind _ _
  · split
    exacts [.refl t, setAp t _ rfl]
  · exact .refl t

theorem writeItem {s : State} {i : Item} {v : SettingValue} (may : s.valueRefusal i v = none) :
    s.Path full (s.writeItem i v) := by
  by_cases credits : i = .roadCredits
  · subst credits
    have range : ∃ n, v = .num n ∧ 0 ≤ n := by
      cases v with
      | num n =>
        refine ⟨n, rfl, ?_⟩
        simp only [valueRefusal] at may
        split at may
        · cases may
        next within =>
          simp only [Item.inRange, Item.range, Bool.not_eq_true', Bool.not_eq_false, Bool.and_eq_true]
            at within
          exact of_decide_eq_true within.1
      | table _ | bands _ => cases may
    obtain ⟨n, rfl, low⟩ := range
    exact .still rfl id (.writeCredits s low)
  · unfold State.writeItem
    have written : s.Path full (s.putItem i v) := .still rfl id (.putItem s credits v)
    refine .trans (written.trans ?_) (afterWrite _ _ credits)
    split
    exacts [.still rfl id (.quiet rfl rfl), .refl _]

theorem commit_credits (x : Settings) (job : WriteJob) : (x.commit job).working = x.working := by
  cases job <;> rfl

theorem endWrite (s : State) (job : WriteJob) (passed : Bool) : s.Path full (s.endWrite job passed) := by
  unfold State.endWrite
  split
  · refine .still rfl id (.quiet ?_ rfl)
    simp [bearing, items, commit_credits]
  · refine .trans ?_ (.raise _ _)
    exact .still rfl id (.quiet rfl rfl)

theorem startWaitingStore (s : State) : s.Path full s.startWaitingStore := by
  unfold State.startWaitingStore
  split
  exacts [.still rfl id (.quiet rfl rfl), .refl s]

theorem enterVessel {s : State} {r : Rec} (called : s.calledRec = some r) : s.Path full (s.enterVessel r) := by
  refine .still rfl id (.of_book rfl (fun e => ?_) (enterVessel_bookKeeps called) (fun _ => enterVessel_placed called) id)
  exact (setRecState_records s r.number .passing).trans (by rw [e]; rfl)

theorem attributeBreak (s : State) (b : Beam) : s.Path full (s.attributeBreak b) := by
  unfold State.attributeBreak
  split
  next called => exact enterVessel (Option.filter_eq_some_iff.mp called).1
  · exact .still rfl id (.quiet rfl rfl)
  · exact .raise s _

theorem callEnd_closeRec (s : State) (d : Dir) (n : Nat) {st : RecState} (h : st.closes) :
    s.Path full ((s.callEnd d).closeRec n st) :=
  (callEnd s d).trans (closeRec _ n h)

theorem completePassage (s : State) : s.Path full s.completePassage := by
  unfold State.completePassage
  split
  · split
    · exact callEnd_closeRec s _ _ (.inl rfl)
    · exact .refl s
  · exact .refl s

theorem startOpening_haltCore (s : State) (ns : List Nat) : (s.startOpening ns).haltCore = s.haltCore := by
  unfold State.startOpening
  dsimp only
  rw [recomputeTarget_frame, groupThem_frame]
  exact setPhase_haltCore _ _

theorem startOpening {s : State} {ns : List Nat} (taken : ns = s.taken none) (not_ : ¬full) : s.Path full (s.startOpening ns) :=
  of_haltCore (startOpening_haltCore s ns) (.startOpening taken not_)

theorem abortOpening {s : State} (early : s.opening.phase = .pending ∨ s.opening.phase = .closingRoad) :
    s.Path full s.abortOpening := by
  refine of_haltCore ?_ (.abortOpening early)
  unfold State.abortOpening
  split
  · exact returnAll_haltCore s
  · rw [enterPhase_haltCore]
    exact returnAll_haltCore s

theorem continueOpening {s : State} (held : s.opening.suspended = true) : s.Path full s.continueOpening := by
  refine of_haltCore ?_ (.continueOpening held)
  have begun : (if s.role == .follow then s.clearSuspension
      else s.clearSuspension.setPhase (s.opening.resumePoint.getD s.opening.phase)).haltCore = s.haltCore := by
    split
    · rfl
    · rw [setPhase_haltCore]; rfl
  unfold State.continueOpening
  dsimp only
  split
  · exact begun
  · rw [giveStep_haltCore]; exact begun

theorem takeFrame {s : State} (twin : s.role ≠ .sole) (bs : List Byte) : s.Path full (s.takeFrame bs) := by
  unfold State.takeFrame
  split
  exacts [acceptFrame twin _, .still rfl id (.quiet rfl rfl), .refl s]

theorem startTone (s : State) : s.Path full s.startTone := by
  refine .still ?_ ?_ (.startTone s) <;> unfold State.startTone <;> split
  exacts [rfl, rfl, id, id]

theorem markTaken (s : State) (ch : Channel) (r : Track × Bool) (c : Bool) : s.Path full
    (if r.2 then (s.setTrack ch r.1).fixSource.raise .referenceMismatch
      else if c then (s.setTrack ch r.1).fixSource else (s.setTrack ch r.1).fixSource.compareTracks) := by
  have set : s.Path full (s.setTrack ch r.1).fixSource := by
    refine (setTrack s ch r.1).trans ?_
    rw [fixSource_frame]
    exact .still rfl id (.quiet rfl rfl)
  split
  · exact set.trans (.raise _ _)
  · split
    exacts [set, set.trans (compareTracks _)]

/-! ### The book under its requests -/

theorem placeBooking {s : State} {vessel dir : Nat} {draft : Int} {priority : Nat} {nb : NotBeforeParam} {follows : Nat}
    {b : Booking} (may : s.judgeBooking vessel dir draft priority nb follows = .ok b) :
    s.Path full (s.placeBooking b) := by
  refine .still rfl id (.placeBooking (bookable_of_ok may) fun follow => ?_)
  simp [judgeBooking, follow] at may

theorem amendRec {s : State} {n : Nat} {c : AmendChange} {r : Rec} {req : Required}
    (may : s.judgeAmend n c = .ok (r, req)) : s.Path full (s.amendRec n c req) :=
  .still rfl id (.amendRec (amendable_of_ok may))

theorem forget {s : State} {n : Nat} {r : Rec} (found : s.findRec n = some r) (closed : r.live = false) :
    s.Path full { s with book := { s.book with records := s.book.records.filter fun q => q.number != n } } :=
  .still rfl id (.forget found closed)

theorem clearChanged (s : State) : s.Path full s.clearChanged := .still rfl id (.clearChanged s)

theorem closeNow {s : State} (lead : s.role ≠ .follow) (held : s.opening.phase = .heldOpen) :
    s.Path full (s.returnAll.modOpening fun o => { o with closeRequested := true, linger := .stopped }) :=
  of_haltCore (returnAll_haltCore s) (.closeNow lead held)

/-! ### The link -/

/-- What writes the link of a twin part alone. -/
theorem relink {s : State} (twin : s.role ≠ .sole) (f : Link → Link) : s.Path full (s.modLink f) :=
  .still rfl id (.relink rfl fun sole => absurd sole twin)

/-- What writes the link of a part whose buffer is at work. -/
theorem buffered {s : State} (busy : s.link.buffer ≠ .quiet) (f : Link → Link) : s.Path full (s.modLink f) :=
  .still rfl id (.relink rfl fun sole off => busy (off sole).2.2)

end State.Path

namespace State

theorem twin_iff (s : State) : s.twin = true ↔ s.role ≠ .sole := by
  unfold twin
  exact bne_iff_ne

/-- OPEN takes what the sequencer finds eligible (R132). -/
theorem taken_of_judged {s : State} {ns : List Nat} (h : s.judgeOpen = .ok ns) : ns = s.taken none := by
  unfold judgeOpen at h
  repeat' split at h
  all_goals cases h
  rfl

theorem suspended_of_continues {s : State} (h : s.continueRefusal = none) : s.opening.suspended = true := by
  unfold continueRefusal at h
  by_contra going
  rw [Bool.not_eq_true] at going
  simp only [going, Bool.not_false, Bool.true_or, if_pos] at h
  split at h <;> cases h

theorem valueRefusal_of_judged {s : State} {k : Nat} {v : SettingValue} {i : Item} (h : s.judgeWrite k v = .ok i) :
    s.valueRefusal i v = none := by
  unfold judgeWrite at h
  repeat' split at h
  all_goals cases h
  assumption

end State

/-- The commands that write the fault unit otherwise than by a condition raised: SET_MASK, ACK_FAULTS and RESUME. -/
def Instr.writesFaults : Instr → Prop
  | .setMask .. | .ackFaults _ | .resume _ => True
  | _ => False

/-- OPEN, whose own change leaves the places of the records to the settling (entry 9). -/
def Instr.opens : Instr → Prop
  | .openSpan _ => True
  | _ => False

open State.Path in
/-- Every other command's own change raises conditions at most, and carries the promises about the book, the opening and the
road. -/
theorem exec_path (c : Instr) (s : State) (plain : Instr.plain c) (other : ¬Instr.writesFaults c) :
    Ran (State.Path ¬Instr.opens c) s (exec c s) := by
  cases c <;> unfold exec
  case reset | selectionEnd => exact plain.elim
  case setMask | ackFaults | resume => exact (other trivial).elim
  case lookup | listBook | readStatus | readLeaf | readApproach | readSignals | readFaults | readLink | readSetting =>
    exact .read
  case resumePrepare => exact .resumePrepare (.of_sameButPort (.prepared _))
  case book =>
    refine .asks ?_
    split
    · trivial
    next may => exact (placeBooking may).trans (examineJoins _)
  case amend =>
    refine .asks ?_
    split
    · trivial
    next may => exact (amendRec may).trans (afterAmend _ _ _ _)
  case cancel =>
    refine .asks (State.onRecord_does fun r _ _ => ?_)
    split
    case h_1 | h_2 => exact closeRec _ _ (.inr (.inl rfl))
    case h_3 => exact callEnd_closeRec _ _ _ (.inr (.inl rfl))
    all_goals trivial
  case forget =>
    refine .asks (State.onRecord_does fun r found _ => ?_)
    split
    · trivial
    next closed => exact State.Path.forget found (by simpa using closed)
  case markPassed =>
    refine .asks (State.onRecord_does fun r _ _ => ?_)
    split
    exacts [callEnd_closeRec _ _ _ (.inl rfl), trivial]
  case listChanged =>
    refine .asks ?_
    split
    exacts [trivial, clearChanged _]
  case setWater =>
    refine .asks ?_
    split
    · trivial
    next lead =>
      split
      · trivial
      · exact rewater (fun follow => absurd follow (by simpa using lead)) _ _
  case enterCreep | leaveCreep =>
    refine .asks ?_
    split
    exacts [.still rfl id (.quiet rfl rfl), trivial]
  case teachSeat =>
    refine .asks ?_
    split
    · trivial
    · split
      next => trivial
      next may => exact startTeach may
  case recoverLower =>
    refine .asks ?_
    split
    · trivial
    · split
      · trivial
      next stopped =>
        have stopped' : s.asked.motion.state = .stopped := by
          simp only [Bool.or_eq_true, not_or, bne_iff_ne, ne_eq, not_not] at stopped
          exact stopped.1.1.1.1
        split
        · trivial
        · split
          · trivial
          next passing =>
            refine recoverLower stopped' fun lead r hr is => passing ?_
            simp only [Bool.and_eq_true, bne_iff_ne, ne_eq, State.anyRec, List.any_eq_true]
            exact ⟨lead, r, hr, by simpa using is⟩
  case stopSpan => exact .asks (.raise _ _)
  case retryGate =>
    refine .asks ?_
    split
    · trivial
    · split
      exacts [onGate _ _ fun _ _ _ _ q => q.retry, trivial]
  case reopenRoad =>
    refine .asks ?_
    split
    · trivial
    · split
      exacts [trivial, onUsedAps _ fun x a q => q.of_gates (Approach.reopeningStart_gates x a)]
  case closeRoad =>
    refine .asks ?_
    split
    · trivial
    · split
      exacts [trivial, onUsedAps _ fun x a q => q.of_gates (Approach.closureStart_gates x a)]
  case releaseLane | holdLane =>
    refine .asks ?_
    unfold State.holdRequest
    split
    exacts [trivial, onGate _ _ fun _ _ _ _ q => q.setHold _ _ _ _]
  case releaseAll | holdAll => exact .asks (onUsedAps _ fun x a q => q.setHolds x _)
  case openSpan =>
    refine .asks ?_
    split
    · trivial
    next may => exact startOpening (State.taken_of_judged may) fun full => full trivial
  case closeNow =>
    refine .asks ?_
    split
    · trivial
    next lead =>
      split
      · trivial
      next held =>
        exact State.Path.closeNow (by simpa using lead) (by simpa using held)
  case abortOpening =>
    refine .asks ?_
    split
    · trivial
    · split
      · trivial
      · split
        · trivial
        next early =>
          simp only [Bool.and_eq_true, bne_iff_ne, ne_eq, not_and, not_not] at early
          exact State.Path.abortOpening (or_iff_not_imp_left.mpr early)
  case continueOpening =>
    refine .asks ?_
    split
    · trivial
    next may => exact State.Path.continueOpening (State.suspended_of_continues may)
  case writeSetting =>
    refine .asks ?_
    split
    · trivial
    next may => exact writeItem (State.valueRefusal_of_judged may)
  case storeSettings =>
    refine .asks ?_
    split
    · trivial
    · split
      · trivial
      · split
        · trivial
        · split
          exacts [startBlockWrite _ _, trivial]
  case setProtect =>
    refine .asks ?_
    split
    · trivial
    · split
      · trivial
      · split
        · trivial
        · split
          exacts [.refl _, .still rfl id (.quiet rfl rfl)]
  case selectionStart | resumePrepareLapse =>
    refine .event ?_
    split
    exacts [.still rfl id (.quiet rfl rfl), .refl _]
  case preambleEnd | preambleAbandon | sendEnd | toneEnd =>
    refine .event ?_
    split
    next busy => exact buffered (by rw [beq_iff_eq.mp busy]; decide) _
    next => exact .refl _
  case lingerExpiry =>
    refine .event ?_
    split
    next runs => exact .still rfl id (.lingerExpires runs)
    next => exact .refl _
  case startupWaitEnd =>
    refine .event ?_
    split
    next may => exact relink ((State.twin_iff _).mp (Bool.and_eq_true_iff.mp may).1) _
    next => exact .refl _
  case receiveStart =>
    refine .event ?_
    split
    next may => exact relink ((State.twin_iff _).mp (Bool.and_eq_true_iff.mp may).1) _
    next => exact .refl _
  case beamEstablished =>
    refine .event ?_
    split
    exacts [setBeam _ _ _, .refl _]
  case sensorFaultInactive =>
    refine .event ?_
    split
    exacts [setTrack _ _ _, .refl _]
  case lockTimeExpiry => exact .event (modLock _ _ _)
  case teachLockoutExpiry | driveReadyChange | driveFaultChange | openLimitChange | emergencyStopChange | keyChange |
      flashClockTick | settleIntervalExpiry =>
    exact .event (.still rfl id (.quiet rfl rfl))
  case trackCount =>
    refine .event ?_
    split
    exacts [.refl _, (setTrack _ _ _).trans (compareTracks _)]
  case illegalTransition | sensorFaultActive =>
    refine .event ?_
    split
    exacts [.refl _, (setTrack _ _ _).trans (trackError _ _)]
  case markEvent =>
    refine .event ?_
    split
    · exact .refl _
    · split
      exacts [.refl _, markTaken _ _ _ _]
  case speedWindowEnd => exact .event (setTrack _ _ _)
  case seatSwitchEstablished =>
    refine .event ?_
    split
    · exact .refl _
    · dsimp only
      split
      · refine .trans (.trans ?_ (presetWhere _ _)) (seatFromReading _)
        exact .still rfl id (.quiet rfl rfl)
      · exact .still rfl id (.quiet rfl rfl)
  case seatSwitchChange =>
    refine .event ?_
    split
    exacts [seating _, unseating _, .refl _]
  case teachPress =>
    refine .event ?_
    split
    · exact .refl _
    · refine State.Path.trans (t := State.modMotion _ fun m => { m with teachLockout := .running 3000 }) (.still rfl id (.quiet rfl rfl)) ?_
      dsimp only
      split
      next may =>
        refine startTeach ?_
        simp only [Bool.and_eq_true, Option.isNone_iff_eq_none] at may
        exact may.2
      next => exact .refl _
  case spanClockTick =>
    refine .event ?_
    dsimp only
    split
    · refine .trans ?_ (State.Path.examineJoins _)
      exact .still rfl id (.quiet rfl rfl)
    · exact .still rfl id (.quiet rfl rfl)
  case waterStaleExpiry =>
    refine .event ?_
    split
    next expires =>
      refine rewater (fun _ is => ?_) _ _
      rw [State.waterExpires, is] at expires
      cases expires
    next => exact .refl _
  case lockLimitsEstablished | lockLimitChange =>
    refine .event ?_
    split
    exacts [modLock _ _ _, .refl _]
  case gateLimitsEstablished =>
    refine .event ?_
    dsimp only
    split
    exacts [(onAp _ _ fun _ _ q => q.establish _ _).trans (onAp _ _ fun _ _ q => q.establish _ _),
      onAp _ _ fun _ _ q => q.establish _ _]
  case gateLimitChange =>
    refine .event ?_
    split
    · refine onGate _ _ fun _ _ _ _ q => ?_
      split
      exacts [q, q.limitChange _ _]
    · exact .refl _
  case gateTravelExpiry =>
    refine .event ?_
    split
    exacts [onGate _ _ fun _ _ _ _ q => q.travelExpiry, .refl _]
  case retryWaitExpiry =>
    refine .event ?_
    split
    exacts [onGate _ _ fun _ _ _ _ q => q.retryExpiry, .refl _]
  case gateObstruction | holdFlashExpiry =>
    refine .event ?_
    split
    exacts [onGate _ _ fun _ _ _ _ q => q, .refl _]
  case prewarnExpiry | stopTimeExpiry | clearMinExpiry =>
    refine .event ?_
    unfold State.stateExpiry
    split
    exacts [onAp _ _ fun _ _ q => q.timerExpiry _, .refl _]
  case clearAlertExpiry | zoneDetectorChange =>
    refine .event ?_
    split
    exacts [setAp _ _ rfl, .refl _]
  case lampProvingSpan =>
    refine .event ?_
    unfold State.judgeRoadLamp
    split
    · split
      exacts [onGate _ _ fun _ _ _ _ q => q, .refl _]
    · split
      exacts [setAp _ _ rfl, .refl _]
  case signalLampProvingSpan =>
    refine .event ?_
    split
    exacts [.refl _, setDirRec _ _ _]
  case beamBreak =>
    refine .event ?_
    split
    exacts [(setBeam _ _ _).trans (attributeBreak _ _), .refl _]
  case beamClear =>
    refine .event ?_
    split
    exacts [(setBeam _ _ _).trans (completePassage _), .refl _]
  case gapTimerExpiry => exact .event (setDirRec _ _ _)
  case callTimeExpiry =>
    refine .event ?_
    split
    · split
      exacts [callEnd_closeRec _ _ _ (.inr (.inr rfl)), .refl _]
    · exact .refl _
  case roadIntervalExpiry =>
    refine .event ?_
    split
    exacts [.still rfl id (.intervalElapses _), .refl _]
  case leadPeriod =>
    refine .event ?_
    split
    next lead =>
      have twin : s.wake.role ≠ .sole := by rw [beq_iff_eq.mp lead]; decide
      exact (relink twin _).trans (State.Path.transmit twin)
    next => exact .refl _
  case replyTimerExpiry =>
    refine .event ?_
    split
    next due =>
      have twin : s.wake.role ≠ .sole := by rw [beq_iff_eq.mp (Bool.and_eq_true_iff.mp due).1]; decide
      exact (relink twin _).trans (State.Path.transmit twin)
    next => exact .refl _
  case receiveEnd =>
    refine .event ?_
    split
    next may =>
      have twin := (State.twin_iff _).mp (Bool.and_eq_true_iff.mp may).1
      refine (relink twin _).trans (State.Path.takeFrame ?_ _)
      exact twin
    next => exact .refl _
  case toneRepeat =>
    refine .event ?_
    split
    exacts [startTone _, .refl _]
  case haltToneRecognised =>
    refine .event ?_
    split
    · dsimp only
      split
      · exact .still rfl id (.quiet rfl rfl)
      · refine .trans ?_ (.raise _ _)
        exact .still rfl id (.quiet rfl rfl)
    · exact .refl _
  case freshnessExpiry =>
    refine .event ?_
    split
    next may =>
      have twin := (State.twin_iff _).mp (Bool.and_eq_true_iff.mp may).1
      dsimp only
      split
      exacts [(relink twin _).trans (.raise _ _), relink twin _]
    next => exact .refl _
  case storeWriteComplete =>
    refine .event ?_
    split
    exacts [.refl _, (endWrite _ _ _).trans (startWaitingStore _)]

end Sys2Proof.Machine
end

section
/-!
SUPPORT. The fault records at every step, the end of a span halt, and the clearing of a latch (R168, R171 to R177).
-/

namespace Sys2Proof.Machine

open Sys2Proof

namespace State

/-! ### Fault records -/

theorem FaultsRight.congr {s t : State} (h : s.FaultsRight) (recs : t.faults.recs = s.faults.recs) : t.FaultsRight := by
  intro f
  unfold fault
  rw [recs]
  exact h f

theorem setMask_faultsRight {s : State} (h : s.FaultsRight) {f : FaultId} (warning : f.cls = .warning) (on : Bool) :
    (s.setMask f on).FaultsRight := by
  intro g
  unfold setMask
  by_cases same : f.index = g.index
  · obtain rfl := FaultId.index_injective same
    obtain ⟨-, -, seen⟩ := h f
    cases on
    · rw [if_neg (by decide), setFault_fault, if_pos rfl]
      exact ⟨fun c => absurd warning c, nofun, seen⟩
    · rw [if_pos rfl, setFault_fault, if_pos rfl]
      exact ⟨fun c => absurd warning c, fun _ => ⟨rfl, rfl⟩, nofun⟩
  · cases on
    · rw [if_neg (by decide), setFault_fault, if_neg same]; exact h g
    · rw [if_pos rfl, setFault_fault, if_neg same]; exact h g

theorem ackFaults_fault (s : State) (f : FaultId) :
    s.ackFaults.fault f = { s.fault f with latch := (s.fault f).latch && (s.fault f).cond } := by
  simp [ackFaults, fault]

theorem ackFaults_faultsRight {s : State} (h : s.FaultsRight) : s.ackFaults.FaultsRight := by
  intro f
  obtain ⟨hold, masked, seen⟩ := h f
  rw [ackFaults_fault]
  exact ⟨hold, fun m => ⟨(masked m).1, by simp [(masked m).1]⟩, fun c => Bool.and_eq_true_iff.mpr ⟨seen c, c⟩⟩

theorem endHalt_recs (s : State) : s.endHalt.faults.recs = s.faults.recs := by
  unfold endHalt
  dsimp only
  rw [onUsedAps_frame]
  rfl

theorem reset_rec (estop failed unconfigured : Bool) (m : Masks) (f : FaultId) :
    (Faults.reset estop failed unconfigured m).recs[f.index] = resetRec estop failed unconfigured m f := by
  cases f <;> rfl

/-- The masks of the MASKS block are those of the WARNING-class faults. -/
theorem Masks.at_of_cls {m : Masks} {f : FaultId} (h : f.cls ≠ .warning) : m.at f = false := by
  cases f
  case lampOut | signalLampOut | waterStale | storeFail | clearanceDelay | unannouncedVessel | clearanceShort |
      pairMismatch | partnerStale => exact absurd rfl h
  all_goals rfl

theorem resetRec_masked {estop failed unconfigured : Bool} {m : Masks} {f : FaultId} (h : m.at f = true) :
    (resetRec estop failed unconfigured m f).cond = false ∧ (resetRec estop failed unconfigured m f).latch = false := by
  have warning : f.cls = .warning := by
    by_contra other
    simp [Masks.at_of_cls other] at h
  have notStop : f ≠ .emergencyStop := by rintro rfl; cases warning
  have notUnconfigured : f ≠ .unconfigured := by rintro rfl; cases warning
  by_cases store : f = .storeFail
  · subst store
    have masked : m.storeFail = true := h
    simp [resetRec, masked]
  · simp [resetRec, notStop, notUnconfigured, store]

theorem restart_faultsRight (s : State) (a b e : Bool) : (s.restart a b e).FaultsRight := by
  intro f
  unfold fault restart
  dsimp only
  rw [reset_rec]
  refine ⟨fun other => Masks.at_of_cls other, fun masked => resetRec_masked masked, fun cond => ?_⟩
  simp only [resetRec, Bool.or_eq_true]
  exact .inr cond

theorem faultsRight_promise : Promise FaultsRight FaultsRight where
  port same h := h.congr (by unfold SameButPort at same; rw [same])
  start := id
  settle h := (Path.settle (full := True) _).faultsRight h
  elapse h := h.congr rfl
  reset := restart_faultsRight

end State

open State in
theorem exec_faultsRight (c : Instr) (s : State) (plain : Instr.plain c) :
    Ran (fun w u => w.FaultsRight → u.FaultsRight) s (exec c s) := by
  by_cases own : Instr.writesFaults c
  · cases c <;> unfold exec
    case setMask =>
      refine .asks ?_
      split
      · trivial
      · split
        · trivial
        next valid =>
          simp only [Bool.or_eq_true, not_or, bne_iff_ne, ne_eq, not_not] at valid
          exact fun h => setMask_faultsRight h valid.1 _
    case ackFaults => exact .asks fun h => ackFaults_faultsRight h
    case resume => exact .resume fun _ h => h.congr (endHalt_recs _)
    all_goals exact own.elim
  · exact (exec_path c s plain own).mono fun _ _ path => path.faultsRight

/-- Settles O10, by the promise: a condition raised or reported latches its fault unless it is masked, and a mask is set
for a WARNING fault alone. -/
theorem faultsStayRight : Obligations.FaultsStayRight := fun _ _ =>
  State.faultsRight_promise.step (fun _ _ keeps => keeps) exec_faultsRight

/-! ### The span halt (R174, R177) -/

open State in
/-- Every command but RESUME leaves a span halt standing by its own change. -/
theorem exec_halted (c : Instr) (s : State) (plain : Instr.plain c) (other : ∀ st, c ≠ .resume st) :
    Ran (fun w u => w.faults.halted = true → u.faults.halted = true) s (exec c s) := by
  by_cases own : Instr.writesFaults c
  · cases c <;> unfold exec
    case setMask =>
      refine .asks ?_
      split
      · trivial
      · split
        · trivial
        · unfold setMask
          split <;> exact id
    case ackFaults => exact .asks id
    case resume => exact absurd rfl (other _)
    all_goals exact own.elim
  · exact (exec_path c s plain own).mono fun _ _ path halted => (path.haltStays.entry halted).1

/-- A span halt is left standing by every change but that of RESUME. -/
theorem carried_halted : Carried (fun s => s.faults.halted = true) (fun s => s.faults.halted = true) where
  port same h := by unfold State.SameButPort at same; rw [same]; exact h
  start := id
  settle {u} h := (u.settle_haltStays.entry h).1

theorem mem_haltFaults {f : FaultId} (h : f.cls = .halt) : f ∈ haltFaults := by
  cases f
  case trackErrorC | gateJammed | lockJammed | driveNotReady | unconfigured | lampOut | signalLampOut | waterStale |
      storeFail | clearanceDelay | unannouncedVessel | clearanceShort | pairMismatch | partnerStale => cases h
  all_goals decide

/-- The checks of RESUME that pass (R177). -/
theorem State.resumeRefusal_none {s : State} (h : s.resumeRefusal = none) :
    s.faults.prepare = true ∧ ∀ f, f.cls = .halt → s.latched f = false ∧ (s.fault f).cond = false := by
  unfold resumeRefusal at h
  split at h
  · cases h
  · split at h
    · cases h
    next prepared =>
      split at h
      · cases h
      next clear =>
        refine ⟨by simpa using prepared, fun f cls => ?_⟩
        simp only [List.any_eq_true, not_exists, not_and, Bool.or_eq_true, not_or, Bool.not_eq_true] at clear
        exact clear f (mem_haltFaults cls)

theorem State.wake_deselect_wake (s : State) : s.wake.deselect.wake = s.wake.deselect :=
  wake_of_not_justReset _ s.wake_justReset

/-- A span halt that a command other than the end of a selection ends. -/
theorem exec_ends_halt {c : Instr} {s t : State} (plain : Instr.plain c) (h : s.faults.halted = true)
    (e : exec c s = .next t) (ended : t.faults.halted = false) :
    c = .resume .operator ∧ s.faults.prepare = true ∧
      ∀ f, f.cls = .halt → s.wake.latched f = false ∧ (s.wake.fault f).cond = false := by
  have awake := carried_halted.wake h
  by_cases resumes : ∃ st, c = .resume st
  · obtain ⟨st, rfl⟩ := resumes
    unfold exec at e
    dsimp only at e
    by_cases sent : st = .operator
    · subst sent
      rw [execResume_operator] at e
      obtain rfl := next_inj e
      split at ended
      next r refused => exact absurd awake (Bool.eq_false_iff.mp ended)
      next refusal =>
        obtain ⟨prepared, clear⟩ := State.resumeRefusal_none refusal
        exact ⟨rfl, by simpa using prepared, clear⟩
    · rw [execResume_other s sent] at e
      obtain rfl := next_inj e
      exact absurd awake (Bool.eq_false_iff.mp ended)
  · have stays := carried_halted.of_ran (fun _ _ keeps => keeps) (exec_halted c s plain fun st is => resumes ⟨st, is⟩) h e
    exact absurd stays (Bool.eq_false_iff.mp ended)

/-- Settles O11: no change but that of an accepted RESUME ends a span halt, whoever worked the request. -/
theorem haltEndsOnlyByResume : Obligations.HaltEndsOnlyByResume := by
  intro c s t h e ended
  cases c
  case reset a b e' => exact .inl ⟨a, b, e', rfl⟩
  case selectionEnd bs =>
    rcases carried_halted.selection h e with stays | ⟨i, u, judged, may, found, work, rfl⟩
    · exact absurd stays (Bool.eq_false_iff.mp ended)
    · obtain ⟨rfl, prepared, clear⟩ := exec_ends_halt (plain_of_permitted may) found work ended
      rw [State.wake_deselect_wake] at clear
      have prepared' : s.wake.faults.prepare = true := prepared
      exact .inr ⟨.inr ⟨bs, rfl, judged⟩, by simpa using prepared', clear⟩
  all_goals
    obtain ⟨is, rest⟩ := exec_ends_halt (by trivial) h e ended
    exact .inr ⟨.inl is, rest⟩

/-! ### The clearing of a latch (R168, R171, R172) -/

/-- A latch is left standing by every change but those of ACK_FAULTS and SET_MASK. -/
theorem carried_latched (f : FaultId) : Carried (fun s => s.latched f = true) (fun s => s.latched f = true) where
  port same h := by unfold State.SameButPort at same; rw [same]; exact h
  start := id
  settle {u} h := u.settle_haltStays.latched f h

theorem ofCode?_index {n : Nat} {f : FaultId} (h : FaultId.ofCode? n = some f) : f.index.val = n := by
  have all : ∀ i : Fin 29, (allFaults[i]).index = i := by decide
  obtain ⟨lt, rfl⟩ := List.getElem?_eq_some_iff.mp h
  exact congrArg Fin.val (all ⟨n, lt⟩)

theorem State.setMask_latched {s : State} {f g : FaultId} {on : Bool} (h : s.latched g = true)
    (other : ¬(on = true ∧ f = g)) : (s.setMask f on).latched g = true := by
  have apart : f.index = g.index → f = g := FaultId.index_injective
  unfold setMask latched at *
  cases on
  · rw [if_neg (by decide), setFault_fault]
    split
    next same => rw [apart same]; exact h
    next => exact h
  · rw [if_pos rfl, setFault_fault, if_neg fun same => other ⟨rfl, apart same⟩]
    exact h

open State in
/-- Every command but ACK_FAULTS with the condition false, and SET_MASK of that fault, leaves a latch standing by its own
change. -/
theorem exec_latched (c : Instr) (s : State) (f : FaultId) (plain : Instr.plain c)
    (ack : c = .ackFaults .operator → (s.wake.fault f).cond = true)
    (mask : f.cls = .warning → c ≠ .setMask .maintenance f.index.val 1) :
    Ran (fun w u => w.latched f = true → u.latched f = true) s (exec c s) := by
  by_cases own : Instr.writesFaults c
  · cases c <;> unfold exec
    case setMask st fault value =>
      refine .request fun sent => ?_
      split
      · trivial
      next g coded =>
        split
        · trivial
        next valid =>
          simp only [Bool.or_eq_true, not_or, bne_iff_ne, ne_eq, not_not] at valid
          refine fun latched => setMask_latched latched ?_
          rintro ⟨on, rfl⟩
          have from_maintenance : st = .maintenance := by simpa using sent
          exact mask valid.1 (by rw [from_maintenance, ofCode?_index coded, beq_iff_eq.mp on])
    case ackFaults st =>
      refine .request fun sent latched => ?_
      have from_operator : st = .operator := by simpa using sent
      have cond : (s.asked.fault f).cond = true := ack (by rw [from_operator])
      unfold State.latched at *
      rw [ackFaults_fault]
      exact Bool.and_eq_true_iff.mpr ⟨latched, cond⟩
    case resume =>
      refine .resume fun _ latched => ?_
      unfold State.latched fault at *
      rwa [endHalt_recs]
    all_goals exact own.elim
  · exact (exec_path c s plain own).mono fun _ _ path latched => path.haltStays.latched f latched

/-- A latch that a command other than RESET and the end of a selection clears. -/
theorem exec_clears_latch {c : Instr} {s t : State} {f : FaultId} (plain : Instr.plain c) (h : s.latched f = true)
    (e : exec c s = .next t) (cleared : t.latched f = false) :
    (c = .ackFaults .operator ∧ (s.wake.fault f).cond = false) ∨
      (f.cls = .warning ∧ c = .setMask .maintenance f.index.val 1) := by
  by_contra neither
  obtain ⟨ack, mask⟩ := not_or.mp neither
  have ran := exec_latched c s f plain (fun is => by simpa [is] using ack) fun cls is => mask ⟨cls, is⟩
  exact absurd ((carried_latched f).of_ran (fun _ _ keeps => keeps) ran h e) (by simpa using cleared)

/-- Settles O12: no change but those two requests' clears a latch, whoever worked the request. -/
theorem latchesStay : Obligations.LatchesStay := by
  intro c s t f h e cleared
  cases c
  case reset a b e' => exact .inl ⟨a, b, e', rfl⟩
  case selectionEnd bs =>
    rcases (carried_latched f).selection h e with stays | ⟨i, u, judged, may, found, work, rfl⟩
    · exact absurd stays (Bool.eq_false_iff.mp cleared)
    · rcases exec_clears_latch (plain_of_permitted may) found work cleared with ⟨rfl, cond⟩ | ⟨cls, rfl⟩
      · rw [State.wake_deselect_wake] at cond
        exact .inr (.inl ⟨.inr ⟨bs, rfl, judged⟩, cond⟩)
      · exact .inr (.inr ⟨cls, .inr ⟨bs, rfl, judged⟩⟩)
  all_goals
    rcases exec_clears_latch (by trivial) h e cleared with ⟨is, cond⟩ | ⟨cls, is⟩
    · exact .inr (.inl ⟨.inl is, cond⟩)
    · exact .inr (.inr ⟨cls, .inl is⟩)

end Sys2Proof.Machine
end

section
/-!
SUPPORT. The leaf, the aspects and the road at every step (R59, R60, R62, R82, R88, R93, R112, R113, R173).
-/

namespace Sys2Proof.Machine

open Sys2Proof

namespace State

theorem settle_of_round {P : State → Prop} (h : ∀ s : State, P s.react.outputs) (s : State) : P s.settle := by
  rw [settle_round]
  exact h _

/-! ### The leaf (R59, R60, R62, R82) -/

theorem promise_permitExact : Promise PermitExact fun _ => True where
  port same h := by unfold SameButPort at same; rw [same]; exact h
  start _ := trivial
  settle {u} _ := settle_of_round (P := PermitExact) (fun s => outputStage_permitExact s.react.aspectStage.lampStage) u
  elapse h := h
  reset s a b e := by
    have motion : (s.restart a b e).motion = .reset := rfl
    simp [PermitExact, motion, Motion.reset]

theorem restart_driveFollows (s : State) (a b e : Bool) : (s.restart a b e).DriveFollows := by
  have motion : (s.restart a b e).motion = .reset := rfl
  unfold DriveFollows
  rw [motion]
  simp [Motion.reset]

/-- The outputs stand in the table of R60; the conjunction keeps the settled state from being evaluated. -/
def DriveRight (s : State) : Prop := s.motion = s.motion ∧ s.DriveFollows

theorem promise_driveRight : Promise DriveRight fun _ => True where
  port same h := by unfold SameButPort at same; rw [same]; exact ⟨rfl, h.2⟩
  start _ := trivial
  settle {u} _ :=
    settle_of_round (P := DriveRight) (fun s => ⟨rfl, outputStage_driveFollows s.react.aspectStage.lampStage⟩) u
  elapse h := ⟨rfl, h.2⟩
  reset s a b e := ⟨rfl, restart_driveFollows s a b e⟩

theorem promise_seatedFollows : Promise SeatedFollows fun _ => True where
  port same h := by unfold SameButPort at same; rw [same]; exact h
  start _ := trivial
  settle {u} _ := settle_of_round (P := SeatedFollows) react_outputs_seatedFollows u
  elapse h := h
  reset _ _ _ _ seated := by rcases seated with h | h <;> cases h

theorem endHalt_halted (s : State) : s.endHalt.faults.halted = false := by
  unfold endHalt
  dsimp only
  rw [onUsedAps_frame]
  rfl

theorem promise_haltHeld : Promise HaltHeld LeafHalted where
  port same h := by unfold SameButPort at same; rw [same]; exact h
  start := HaltHeld.leafHalted
  settle := settle_haltHeld
  elapse h := h
  reset _ _ _ _ halted := nomatch (show false = true from halted)

end State

open State in
theorem exec_leafHalted (c : Instr) (s : State) (plain : Instr.plain c) :
    Ran (fun w u => w.LeafHalted → u.LeafHalted) s (exec c s) := by
  by_cases own : Instr.writesFaults c
  · cases c <;> unfold exec
    case setMask =>
      refine .asks ?_
      split
      · trivial
      · split
        · trivial
        · unfold setMask
          split <;> exact id
    case ackFaults => exact .asks id
    case resume =>
      refine .resume fun _ _ halted => ?_
      rw [endHalt_halted] at halted
      cases halted
    all_goals exact own.elim
  · exact (exec_path c s plain own).mono fun _ _ path => path.haltStays.leaf

/-- Settles O7: the outputs and the seated states are formed in every round, and the halted leaf is moved by RESUME alone. -/
theorem leafStaysRight : Obligations.LeafStaysRight :=
  ⟨fun _ _ => State.promise_permitExact.step_of_settle, fun _ _ h e => (State.promise_driveRight.step_of_settle ⟨rfl, h⟩ e).2,
    fun _ _ => State.promise_seatedFollows.step_of_settle,
    fun _ _ h => State.promise_haltHeld.step (fun _ _ keeps held => keeps held.leafHalted) exec_leafHalted h⟩

/-! ### The aspects (R112, R113) -/

namespace State

theorem elapse_aspectOf (s : State) (d : Dir) : s.elapse.aspectOf d = s.aspectOf d := by
  have go : s.elapse.goConditions = s.goConditions := by
    funext r
    cases h : r.dir <;> simp only [goConditions, h] <;> rfl
  simp only [aspectOf, go]
  cases d <;> rfl

theorem restart_aspectOf (s : State) (a b e : Bool) (d : Dir) : (s.restart a b e).aspectOf d = .stop := by
  have signals : (s.restart a b e).signals = .reset := rfl
  have service : ((s.restart a b e).dirRec d).inService = true := by cases d <;> rfl
  have called : (s.restart a b e).calledRec = none := by simp [calledRec, signals, Signals.reset]
  simp [aspectOf, service, called]

theorem promise_aspectsFormed : Promise AspectsFormed fun _ => True where
  port same h := by unfold SameButPort at same; rw [same]; exact h
  start _ := trivial
  settle {u} _ := settle_of_round (P := AspectsFormed) (fun s => outputs_aspectsFormed s.react) u
  elapse {s} h := ⟨(h.1.trans (s.elapse_aspectOf .inbound).symm), (h.2.trans (s.elapse_aspectOf .outbound).symm)⟩
  reset s a b e := ⟨(s.restart_aspectOf a b e .inbound).symm, (s.restart_aspectOf a b e .outbound).symm⟩

theorem AspectsFormed.aspect {s : State} (h : s.AspectsFormed) (d : Dir) : (s.dirRec d).aspect = s.aspectOf d := by
  cases d
  exacts [h.1, h.2]

/-- GO is formed for the CALLED record of the direction alone, while its GO conditions hold (R112). -/
theorem aspectOf_go {s : State} {d : Dir} (h : s.aspectOf d = .go) :
    (s.dirRec d).inService = true ∧ ∃ r, s.calledRec = some r ∧ r.dir = d ∧ s.goConditions r = true := by
  unfold aspectOf at h
  split at h
  · cases h
  · split at h
    · cases h
    next service =>
      split at h
      next called =>
        obtain ⟨r, found, go⟩ := (Option.any_eq_true _ _).mp called
        obtain ⟨dir, conditions⟩ := Bool.and_eq_true_iff.mp go
        exact ⟨by simpa using service, r, found, beq_iff_eq.mp dir, conditions⟩
      · split at h <;> cases h

theorem freshOrSole_iff (s : State) : s.freshOrSole = true ↔ (s.role ≠ .sole → s.link.paired = true) := by
  cases role : s.role <;> simp [freshOrSole, twin, role]

/-- The GO angle is present and at an angle or above exactly where the own angle, and in a twin role that of a fresh view,
are (R113). -/
theorem goAngle_reaches (s : State) (r : Required) : (s.goAngle.any fun a => !r.above a) = true ↔
    ∃ a, r = .angle a ∧ a ≤ s.angle ∧
      (s.role ≠ .sole → s.link.paired = true ∧ ∃ v, s.link.view = some v ∧ a ≤ v.angle) := by
  cases r with
  | unachievable => simp [Required.above]
  | angle a =>
    by_cases sole : s.role = .sole
    · simp [goAngle, twin, sole, Required.above]
    · cases fresh : s.link.paired <;> cases view : s.link.view <;>
        simp [goAngle, freshView, twin, sole, fresh, view, Required.above]

end State

/-- Settles O8, by the promise that every round forms the aspects, and by the conditions of GO. -/
theorem aspectsStayFormed : Obligations.AspectsStayFormed := by
  refine ⟨fun _ _ => State.promise_aspectsFormed.step_of_settle, fun s d formed go => ?_⟩
  rw [formed.aspect] at go
  obtain ⟨service, r, called, dir, conditions⟩ := State.aspectOf_go go
  obtain ⟨found, state, named⟩ := State.calledRec_found called
  obtain ⟨mem, -⟩ := State.findRec_mem found
  simp only [State.goConditions, Bool.and_eq_true, Bool.not_eq_true', beq_iff_eq] at conditions
  obtain ⟨⟨⟨⟨⟨running, holding⟩, fresh⟩, partner⟩, reached⟩, -⟩ := conditions
  obtain ⟨a, angle, own, twin⟩ := (s.goAngle_reaches r.required).mp reached
  simp only [DirRec.inService, Bool.and_eq_true, beq_iff_eq] at service
  refine ⟨running, holding, service.1, service.2, r, mem, state, dir, named, fun _ => ⟨a, angle, own⟩, fun other => ?_⟩
  obtain ⟨paired, v, view, reaches⟩ := twin other
  have holds : v.motion = 3 := by simpa [State.partnerHolds, State.twin, other, view] using partner
  exact ⟨paired, v, view, holds, a, angle, own, reaches⟩

end Sys2Proof.Machine
end

section
/-!
SUPPORT. The book, the opening, the credits, the roles, the link and the retries at every step (R1, R3, R4, R121, R129, R134,
R151).
-/

namespace Sys2Proof.Machine

open Sys2Proof

namespace State

theorem Keeps.of_sameButPort {full : Prop} {s t : State} (same : s.SameButPort t) : s.Keeps full t := by
  unfold SameButPort at same
  rw [same]
  exact .quiet rfl rfl

end State

theorem Approach.timerExpiry_gates (x : RoadCtx) (a : Approach) : a.GatesRest (a.timerExpiry x) := by
  unfold Approach.timerExpiry
  split
  · exact .refl a
  · split
    case h_4 => exact .refl a
    all_goals exact Approach.enter_gates _ _ _ _ _

theorem Approach.resume_gates (x : RoadCtx) (a : Approach) : a.GatesRest (a.resume x) := by
  unfold Approach.resume
  dsimp only
  have cleared : a.GatesRest { a with advancePending := false } := .refl a
  split
  · split
    · exact cleared.trans (Approach.timerExpiry_gates _ _)
    · exact cleared.trans (Approach.timerExpiry_gates _ _)
    · split
      exacts [cleared.trans (Approach.timerExpiry_gates _ _), cleared]
    · exact cleared
  · exact .refl a

namespace State

theorem endHalt_gates (s : State) : s.GatesRest s.endHalt := by
  unfold State.endHalt
  dsimp only
  refine .trans ?_ (onUsedAps_gates fun x a => Approach.resume_gates x a)
  exact .of_aps rfl rfl

theorem Keeps.endHalt {full : Prop} (s : State) : s.Keeps full s.endHalt := by
  refine .of_gatesRest ?_ (endHalt_gates s)
  unfold State.endHalt
  dsimp only
  rw [onUsedAps_frame]
  rfl

end State

open State in
/-- Every command's own change carries the promises about the book, the opening and the road. -/
theorem exec_keeps (c : Instr) (s : State) (plain : Instr.plain c) : Ran (Keeps ¬Instr.opens c) s (exec c s) := by
  by_cases own : Instr.writesFaults c
  · cases c <;> unfold exec
    case setMask =>
      refine .asks ?_
      split
      · trivial
      · split
        · trivial
        · unfold setMask
          split <;> exact .quiet rfl rfl
    case ackFaults => exact .asks (.quiet rfl rfl)
    case resume => exact .resume fun _ => .endHalt _
    all_goals exact own.elim
  · exact (exec_path c s plain own).mono fun _ _ path => path.keeps

namespace State

/-- What every change carries is a promise, once it stands through a millisecond and a reset. -/
theorem Promise.of_keeps {P : State → Prop} (carries : ∀ {s t : State}, s.Keeps False t → P s → P t)
    (elapse : ∀ {s : State}, P s → P s.elapse) (reset : ∀ s a b e, P (State.restart s a b e)) : Promise P P where
  port same := carries (.of_sameButPort same)
  start := id
  settle := carries (.settle _)
  elapse := elapse
  reset := reset

theorem Keeps.weaken {full : Prop} {s t : State} (h : s.Keeps full t) : s.Keeps False t :=
  ⟨h.book, h.follow, nofun, h.credits, h.link, h.retries⟩

theorem step_of_keeps {P : State → Prop} (carries : ∀ {s t : State}, s.Keeps False t → P s → P t)
    (elapse : ∀ {s : State}, P s → P s.elapse) (reset : ∀ s a b e, P (State.restart s a b e)) {s t : State} (p : P s)
    (e : Machine.step s = .next t) : P t :=
  (Promise.of_keeps carries elapse reset).step (R := Keeps False) (fun _ _ keeps => carries keeps)
    (fun c s plain => (exec_keeps c s plain).mono fun _ _ keeps => keeps.weaken) p e

/-! ### The book (R1, R3, R4) -/

theorem reset_bookNumbered {s : State} (h : s.book = .reset) : s.BookNumbered := by
  unfold BookNumbered
  rw [h]
  decide

theorem reset_vesselsApart {s : State} (h : s.book = .reset) : s.VesselsApart := by
  unfold VesselsApart
  rw [h]
  decide

theorem reset_closedMarked {s : State} (h : s.book = .reset) : s.ClosedMarked := by
  unfold ClosedMarked
  rw [h]
  exact nofun

theorem reset_followsEarlier {s : State} (h : s.book = .reset) : s.FollowsEarlier := by
  intro xs r ys split
  rw [h] at split
  cases xs <;> cases split

end State

/-- Settles O13: the promise of the numbering is carried by every change, and with it that of the vessels. -/
theorem bookStaysNumbered : Obligations.BookStaysNumbered :=
  ⟨fun _ _ => State.step_of_keeps (fun keeps => keeps.book.numbered) id fun _ _ _ _ => State.reset_bookNumbered rfl,
    fun _ _ numbered apart e => (State.step_of_keeps (P := fun s => s.BookNumbered ∧ s.VesselsApart)
      (fun keeps p => ⟨keeps.book.numbered p.1, keeps.book.vessels p.1 p.2⟩) id
      (fun _ _ _ _ => ⟨State.reset_bookNumbered rfl, State.reset_vesselsApart rfl⟩) ⟨numbered, apart⟩ e).2⟩

/-- Settles O14, by the promises about the closed-at and the follows of a numbered book. -/
theorem followsStayEarlier : Obligations.FollowsStayEarlier :=
  fun _ _ numbered right e => (State.step_of_keeps (P := fun s => s.BookNumbered ∧ s.ClosedMarked ∧ s.FollowsEarlier)
    (fun keeps p => ⟨keeps.book.numbered p.1, keeps.book.marked p.1 p.2.1, keeps.book.follows p.1 p.2.2⟩) id
    (fun _ _ _ _ => ⟨State.reset_bookNumbered rfl, State.reset_closedMarked rfl, State.reset_followsEarlier rfl⟩)
    ⟨numbered, right⟩ e).2

/-! ### Credits and roles (R21, R35, R134, R151) -/

theorem Items.takeBlock_road (x src : Items) (b : BlockId) :
    (x.takeBlock b src).road = if b = .road then src.road else x.road := by
  cases b <;> rfl

theorem Settings.loadItems_road (x : Settings) (r : Role) :
    (x.loadItems r).road = if x.loaded.road = true then x.stored.road else (Items.default r).road := by
  simp only [Settings.loadItems, allBlocks, List.foldl_cons, List.foldl_nil, apply_ite Items.road, Items.takeBlock_road, reduceCtorEq,
    if_false, if_true, ite_self]
  rfl

/-- ROAD_CREDITS as loaded, or by default, lies in its range (R182). -/
theorem Settings.loadItems_roadCredits (x : Settings) (r : Role) : 0 ≤ (x.loadItems r).road.roadCredits := by
  rw [Settings.loadItems_road]
  split
  next loads =>
    have inRange : x.stored.blockInRange .road = true := by
      have l : x.loads x.loadFull .road = true := loads
      simp only [Settings.loads, Bool.and_eq_true] at l
      exact l.1.2
    have each := List.all_eq_true.mp inRange .roadCredits (by decide)
    have within : Item.inRange .roadCredits x.stored.road.roadCredits = true := each
    simp only [Item.inRange, Item.range, Bool.and_eq_true] at within
    exact of_decide_eq_true within.1
  next => cases r <;> decide

namespace State

theorem restart_items (s : State) (a b e : Bool) :
    (s.restart a b e).items = (s.settings.cutWrite (Config.writeCut s.cutCount)).loadItems (roleOf a b) := rfl

theorem restart_opening (s : State) (a b e : Bool) :
    (s.restart a b e).opening = .reset (s.restart a b e).items.road.roadCredits.toNat := by
  simp only [State.restart, State.items, Settings.load]

theorem restart_credits (s : State) (a b e : Bool) : (s.restart a b e).CreditsBounded := by
  have low : 0 ≤ (s.restart a b e).items.road.roadCredits := by
    rw [restart_items]
    exact Settings.loadItems_roadCredits _ _
  unfold CreditsBounded
  rw [restart_opening]
  exact (Int.toNat_of_nonneg low).le

theorem restart_linkOff (s : State) (a b e : Bool) : (s.restart a b e).LinkOff := by
  intro role
  have link : ∃ n, (s.restart a b e).link = Link.reset (s.restart a b e).role n := ⟨_, rfl⟩
  obtain ⟨n, link⟩ := link
  rw [link, role]
  exact ⟨rfl, rfl, rfl⟩

theorem restart_followEmpty (s : State) (a b e : Bool) : (s.restart a b e).FollowEmpty := fun _ => ⟨rfl, rfl⟩

end State

/-- Settles O16: every change carries the bound of the credits, a quiet link in SOLE role, and an empty book in FOLLOW role. -/
theorem creditsAndRolesStay : Obligations.CreditsAndRolesStay :=
  ⟨fun _ _ => State.step_of_keeps (fun keeps => keeps.credits) id State.restart_credits,
    fun _ _ => State.step_of_keeps (P := fun s => s.LinkOff ∧ s.FollowEmpty)
      (fun keeps p => ⟨keeps.link p.1, keeps.follow p.2⟩) id
      fun s a b e => ⟨State.restart_linkOff s a b e, State.restart_followEmpty s a b e⟩⟩

/-! ### The calls and the group list (R121, R129) -/

namespace State

theorem reset_oneCall {s : State} (h : s.book = .reset) : s.OneCall := by
  unfold OneCall
  rw [h]
  decide

theorem restart_groupExact (s : State) (a b e : Bool) : (s.restart a b e).GroupExact :=
  ⟨Nat.zero_le _, .nil, nofun, nofun⟩

theorem restart_groupPlaced (s : State) (a b e : Bool) : (s.restart a b e).GroupPlaced :=
  ⟨fun _ => rfl, fun _ => rfl, fun _ => ⟨rfl, rfl⟩, nofun, nofun, nofun⟩

theorem elapse_groupPlaced {s : State} (h : s.GroupPlaced) : s.elapse.GroupPlaced := by
  obtain ⟨empty, lingers, idle, closing, resumes, calls⟩ := h
  have ticked : ∀ t : Timer, t.tick = .stopped ↔ t = .stopped := fun t => by cases t <;> simp [Timer.tick]
  exact ⟨empty, fun runs => lingers fun is => runs ((ticked _).mpr is), fun at_ => ⟨(ticked _).mpr (idle at_).1, (idle at_).2⟩,
    closing, resumes, calls⟩

/-! An accepted OPEN may find an opening that a halt suspended in IDLE: its own change leaves the resume point to the settling,
which ends the suspension on the seated leaf or, in span halt, sets the resume point (R144, R145). -/

/-- The records stand in their places but for the resume point, on a seated leaf with no halt. -/
def PlacedSoon (s : State) : Prop := s.clearSuspension.GroupPlaced ∧ s.opening.phase = .pending ∧ s.isSeated = true

theorem placed_of_going {s : State} (h : s.clearSuspension.GroupPlaced) (going : s.opening.suspended = false) : s.GroupPlaced :=
  ⟨h.1, h.2.1, h.2.2.1, h.2.2.2.1, fun _ held => absurd held (by simp [going]), h.2.2.2.2.2⟩

theorem enterHalt_placedSoon {s : State} (h : s.clearSuspension.GroupPlaced) (busy : s.opening.phase ≠ .idle)
    (numbered : s.BookNumbered) (f : FaultId) : (s.enterHalt f).GroupPlaced := by
  have revoked : (s.setHalted f).haltMotion.haltLocks.revokeCalled.clearSuspension.GroupPlaced := by
    unfold revokeCalled
    split
    next r called =>
      obtain ⟨found, state, -⟩ := calledRec_found called
      refine h.of_stand (by rw [revoke_frame]; rfl) (by rw [revoke_frame]; rfl) ?_
      refine setRecState_noneNew (st := .grouped) numbered found ?_ (fun _ => .inr state) (by simp)
      show (State.revoke _ r).book = _
      unfold revoke; rw [callEnd_frame]; rfl
    next => exact h
  have phase : (s.setHalted f).haltMotion.haltLocks.revokeCalled.opening.phase = s.opening.phase := by
    rw [revokeCalled_frame]; rfl
  unfold enterHalt
  generalize (s.setHalted f).haltMotion.haltLocks.revokeCalled = t at revoked phase
  have suspended : t.haltOpening.GroupPlaced := by
    unfold haltOpening
    rw [if_neg (by rw [phase]; simpa using busy)]
    exact ⟨revoked.1, revoked.2.1, revoked.2.2.1, revoked.2.2.2.1, fun _ _ => rfl, revoked.2.2.2.2.2⟩
  unfold startTone
  split <;> exact suspended

theorem reportAll_placedSoon {s : State} (h : s.PlacedSoon) (numbered : s.BookNumbered) :
    s.reportAll.GroupPlaced ∨ s.reportAll.PlacedSoon ∧ s.reportAll.faults.halted = s.faults.halted := by
  obtain ⟨placed, phase, seated⟩ := h
  unfold reportAll
  dsimp only
  split
  · exact .inr ⟨⟨placed, phase, seated⟩, rfl⟩
  · split
    next f _ => exact .inl (enterHalt_placedSoon (s := { s with faults := { s.faults with recs := s.reportedRecs } }) placed
        (by rw [phase]; decide) numbered f)
    next => exact .inr ⟨⟨placed, phase, seated⟩, rfl⟩

theorem permitStage_seated {s : State} (h : s.isSeated = true) : s.permitStage = s := by
  simp only [isSeated, Bool.or_eq_true, beq_iff_eq] at h
  unfold permitStage
  rcases h with h | h <;> simp [h]

theorem angleStage_seated {s : State} (h : s.isSeated = true) : s.angleStage = s := by
  simp only [isSeated, Bool.or_eq_true, beq_iff_eq] at h
  unfold angleStage
  rcases h with h | h <;> simp [h]

theorem endSuspension_placedSoon {s : State} (h : s.PlacedSoon) (running : s.faults.halted = false) :
    s.endSuspension.GroupPlaced := by
  obtain ⟨placed, phase, seated⟩ := h
  unfold endSuspension
  by_cases held : s.opening.suspended = true
  · have step : s.clearSuspension.giveStep = s.clearSuspension := by
      have phase' : s.clearSuspension.opening.phase = .pending := phase
      unfold giveStep
      rw [phase']
    have ends : (s.opening.suspended && !s.faults.halted && s.isSeated) = true := by simp [held, running, seated]
    rw [if_pos ends]
    dsimp only
    rw [if_neg (by simp [phase]), step]
    exact placed
  · have going : s.opening.suspended = false := by simpa using held
    rw [if_neg (by simp [going])]
    exact placed_of_going placed going

/-- The first round after OPEN puts the records in their places. -/
theorem round_placedSoon {s : State} (h : s.PlacedSoon) (running : s.faults.halted = false) (numbered : s.BookNumbered)
    (follow : s.FollowEmpty) (exact_ : s.GroupExact) : s.round.GroupPlaced := by
  have reported : s.Keeps True s.reportAll := .reportAll s
  have sound := And.intro (reported.book.numbered numbered) (And.intro (reported.follow follow) (reported.book.group numbered exact_))
  have carried : ∀ t : State, s.Keeps False t → t.GroupPlaced → ∀ u, t.Keeps True u → u.GroupPlaced := fun t past placed u keeps =>
    keeps.placed trivial (past.book.numbered numbered) (past.follow follow) (past.book.group numbered exact_) placed
  have tail : ∀ t : State, t.Keeps True t.tryCommand.seatLockStage.toeStage.roadStage.startTest.advancePhase.channelStage.outputs :=
    fun t => (Keeps.afterSuspension t).trans (.outputs _)
  rcases reportAll_placedSoon h numbered with placed | ⟨soon, same⟩
  · refine carried _ reported.weaken placed _ ?_
    exact (Keeps.permitStage _).trans <| (Keeps.angleStage _).trans <| (Keeps.endSuspension _).trans <| tail _
  · refine carried s.reportAll.endSuspension (reported.trans (.endSuspension _)).weaken
      (endSuspension_placedSoon soon (same.trans running)) _ ?_
    have round : s.round = (s.reportAll.permitStage.angleStage.endSuspension.tryCommand.seatLockStage.toeStage.roadStage.startTest
      |>.advancePhase.channelStage.outputs) := rfl
    rw [round, permitStage_seated soon.2.2, angleStage_seated soon.2.2]
    exact tail _

theorem settle_placedSoon {s : State} (h : s.PlacedSoon) (running : s.faults.halted = false) (numbered : s.BookNumbered)
    (follow : s.FollowEmpty) (exact_ : s.GroupExact) : s.settle.GroupPlaced := by
  have round : s.Keeps True s.round := .round s
  have rest : s.round.Keeps True s.settle := .rounds 7 s.round
  exact rest.placed trivial (round.book.numbered numbered) (round.follow follow) (round.book.group numbered exact_)
    (round_placedSoon h running numbered follow exact_)

/-- What OPEN leaves to the settling (R132). -/
theorem startOpening_placedSoon {s : State} {ns : List Nat} (judged : s.judgeOpen = .ok ns) (h : s.GroupPlaced) :
    (s.startOpening ns).PlacedSoon ∧ (s.startOpening ns).faults.halted = false := by
  have lead : s.role ≠ .follow := fun follow => by simp [judgeOpen, follow] at judged
  obtain ⟨phase, running, locked⟩ : s.opening.phase = .idle ∧ s.faults.halted = false ∧ s.motion.state = .seatedLocked := by
    unfold judgeOpen at judged
    repeat' split at judged
    all_goals cases judged
    simp_all
  obtain ⟨-, -, idle, -, -, calls⟩ := h
  obtain ⟨stopped, unasked⟩ := idle (.inl phase)
  have stand : (s.startOpening ns).opening.stand = ({ s.opening with phase := .pending, group := s.opening.group ++ ns } : Opening).stand := by
    unfold startOpening
    dsimp only
    rw [recomputeTarget_stand, setPhase_opening]
    unfold modOpening
    dsimp only
    rw [groupThem_opening]
    rfl
  simp only [Opening.stand, Prod.mk.injEq] at stand
  obtain ⟨phase', -, linger, requested, -, -⟩ := stand
  have book : (s.startOpening ns).book = (s.groupThem ns).book := by
    unfold startOpening
    dsimp only
    rw [recomputeTarget_frame, setPhase_frame]
    rfl
  have role : (s.startOpening ns).role = s.role := by
    unfold startOpening
    dsimp only
    rw [recomputeTarget_frame, setPhase_frame, groupThem_frame]
    rfl
  obtain ⟨faults, motion⟩ := haltCore_eq_iff.mp (Path.startOpening_haltCore s ns)
  refine ⟨⟨⟨fun at_ => ?_, fun runs => absurd (linger.trans stopped) runs, fun is => ?_, fun asked => ?_, nofun, fun r hr is => ?_⟩,
    phase', ?_⟩, by rw [faults]; exact running⟩
  · rcases at_ with is | is | is | is <;> exact absurd (phase'.symm.trans is) (by decide)
  · rcases is with at_ | follow
    · exact absurd (phase'.symm.trans at_) (by decide)
    · exact absurd (role.symm.trans follow) lead
  · exact absurd (requested.symm.trans asked) (by simp [unasked])
  · have hr : r ∈ (s.startOpening ns).book.records := hr
    rw [book, groupThem_records] at hr
    obtain ⟨q, hq, rfl⟩ := List.mem_map.mp hr
    have was : q.state = .called ∨ q.state = .passing := by
      split at is
      · simp at is
      · exact is
    rcases calls q hq was with p | p <;> rw [phase] at p <;> cases p
  · unfold isSeated
    rw [motion, locked]
    rfl

/-- The calls, the list and the places of the records, with what they rest on. -/
structure RecordsPlaced (s : State) : Prop where
  numbered : s.BookNumbered
  follow : s.FollowEmpty
  exact_ : s.GroupExact
  placed : s.GroupPlaced

/-- The same of a state that is yet to settle (R132). -/
structure RecordsSoonPlaced (s : State) : Prop where
  numbered : s.BookNumbered
  follow : s.FollowEmpty
  exact_ : s.GroupExact
  placed : s.GroupPlaced ∨ s.PlacedSoon ∧ s.faults.halted = false

theorem Keeps.recordsPlaced {s t : State} (h : s.Keeps True t) (p : s.RecordsPlaced) : t.RecordsPlaced :=
  ⟨h.book.numbered p.numbered, h.follow p.follow, h.book.group p.numbered p.exact_,
    h.placed trivial p.numbered p.follow p.exact_ p.placed⟩

theorem settle_recordsPlaced {s : State} (p : s.RecordsSoonPlaced) : s.settle.RecordsPlaced := by
  obtain ⟨numbered, follow, exact_, placed | ⟨soon, running⟩⟩ := p
  · exact (Keeps.settle s).recordsPlaced ⟨numbered, follow, exact_, placed⟩
  · have keeps : s.Keeps False s.settle := .settle s
    exact ⟨keeps.book.numbered numbered, keeps.follow follow, keeps.book.group numbered exact_,
      settle_placedSoon soon running numbered follow exact_⟩

theorem promise_recordsPlaced : Promise RecordsPlaced RecordsSoonPlaced where
  port same := (Keeps.of_sameButPort same).recordsPlaced
  start p := ⟨p.numbered, p.follow, p.exact_, .inl p.placed⟩
  settle := settle_recordsPlaced
  elapse p := ⟨p.numbered, p.follow, p.exact_, elapse_groupPlaced p.placed⟩
  reset s a b e := ⟨reset_bookNumbered rfl, restart_followEmpty s a b e, restart_groupExact s a b e, restart_groupPlaced s a b e⟩

end State

open State in
/-- Every command's own change leaves the records in their places, or leaves them to the settling. -/
theorem exec_recordsPlaced (c : Instr) (s : State) (plain : Instr.plain c) :
    Ran (fun w u => w.RecordsPlaced → u.RecordsSoonPlaced) s (exec c s) := by
  by_cases opens : Instr.opens c
  · cases c <;> unfold exec
    case openSpan =>
      refine .asks ?_
      split
      · trivial
      next ns judged =>
        intro p
        have keeps := Keeps.startOpening (full := False) (taken_of_judged judged) id
        exact ⟨keeps.book.numbered p.numbered, keeps.follow p.follow, keeps.book.group p.numbered p.exact_,
          .inr (startOpening_placedSoon judged p.placed)⟩
    all_goals exact opens.elim
  · refine (exec_keeps c s plain).mono fun w u keeps p => ?_
    exact ⟨keeps.book.numbered p.numbered, keeps.follow p.follow, keeps.book.group p.numbered p.exact_,
      .inl (keeps.placed opens p.numbered p.follow p.exact_ p.placed)⟩

/-- Settles O15: every change carries the calls and the list of a numbered book, and the settling puts the records of an
opening in their places. -/
theorem groupStaysExact : Obligations.GroupStaysExact :=
  ⟨fun _ _ numbered one e => (State.step_of_keeps (P := fun s => s.BookNumbered ∧ s.OneCall)
      (fun keeps p => ⟨keeps.book.numbered p.1, keeps.book.calls p.1 p.2⟩) id
      (fun _ _ _ _ => ⟨State.reset_bookNumbered rfl, State.reset_oneCall rfl⟩) ⟨numbered, one⟩ e).2,
    fun _ _ numbered exact_ e => (State.step_of_keeps (P := fun s => s.BookNumbered ∧ s.GroupExact)
      (fun keeps p => ⟨keeps.book.numbered p.1, keeps.book.group p.1 p.2⟩) id
      (fun s a b e => ⟨State.reset_bookNumbered rfl, State.restart_groupExact s a b e⟩) ⟨numbered, exact_⟩ e).2,
    fun _ _ numbered follow exact_ placed e =>
      (State.promise_recordsPlaced.step (fun _ _ keeps => keeps) exec_recordsPlaced ⟨numbered, follow, exact_, placed⟩ e).placed⟩

namespace State

end State

end Sys2Proof.Machine
end

section
/-!
SUPPORT. The gates, the lane lamps and the obstruction retries at every step (R85, R88, R90, R93).
-/

namespace Sys2Proof.Machine

open Sys2Proof

namespace State

/-! ### The gates of a millisecond and of a reset -/

theorem elapse_ap (s : State) (x : Ap) : s.elapse.ap x = (s.ap x).tick := by cases x <;> rfl

theorem elapse_gate (s : State) (g : GateId) : s.elapse.gate g = (s.gate g).tick := by
  unfold gate
  rw [elapse_ap]
  exact Six.zip_at _ _ _ _

end State

theorem Approach.reset_gate (ks : Six GateKind) (i : Fin 6) : (Approach.reset ks).gates.at i = Gate.reset (ks.at i) := by
  fin_cases i <;> rfl

namespace State

/-- A reset gives each approach the reset values of its kinds of gates (R84, R110). -/
theorem restart_ap (s : State) (a b e : Bool) (x : Ap) : (s.restart a b e).ap x = Approach.reset ((s.restart a b e).kinds x) := by
  cases x
  · simp only [ap, kinds, usesAp, restart, items, if_true, Road.kinds, Settings.load]
  · simp only [ap, kinds, usesAp, restart, items, Road.kinds, Settings.load, beq_iff_eq]

theorem restart_gate (s : State) (a b e : Bool) (g : GateId) :
    (s.restart a b e).gate g = Gate.reset (((s.restart a b e).kinds g.ap).at g.ix) := by
  unfold gate
  rw [restart_ap, Approach.reset_gate]

/-! ### Gates on their way up (R88) -/

theorem promise_gatesSafe : Promise GatesSafe fun _ => True where
  port same h := by unfold SameButPort at same; rw [same]; exact h
  start _ := trivial
  settle {u} _ := settle_of_round (P := GatesSafe) react_outputs_gatesSafe u
  elapse {s} h g used up := by
    rw [elapse_gate] at up ⊢
    exact h g used up
  reset s a b e g _ up := by
    rw [restart_gate] at up
    cases up

/-! ### Lane lamps (R93) -/

theorem tick_isRunning (t : Timer) : t.tick.isRunning = t.isRunning := by cases t <;> rfl

theorem elapse_lampsFormed {s : State} (h : s.LampsFormed) : s.elapse.LampsFormed := by
  intro g used
  have formed := h g used
  have closure : (s.elapse.ap g.ap).closure = (s.ap g.ap).closure := by rw [elapse_ap]; rfl
  have lamp : (s.elapse.gate g).lamp = (s.gate g).lamp := by rw [elapse_gate]; rfl
  have held : (s.elapse.gate g).held = (s.gate g).held := by rw [elapse_gate]; rfl
  have state : (s.elapse.gate g).state = (s.gate g).state := by rw [elapse_gate]; rfl
  have flash : (s.elapse.gate g).holdFlash.isRunning = (s.gate g).holdFlash.isRunning := by
    rw [elapse_gate]; exact tick_isRunning _
  dsimp only at formed ⊢
  rw [closure, lamp, held, state, flash]
  exact formed

theorem restart_lampsFormed (s : State) (a b e : Bool) : (s.restart a b e).LampsFormed := by
  intro g used
  dsimp only
  rw [restart_gate, restart_ap]
  exact if_neg (kind_ne_unused used)

theorem promise_lampsFormed : Promise LampsFormed fun _ => True where
  port same h := by unfold SameButPort at same; rw [same]; exact h
  start _ := trivial
  settle {u} _ := settle_of_round (P := LampsFormed) (fun s => outputs_lampsFormed s.react) u
  elapse := elapse_lampsFormed
  reset := restart_lampsFormed

/-! ### Retries (R85, R90) -/

theorem elapse_retryBounded {s : State} (h : s.RetryBounded) : s.elapse.RetryBounded := fun g => by
  rw [elapse_gate]
  exact (h g).tick

theorem restart_retryBounded (s : State) (a b e : Bool) : (s.restart a b e).RetryBounded := fun g => by
  rw [restart_gate]
  exact .reset _

end State

/-- Settles O9: each settling forms the gates' moves and the lamps afresh, and every change carries the retries. -/
theorem roadStaysRight : Obligations.RoadStaysRight :=
  ⟨fun _ _ => State.promise_gatesSafe.step_of_settle, fun _ _ => State.promise_lampsFormed.step_of_settle,
    fun _ _ => State.step_of_keeps (fun keeps => keeps.retries) State.elapse_retryBounded State.restart_retryBounded⟩

end Sys2Proof.Machine
end

section
/-!
PROOFS. The queue, a millisecond, and the reset values (entry 2; R26, R36, R49, R57, R74, R84, R85, R110, R111, R119, R128, R134,
R166, R167, R188).
-/

namespace Sys2Proof.Machine

open Sys2Proof

/-- Settles O1: the step reads the front of the queue. -/
theorem stepRunsFront : Obligations.StepRunsFront := by
  intro c rest s queue
  rw [step, queue]

/-- Settles O2: the step on an empty queue is `State.elapse`, read field by field. -/
theorem stepIdle : Obligations.StepIdle := by
  intro s queue nearer
  have idle : step s = .next s.elapse := by rw [step, queue]; rfl
  have ticked : nearer = Timer.tick := by funext t; cases t <;> rfl
  refine ⟨s.elapse, idle, ?_, fun x => ?_, fun g => ?_⟩
  · rw [ticked]
    have older : s.link.tick.age = if s.link.view = none then s.link.age else s.link.age + 1 := by
      cases h : s.link.view <;> simp [Link.tick, h]
    have offered : s.port.tick = if s.port.state = .working then { s.port with state := .ready, request := [] } else s.port := by
      simp only [Port.tick, beq_iff_eq]
    rw [← older, ← offered]
    rfl
  · rw [State.elapse_ap, ticked]
    rfl
  · rw [State.elapse_gate, ticked]
    rfl

namespace State

theorem restart_role (s : State) (role1 role0 estop : Bool) : (s.restart role1 role0 estop).role =
    if role1 = false ∧ role0 = true then .lead else if role1 = true ∧ role0 = false then .follow else .sole := by
  cases role1 <;> cases role0 <;> rfl

theorem restart_locks (s : State) (a b e : Bool) : (s.restart a b e).locks = Locks.reset (s.restart a b e).role := rfl

theorem restart_link (s : State) (a b e : Bool) : (s.restart a b e).link =
    Link.reset (s.restart a b e).role (s.restart a b e).items.link.linkTimeout.toNat := by
  simp only [restart, items, Settings.load]

end State

/-- Settles O4, block by block: each takes the reset value of its own definition. -/
theorem resetValues : Obligations.ResetValues := by
  intro role1 role0 estop s
  refine ⟨s.restart role1 role0 estop, rfl, State.restart_role s role1 role0 estop, ?_⟩
  have ap := State.restart_ap s role1 role0 estop
  have gate := State.restart_gate s role1 role0 estop
  have opening := State.restart_opening s role1 role0 estop
  have locks := State.restart_locks s role1 role0 estop
  have link := State.restart_link s role1 role0 estop
  have track : ∀ ch, (s.restart role1 role0 estop).track ch = .reset := fun ch => by cases ch <;> rfl
  have dirRec : ∀ d, (s.restart role1 role0 estop).dirRec d = .reset := fun d => by cases d <;> rfl
  rw [locks, link, opening]
  refine ⟨rfl, rfl, rfl, rfl, fun ch => ?_, rfl, rfl, rfl, rfl, rfl, rfl, rfl, rfl, rfl, rfl, rfl, rfl, rfl, rfl, rfl, fun x _ => ?_, fun g used => ?_, dirRec, rfl, rfl, rfl, rfl, rfl, rfl, rfl, rfl, rfl, rfl, rfl, rfl, rfl, rfl, rfl, rfl, rfl, rfl, rfl, rfl, rfl, rfl, rfl,
    fun twin => if_neg twin, fun lead => if_pos lead, rfl, rfl, rfl, rfl, rfl⟩
  · rw [track]
    exact ⟨rfl, rfl, rfl, rfl, rfl, rfl, rfl⟩
  · rw [ap]
    exact ⟨rfl, rfl, rfl, rfl, rfl, rfl, rfl⟩
  · rw [gate]
    exact ⟨rfl, rfl, rfl, rfl, if_neg (State.kind_ne_unused used), rfl, rfl, rfl, rfl⟩

/-- The state after power-on is that of a reset with the lines of a SOLE part. -/
theorem State.reset_eq_restart : State.reset = ({ State.reset with clock := 5 }).restart false false false := by
  decide +kernel

open State in
/-- Settles O6: the state after power-on is one that a reset leaves, and every promise stands through a reset. -/
theorem resetKeepsPromises : Obligations.ResetKeepsPromises := by
  unfold Obligations.ResetKeepsPromises
  rw [State.reset_eq_restart]
  generalize ({ State.reset with clock := 5 } : State) = s
  exact ⟨promise_permitExact.reset s _ _ _, restart_driveFollows s _ _ _, promise_seatedFollows.reset s _ _ _,
    promise_aspectsFormed.reset s _ _ _, promise_gatesSafe.reset s _ _ _, restart_lampsFormed s _ _ _,
    restart_retryBounded s _ _ _, promise_haltHeld.reset s _ _ _, restart_faultsRight s _ _ _, reset_bookNumbered rfl,
    reset_vesselsApart rfl, reset_closedMarked rfl, reset_followsEarlier rfl, reset_oneCall rfl, restart_groupExact s _ _ _,
    restart_groupPlaced s _ _ _, restart_credits s _ _ _, restart_linkOff s _ _ _, restart_followEmpty s _ _ _⟩

end Sys2Proof.Machine
end

section
/-!
PROOFS. The track channels (R37 to R39, R44, R52 to R54): the comparison of the counters and a track error, as what they keep and
what they raise.
-/

namespace Sys2Proof.Machine

open Sys2Proof

namespace State

/-! ### The position unit under the settling -/

@[simp] theorem wake_track (s : State) (ch : Channel) : s.wake.track ch = s.track ch := by
  cases ch <;> simp [track]

@[simp] theorem settle_track (s : State) (ch : Channel) : s.settle.track ch = s.track ch := by
  cases ch <;> simp [track]

@[simp] theorem wake_trackTol (s : State) : s.wake.trackTol = s.trackTol := by simp [trackTol, items]

theorem raise_pos (s : State) (f : FaultId) : (s.raise f).pos = s.pos := congrArg Kept.pos (raise_kept s f)

theorem raise_mask (s : State) (f g : FaultId) : ((s.raise f).fault g).mask = (s.fault g).mask :=
  fault_mask_of_kept (by rw [raise_kept]) g

theorem wake_mask (s : State) (f : FaultId) : (s.wake.fault f).mask = (s.fault f).mask :=
  fault_mask_of_kept (by rw [wake_kept]) f

theorem FaultsRight.unmasked {s : State} (h : s.FaultsRight) {f : FaultId} (cls : f.cls ≠ .warning) :
    (s.fault f).mask = false := (h f).1 cls

theorem setTrack_kept (s : State) (ch : Channel) (t : Track) :
    (s.setTrack ch t).kept = { s.kept with pos := (s.setTrack ch t).pos } := by
  cases ch <;> rfl

@[simp] theorem wake_setTrack_pos (s : State) (ch : Channel) (t : Track) :
    (s.wake.setTrack ch t).pos = (s.setTrack ch t).pos := by
  cases ch <;> simp [setTrack]

theorem setTrack_fault (s : State) (ch : Channel) (t : Track) (f : FaultId) : (s.setTrack ch t).fault f = s.fault f := by
  cases ch <;> rfl

theorem setTrack_trackTol (s : State) (ch : Channel) (t : Track) : (s.setTrack ch t).trackTol = s.trackTol := by
  cases ch <;> rfl

/-- Of what the reactions keep, an event that writes the position unit alone changes that unit alone. -/
theorem settle_kept_of_pos {s u : State} (h : u.kept = { s.wake.kept with pos := u.pos }) :
    u.settle.kept = { s.kept with pos := u.pos } := by
  rw [settle_kept, h, wake_kept]

/-! ### A condition that is raised, after the settling (R168, R173) -/

theorem raise_settle_latched (s : State) (f : FaultId) (h : (s.fault f).mask = false) :
    (s.raise f).settle.latched f = true :=
  (settle_haltStays _).latched f (raise_latched s f h)

theorem raise_settle_halts (s : State) (f : FaultId) (h : (s.fault f).mask = false) (cls : f.cls = .halt) :
    (s.raise f).settle.faults.halted = true :=
  ((settle_haltStays _).entry (raise_halts s f h cls)).1

/-! ### The comparison of the counters (R52) -/

/-- The counters are out of tolerance while both channels hold a position. -/
def Disagree (s : State) : Prop :=
  s.pos.p.holds = true ∧ s.pos.c.holds = true ∧ s.trackTol < |s.pos.p.counter - s.pos.c.counter|

/-- Both channels without reference and first mark. -/
def bothUnref (s : State) : State := { s with pos := { s.pos with p := s.pos.p.unref, c := s.pos.c.unref } }

theorem compareTracks_of_agree {s : State} (h : ¬s.Disagree) : s.compareTracks = s :=
  compareTracks_agree s (by rwa [Int.natCast_natAbs])

theorem compareTracks_of_disagree {s : State} (h : s.Disagree) : s.compareTracks = s.bothUnref.raise .trackDisagree := by
  obtain ⟨p, c, apart⟩ := h
  exact compareTracks_differ s p c (by rwa [Int.natCast_natAbs])

theorem compareTracks_kept (s : State) : s.compareTracks.kept = { s.kept with pos := s.compareTracks.pos } := by
  by_cases h : s.Disagree
  · rw [compareTracks_of_disagree h, raise_kept, raise_pos]
    rfl
  · rw [compareTracks_of_agree h]
    rfl

end State

/-! ### TRACK_COUNT (R37, R44) -/

theorem wrap32_succ {n : Int} (low : -2147483648 ≤ n) (high : n ≤ 2147483647) :
    wrap32 (n + 1) = if n = 2147483647 then -2147483648 else n + 1 := by
  unfold wrap32
  split <;> omega

theorem wrap32_pred {n : Int} (low : -2147483648 ≤ n) (high : n ≤ 2147483647) :
    wrap32 (n - 1) = if n = -2147483648 then 2147483647 else n - 1 := by
  unfold wrap32
  split <;> omega

theorem exec_trackCount (s : State) (ch : Channel) (way : Way) : exec (.trackCount ch way) s =
    .next (if (s.track ch).sensorFault then s.wake
      else (s.wake.setTrack ch ((s.track ch).count way)).compareTracks).settle := by
  rw [← s.wake_track ch]
  rfl

/-- The channel after a counted change, field by field (R37, R44). -/
theorem Track.count_eq (k : Track) (way : Way) (low : -2147483648 ≤ k.counter) (high : k.counter ≤ 2147483647) :
    k.count way =
      let turned : Bool := k.travel = some .up ∧ way = .down ∨ k.travel = some .down ∧ way = .up
      { k with
          counter :=
            match way with
            | .up => if k.counter = 2147483647 then -2147483648 else k.counter + 1
            | .down => if k.counter = -2147483648 then 2147483647 else k.counter - 1,
          travel := some way, pair := (match way with | .up => k.pair + 1 | .down => k.pair - 1),
          firstMark := if turned then none else k.firstMark,
          ref := if turned = true ∧ k.ref = .oneMark then .unreferenced else k.ref } := by
  obtain ⟨counter, travel, ref⟩ := k
  cases way with
  | up =>
    have next := wrap32_succ low high
    rcases travel with _ | _ | _ <;> simp_all [Track.count]
  | down =>
    have next := wrap32_pred low high
    rcases travel with _ | _ | _ <;> simp_all [Track.count]

/-- A channel written at an event, the counters then compared (R52). -/
theorem State.compared_after_setTrack (s : State) (ch : Channel) (k : Track) :
    let t := (s.wake.setTrack ch k).compareTracks.settle
    let u := s.setTrack ch k
    t.kept = { s.kept with pos := t.pos } ∧
      if u.pos.p.holds = true ∧ u.pos.c.holds = true ∧ s.trackTol < |u.pos.p.counter - u.pos.c.counter| then
        t.pos = { u.pos with p := { u.pos.p with ref := .unreferenced, firstMark := none },
                             c := { u.pos.c with ref := .unreferenced, firstMark := none } } ∧
        ((s.fault .trackDisagree).mask = false → t.latched .trackDisagree = true ∧ t.faults.halted = true)
      else t.pos = u.pos := by
  intro t u
  have kept : ((s.wake.setTrack ch k).compareTracks).kept =
      { s.wake.kept with pos := (s.wake.setTrack ch k).compareTracks.pos } := by
    rw [State.compareTracks_kept, State.setTrack_kept]
  have disagree_iff : (s.wake.setTrack ch k).Disagree ↔
      u.pos.p.holds = true ∧ u.pos.c.holds = true ∧ s.trackTol < |u.pos.p.counter - u.pos.c.counter| := by
    rw [State.Disagree, State.setTrack_trackTol, State.wake_trackTol, State.wake_setTrack_pos]
  refine ⟨by rw [State.settle_kept_of_pos kept, State.settle_pos], ?_⟩
  split
  next apart =>
    have taken : t = ((s.wake.setTrack ch k).bothUnref.raise .trackDisagree).settle := by
      rw [← State.compareTracks_of_disagree (disagree_iff.mpr apart)]
    rw [taken]
    refine ⟨?_, fun mask => ?_⟩
    · rw [State.settle_pos, State.raise_pos, State.bothUnref, State.wake_setTrack_pos]
      rfl
    · have unmasked : ((s.wake.setTrack ch k).bothUnref.fault .trackDisagree).mask = false :=
        (congrArg FaultRec.mask (State.setTrack_fault s.wake ch k _)).trans ((s.wake_mask _).trans mask)
      exact ⟨State.raise_settle_latched _ _ unmasked, State.raise_settle_halts _ _ unmasked rfl⟩
  next near =>
    have taken : t = (s.wake.setTrack ch k).settle := by
      rw [← State.compareTracks_of_agree (mt disagree_iff.mp near)]
    rw [taken, State.settle_pos, State.wake_setTrack_pos]

/-- Settles O18: the count is that of `Track.count_eq`, and the comparison is the one operation after it (R37, R38, R52). -/
theorem trackCounts : Obligations.TrackCounts := by
  intro s ch way
  refine ⟨fun fault => by rw [exec_trackCount, if_pos fault], fun noFault low high => ?_⟩
  rw [exec_trackCount, if_neg (by simp [noFault]), Track.count_eq _ _ low high]
  exact ⟨_, rfl, State.compared_after_setTrack s ch _⟩

/-! ### The windows and the sensor fault line (R38, R39) -/

/-- Settles O20: each of the two events writes its channel alone. -/
theorem trackWindows : Obligations.TrackWindows := by
  intro s ch
  have writes (k : Track) : (s.wake.setTrack ch k).settle.kept = { s.kept with pos := (s.setTrack ch k).pos } := by
    rw [State.settle_kept, State.setTrack_kept, State.wake_kept, State.wake_setTrack_pos]
  have starts (pair : Fin 4) : exec (.sensorFaultInactive ch pair) s =
      .next (if (s.wake.track ch).sensorFault then
        s.wake.setTrack ch { s.wake.track ch with sensorFault := false, pair := pair } else s.wake).settle := rfl
  have ends : exec (.speedWindowEnd ch) s = .next (s.wake.setTrack ch (s.wake.track ch).windowEnd).settle := rfl
  rw [State.wake_track] at ends
  refine ⟨fun pair fault => ⟨_, ?_, writes _⟩, _, ends, writes _⟩
  rw [starts, State.wake_track, if_pos fault]

/-! ### A track error (R38, R53, R54) -/

/-- The fault of a channel's track error (R38). -/
def trackFault : Channel → FaultId
  | .p => .trackErrorP
  | .c => .trackErrorC

namespace State

/-- A track error on P while it is the source and C is not failed (R53). -/
def switches (s : State) (ch : Channel) : Bool := ch = .p ∧ s.pos.source = .p ∧ s.pos.c.failed = false

/-- A track error before its faults are raised: the channel failed, both without reference where both are failed, and a source
P handed to C with the creep flag (R38, R53, R54). -/
def failTrack (s : State) (ch : Channel) : State :=
  let t := (s.setTrack ch { (s.track ch).unref with failed := true }).losePosition
  if s.switches ch then ({ t with pos := { t.pos with source := .c } }).setCreep true else t

theorem trackError_eq (s : State) (ch : Channel) : s.trackError ch =
    if (s.failTrack ch).pos.p.failed && (s.failTrack ch).pos.c.failed then
      ((s.failTrack ch).raise (trackFault ch)).raise .noPosition
    else (s.failTrack ch).raise (trackFault ch) := by
  have same : s.failTrack ch =
      let t := (s.setTrack ch { (s.track ch).unref with failed := true }).losePosition
      if ch == .p && s.pos.source == .p && !s.pos.c.failed then
        ({ t with pos := { t.pos with source := .c } }).setCreep true
      else t := by
    simp only [failTrack, switches, decide_eq_true_eq, Bool.and_eq_true, beq_iff_eq, Bool.not_eq_true', and_assoc]
  rw [← raise_pos (s.failTrack ch) (trackFault ch), same]
  cases ch <;> rfl

theorem losePosition_frame (s : State) : s.losePosition = { s with pos := s.losePosition.pos } := by
  rw [losePosition_eq]
  split <;> rfl

/-- A track error writes the position unit and the creep flag (R38, R53, R54). -/
theorem failTrack_frame (s : State) (ch : Channel) :
    let t := (s.setTrack ch { (s.track ch).unref with failed := true }).losePosition
    s.failTrack ch =
      { s with pos := { t.pos with source := if s.switches ch then .c else s.pos.source },
               motion := { s.motion with creep := s.motion.creep || s.switches ch } } := by
  have source : (s.setTrack ch { (s.track ch).unref with failed := true }).losePosition.pos.source = s.pos.source := by
    rw [losePosition_eq]
    cases ch <;> (split <;> rfl)
  have frame : (s.setTrack ch { (s.track ch).unref with failed := true }).losePosition =
      { s with pos := (s.setTrack ch { (s.track ch).unref with failed := true }).losePosition.pos } := by
    rw [losePosition_frame]
    cases ch <;> rfl
  rw [failTrack]
  revert source frame
  generalize (s.setTrack ch { (s.track ch).unref with failed := true }).losePosition = t
  intro source frame
  split
  next switched => rw [switched, frame, Bool.or_true]; rfl
  next stays => rw [Bool.eq_false_iff.mpr stays, ← source, Bool.or_false]; exact frame

end State

/-- What a track error leaves after the settling (R38, R53, R54). -/
theorem State.trackError_settled (s : State) (ch : Channel) :
    (s.trackError ch).settle.kept = (s.failTrack ch).kept ∧
      (s.FaultsRight →
        (s.trackError ch).settle.latched (trackFault ch) = true ∧
        (ch = .p → (s.trackError ch).settle.faults.halted = true) ∧
        ((s.failTrack ch).pos.p.failed = true ∧ (s.failTrack ch).pos.c.failed = true →
          (s.trackError ch).settle.latched .noPosition = true ∧ (s.trackError ch).settle.faults.halted = true)) := by
  have faults : (s.failTrack ch).faults = s.faults := by rw [State.failTrack_frame]
  have unmasked (right : s.FaultsRight) (f : FaultId) (cls : f.cls ≠ .warning) : ((s.failTrack ch).fault f).mask = false := by
    rw [State.fault, faults]
    exact right.unmasked cls
  have cls : (trackFault ch).cls ≠ .warning := by cases ch <;> decide
  have first (right : s.FaultsRight) := State.raise_latched _ _ (unmasked right (trackFault ch) cls)
  have halts (right : s.FaultsRight) (p : ch = .p) : ((s.failTrack ch).raise (trackFault ch)).faults.halted = true :=
    State.raise_halts _ _ (unmasked right _ cls) (by rw [p]; rfl)
  rw [State.settle_kept, State.trackError_eq]
  split
  next both =>
    have second (right : s.FaultsRight) : (((s.failTrack ch).raise (trackFault ch)).fault .noPosition).mask = false :=
      (State.raise_mask _ _ _).trans (unmasked right _ (by decide))
    have stays := (State.Path.raise_haltStays ((s.failTrack ch).raise (trackFault ch)) .noPosition).trans (State.settle_haltStays _)
    refine ⟨by rw [State.raise_kept, State.raise_kept], fun right => ⟨stays.latched _ (first right), fun p => ?_, fun _ => ?_⟩⟩
    · exact (stays.entry (halts right p)).1
    · exact ⟨State.raise_settle_latched _ _ (second right), State.raise_settle_halts _ _ (second right) rfl⟩
  next one =>
    have stays := State.settle_haltStays ((s.failTrack ch).raise (trackFault ch))
    refine ⟨State.raise_kept _ _, fun right => ⟨stays.latched _ (first right), fun p => (stays.entry (halts right p)).1, ?_⟩⟩
    intro both
    exact absurd (Bool.and_eq_true_iff.mpr both) one

/-- A channel that has failed, as a line event and an illegal transition write it. -/
def Track.fallen (k : Track) : Track := { k with ref := .unreferenced, firstMark := none, failed := true }

theorem State.setTrack_failTrack (s : State) (ch : Channel) (k : Track) (failed : k.failed = (s.track ch).failed) :
    ((s.setTrack ch k).failTrack ch) =
      let u := (s.setTrack ch k.fallen).losePosition
      { s with pos := { u.pos with source := if s.switches ch then .c else s.pos.source },
               motion := { s.motion with creep := s.motion.creep || s.switches ch } } := by
  rw [State.failTrack_frame, State.setTrack_track]
  cases ch <;> rfl

theorem State.losePosition_pos_congr {s t : State} (h : s.pos = t.pos) : s.losePosition.pos = t.losePosition.pos := by
  rw [State.losePosition_eq, State.losePosition_eq, h]
  split <;> simp only [h]

/-- Settles O19: both events fall into `State.trackError`, the channel's own line and pair written before it. -/
theorem trackErrors : Obligations.TrackErrors := by
  intro s ch c noFault event
  let k : Track := { s.track ch with
    sensorFault := decide (c = Instr.sensorFaultActive ch),
    pair := if c = Instr.illegalTransition ch then (s.track ch).pair + 2 else (s.track ch).pair }
  have run : exec c s = .next ((s.wake.setTrack ch k).trackError ch).settle := by
    have awake : ((s.wake).track ch).sensorFault = false := by rw [State.wake_track, noFault]
    rcases event with rfl | rfl
    · have hit : exec (.illegalTransition ch) s = .next (if (s.wake.track ch).sensorFault then s.wake
          else (s.wake.setTrack ch { s.wake.track ch with pair := (s.wake.track ch).pair + 2 }).trackError ch).settle := rfl
      rw [hit, awake, State.wake_track]
      simp only [Bool.false_eq_true, if_false, if_true, k, reduceCtorEq, decide_false, noFault]
    · have hit : exec (.sensorFaultActive ch) s = .next (if (s.wake.track ch).sensorFault then s.wake
          else (s.wake.setTrack ch { s.wake.track ch with sensorFault := true }).trackError ch).settle := rfl
      rw [hit, awake, State.wake_track]
      simp [k]
  have lost : (s.wake.setTrack ch k.fallen).losePosition.pos = (s.setTrack ch k.fallen).losePosition.pos :=
    State.losePosition_pos_congr (s.wake_setTrack_pos ch _)
  have switches : s.wake.switches ch = s.switches ch := by simp only [State.switches, State.wake_pos]
  have fails := State.setTrack_failTrack s.wake ch k (by rw [State.wake_track])
  have right (h : s.FaultsRight) : (s.wake.setTrack ch k).FaultsRight :=
    (State.Path.setTrack (full := True) s.wake ch k).faultsRight (State.faultsRight_promise.wake h)
  obtain ⟨kept, raised⟩ := State.trackError_settled (s.wake.setTrack ch k) ch
  dsimp only at fails
  rw [lost, switches, State.wake_pos, State.losePosition_eq] at fails
  rw [fails] at kept raised
  refine ⟨_, run, kept.trans ?_, fun h => ?_⟩
  · rw [← State.wake_kept s, ← State.wake_creep s]
    rfl
  · obtain ⟨latched, halts, both⟩ := raised (right h)
    refine ⟨by cases ch <;> exact latched, halts, both⟩

end Sys2Proof.Machine
end

section
/-!
PROOFS. The distance-coded marks (R40 to R48, R55): the decoding of a gap, and what a mark event does to its channel.
-/

namespace Sys2Proof.Machine

open Sys2Proof

/-! ### The decoding of a gap (R40, R41) -/

theorem decodeGap_eq_none {g : Int} (apart : ∀ j : ℕ, j < 24 → 8 < |g - (1000 + 40 * j)| ∧ 8 < |g - (3000 - 40 * j)|) :
    decodeGap g = none := by
  have typeA : ((List.range 24).find? fun (j : Nat) => decide ((g - (1000 + 40 * (j : Int))).natAbs ≤ 8)) = none :=
    List.find?_eq_none.mpr fun j hj => by
      have far := (apart j (List.mem_range.mp hj)).1
      rw [← Int.natCast_natAbs] at far
      simp only [decide_eq_true_eq]
      omega
  have typeB : ((List.range 24).find? fun (j : Nat) => decide ((g - (3000 - 40 * (j : Int))).natAbs ≤ 8)) = none :=
    List.find?_eq_none.mpr fun j hj => by
      have far := (apart j (List.mem_range.mp hj)).2
      rw [← Int.natCast_natAbs] at far
      simp only [decide_eq_true_eq]
      omega
  rw [decodeGap, typeA, typeB]
  rfl

/-- A test that one number alone of the range passes finds that number. -/
theorem find?_range_of_unique {n j : ℕ} {p : ℕ → Bool} (hj : j < n) (pass : p j = true) (only : ∀ i < n, p i = true → i = j) :
    (List.range n).find? p = some j := by
  cases found : (List.range n).find? p with
  | none => exact absurd pass (List.find?_eq_none.mp found j (List.mem_range.mpr hj))
  | some i => rw [only i (List.mem_range.mp (List.mem_of_find?_eq_some found)) (List.find?_some found)]

/-- A gap within 8 counts of a coded one decodes to it, since the coded gaps lie 40 counts apart and more (R41). -/
theorem decodeGap_of_near {g : Int} {j : ℕ} {typeA : Bool} (hj : j < 24)
    (near : |g - (if typeA then 1000 + 40 * j else 3000 - 40 * j : ℕ)| ≤ 8) : decodeGap g = some (typeA, j) := by
  rw [← Int.natCast_natAbs] at near
  cases typeA with
  | true =>
    rw [if_pos rfl] at near
    have found : ((List.range 24).find? fun (j : Nat) => decide ((g - (1000 + 40 * (j : Int))).natAbs ≤ 8)) = some j :=
      find?_range_of_unique hj (by simp only [decide_eq_true_eq]; omega) fun i hi pass => by
        simp only [decide_eq_true_eq] at pass
        omega
    rw [decodeGap, found]
  | false =>
    rw [if_neg (by simp)] at near
    have typeA : ((List.range 24).find? fun (j : Nat) => decide ((g - (1000 + 40 * (j : Int))).natAbs ≤ 8)) = none :=
      List.find?_eq_none.mpr fun i hi => by
        have := List.mem_range.mp hi
        simp only [decide_eq_true_eq]
        omega
    have found : ((List.range 24).find? fun (j : Nat) => decide ((g - (3000 - 40 * (j : Int))).natAbs ≤ 8)) = some j :=
      find?_range_of_unique hj (by simp only [decide_eq_true_eq]; omega) fun i hi pass => by
        simp only [decide_eq_true_eq] at pass
        omega
    rw [decodeGap, typeA, found]
    rfl

theorem nearMark_iff (count : Int) : nearMark count = true ↔
    (∃ j : ℕ, j < 25 ∧ |count - 4000 * j| ≤ 16) ∨ ∃ j : ℕ, j < 24 ∧ |count - (4000 * j + 1000 + 40 * j)| ≤ 16 := by
  have abs_le (x : Int) : x.natAbs ≤ 16 ↔ |x| ≤ 16 := by
    rw [← Int.natCast_natAbs]
    omega
  simp only [nearMark, Bool.or_eq_true, List.any_eq_true, List.mem_range, decide_eq_true_eq, evenMark, oddMark, abs_le]

/-! ### The source and the comparison -/

namespace State

/-- With P failed where C is the source, the source stays (R55). -/
theorem fixSource_of_failed {s : State} (h : s.pos.source = .c → s.pos.p.failed = true) : s.fixSource = s := by
  unfold fixSource
  rw [if_neg]
  simpa using h

/-- Writing a channel anew with its own failed flag leaves the source to stand (R55). -/
theorem setTrack_fixSource {s : State} (h : s.pos.source = .c → s.pos.p.failed = true) (ch : Channel) {k : Track}
    (failed : k.failed = (s.track ch).failed) : (s.setTrack ch k).fixSource = s.setTrack ch k := by
  apply fixSource_of_failed
  cases ch with
  | p => exact fun c => failed.trans (h c)
  | c => exact h

/-- The comparison takes the references of both channels or leaves the position unit as it is (R52). -/
theorem compareTracks_pos (s : State) : s.compareTracks.pos = s.pos ∨ s.Disagree ∧ s.compareTracks.pos = s.bothUnref.pos := by
  by_cases h : s.Disagree
  · rw [compareTracks_of_disagree h, raise_pos]
    exact .inr ⟨h, rfl⟩
  · rw [compareTracks_of_agree h]
    exact .inl rfl

end State

/-! ### MARK_EVENT -/

section

variable {s : State} {ch : Channel} {way : Way}

theorem execMarkEvent_eq (s : State) (ch : Channel) : exec (.markEvent ch) s =
    .next (if (s.wake.track ch).sensorFault then s.wake
      else
        match (s.wake.track ch).travel with
        | none => s.wake
        | some way =>
          let r := (s.wake.track ch).mark way
          let u := (s.wake.setTrack ch r.1).fixSource
          if r.2 then u.raise .referenceMismatch
          else if r.1.counter == (s.wake.track ch).counter && r.1.holds == (s.wake.track ch).holds then u
          else u.compareTracks).settle := rfl

theorem exec_markEvent_ignored (h : (s.track ch).sensorFault = true ∨ (s.track ch).travel = none) :
    exec (.markEvent ch) s = .next s.wake.settle := by
  have run := execMarkEvent_eq s ch
  rw [State.wake_track] at run
  rw [run]
  rcases h with fault | none_
  · rw [if_pos fault]
  · rw [none_]
    simp

theorem exec_markEvent (noFault : (s.track ch).sensorFault = false) (moving : (s.track ch).travel = some way) :
    exec (.markEvent ch) s =
      .next (let r := (s.track ch).mark way
        let u := (s.wake.setTrack ch r.1).fixSource
        if r.2 then u.raise .referenceMismatch
        else if r.1.counter == (s.track ch).counter && r.1.holds == (s.track ch).holds then u
        else u.compareTracks).settle := by
  have run := execMarkEvent_eq s ch
  rw [State.wake_track, noFault, moving] at run
  exact run

variable (noFault : (s.track ch).sensorFault = false) (moving : (s.track ch).travel = some way)
  (source : s.pos.source = .c → s.pos.p.failed = true) {k : Track}
include noFault moving source

/-- A mark that sets no counter and gives no position writes its channel alone. -/
theorem markEvent_writes (marked : (s.track ch).mark way = (k, false)) (counter : k.counter = (s.track ch).counter)
    (holds : k.holds = (s.track ch).holds) (failed : k.failed = (s.track ch).failed) :
    ∃ t, exec (.markEvent ch) s = .next t ∧ t.kept = { s.kept with pos := (s.setTrack ch k).pos } := by
  have source' : s.wake.pos.source = .c → s.wake.pos.p.failed = true := by rwa [State.wake_pos]
  refine ⟨_, exec_markEvent noFault moving, ?_⟩
  rw [marked]
  simp only [Bool.false_eq_true, if_false, counter, holds, beq_self_eq_true, Bool.and_self, if_true]
  rw [State.setTrack_fixSource source' ch (by rw [failed, State.wake_track]), State.settle_kept, State.setTrack_kept,
    State.wake_kept, State.wake_setTrack_pos]

/-- A mark that finds the channel more than 16 counts off takes its reference and brings REFERENCE_MISMATCH (R47, R48). -/
theorem markEvent_mismatch (marked : (s.track ch).mark way = ((s.track ch).unref, true)) :
    ∃ t, exec (.markEvent ch) s = .next t ∧
      t.kept = { s.kept with pos := (s.setTrack ch { s.track ch with ref := .unreferenced, firstMark := none }).pos } ∧
      ((s.fault .referenceMismatch).mask = false → t.latched .referenceMismatch = true ∧ t.faults.halted = true) := by
  have source' : s.wake.pos.source = .c → s.wake.pos.p.failed = true := by rwa [State.wake_pos]
  refine ⟨_, exec_markEvent noFault moving, ?_⟩
  rw [marked]
  simp only [if_true]
  rw [State.setTrack_fixSource source' ch (by rw [State.wake_track]; rfl)]
  refine ⟨?_, fun mask => ?_⟩
  · rw [State.settle_kept, State.raise_kept, State.setTrack_kept, State.wake_kept, State.wake_setTrack_pos]
    rfl
  · have unmasked : ((s.wake.setTrack ch (s.track ch).unref).fault .referenceMismatch).mask = false :=
      (congrArg FaultRec.mask (State.setTrack_fault s.wake ch _ _)).trans ((s.wake_mask _).trans mask)
    exact ⟨State.raise_settle_latched _ _ unmasked, State.raise_settle_halts _ _ unmasked rfl⟩

end

/-! ### What a mark is to its channel (R43, R45 to R48) -/

namespace Track

variable {k : Track} {way : Way} {m : FirstMark}

/-- The gap of a second mark, counted in its direction (R41). -/
def gapFrom (k : Track) (way : Way) (m : FirstMark) : Int :=
  if way = .up then k.counter - m.count else m.count - k.counter

theorem mark_first (h : k.ref = .unreferenced) :
    k.mark way = ({ k with ref := .oneMark, firstMark := some ⟨k.counter, way⟩ }, false) := by
  simp only [Track.mark, h]

theorem mark_preset_first (h : k.ref = .preset) (first : k.firstMark = none) :
    k.mark way = ({ k with firstMark := some ⟨k.counter, way⟩ }, false) := by
  simp only [Track.mark, h, first]

theorem mark_invalid (h : k.ref = .oneMark ∨ k.ref = .preset) (first : k.firstMark = some m)
    (invalid : decodeGap (k.gapFrom way m) = none) : k.mark way = ({ k with firstMark := some ⟨k.counter, way⟩ }, false) := by
  cases way <;> simp only [gapFrom, reduceCtorEq, if_true, if_false] at invalid <;>
    rcases h with h | h <;> simp only [Track.mark, h, first, invalid]

theorem mark_near (h : k.ref = .referenced) (near : nearMark k.counter = true) : k.mark way = (k, false) := by
  simp only [Track.mark, h, near, if_true]

theorem mark_far (h : k.ref = .referenced) (far : nearMark k.counter = false) : k.mark way = (k.unref, true) := by
  simp only [Track.mark, h, far, Bool.false_eq_true, if_false]

end Track

theorem State.setTrack_self (s : State) (ch : Channel) : s.setTrack ch (s.track ch) = s := by
  cases ch <;> rfl

/-- Settles O21, by the reference of the channel. -/
theorem marksTaken : Obligations.MarksTaken := by
  intro s ch
  refine ⟨exec_markEvent_ignored, fun way noFault moving source => ⟨fun h => ?_, fun h first => ?_, fun m h first apart => ?_, fun h => ⟨fun near => ?_, fun even odd => ?_⟩⟩⟩
  · exact markEvent_writes noFault moving source (Track.mark_first h) rfl (by rw [Track.holds, Track.holds, h]; rfl) rfl
  · exact markEvent_writes noFault moving source (Track.mark_preset_first h first) rfl rfl rfl
  · exact markEvent_writes noFault moving source (Track.mark_invalid h first (decodeGap_eq_none apart)) rfl rfl rfl
  · obtain ⟨t, run, kept⟩ :=
      markEvent_writes noFault moving source (Track.mark_near h ((nearMark_iff _).mpr near)) rfl rfl rfl
    rw [State.setTrack_self] at kept
    exact ⟨t, run, kept⟩
  · have far : nearMark (s.track ch).counter = false := by
      rw [← Bool.not_eq_true, nearMark_iff]
      push Not
      exact ⟨even, odd⟩
    exact markEvent_mismatch noFault moving source (Track.mark_far h far)

/-! ### A valid pair (R46, R47, R55) -/

/-- The channel set to its decoded position by a valid pair (R46, R47). -/
def Track.decoded (k : Track) (at_ : Int) : Track :=
  { k.setCounter at_ with
      ref := .referenced, firstMark := none, failed := if k.ref = .oneMark then false else k.failed }

namespace Track

variable {k : Track} {way : Way} {m : FirstMark} {typeA : Bool} {j : ℕ}

theorem mark_pair (first : k.firstMark = some m) (valid : decodeGap (k.gapFrom way m) = some (typeA, j))
    (h : k.ref = .oneMark ∨ k.ref = .preset ∧ |k.counter - decodedPosition way typeA j| ≤ 16) :
    k.mark way = (k.decoded (decodedPosition way typeA j), false) := by
  rcases h with h | ⟨h, near⟩
  · cases way <;> simp only [gapFrom, reduceCtorEq, if_true, if_false] at valid <;>
      simp only [Track.mark, Track.decoded, h, first, valid, if_true]
  · have near' : (k.counter - decodedPosition way typeA j).natAbs ≤ 16 := by
      rw [← Int.natCast_natAbs] at near
      omega
    cases way <;> simp only [gapFrom, reduceCtorEq, if_true, if_false] at valid <;>
      simp only [Track.mark, Track.decoded, h, first, valid, near', if_true, reduceCtorEq, if_false, Track.setCounter]

theorem mark_off (h : k.ref = .preset) (first : k.firstMark = some m)
    (valid : decodeGap (k.gapFrom way m) = some (typeA, j)) (off : 16 < |k.counter - decodedPosition way typeA j|) :
    k.mark way = (k.unref, true) := by
  have off' : ¬(k.counter - decodedPosition way typeA j).natAbs ≤ 16 := by
    rw [← Int.natCast_natAbs] at off
    omega
  cases way <;> simp only [gapFrom, reduceCtorEq, if_true, if_false] at valid <;>
    simp only [Track.mark, h, first, valid, off', if_false]

end Track

namespace State

/-- The position unit where the counters are compared or not, channel by channel: the counters, the windows and the failed flags
stay, and the references stay or are both taken (R52). -/
theorem compared_track {s u : State} (h : u = s ∨ u = s.compareTracks) (d : Channel) :
    (u.track d).counter = (s.track d).counter ∧ (u.track d).windowStart = (s.track d).windowStart ∧
      (u.track d).failed = (s.track d).failed ∧ ((s.track d).firstMark = none → (u.track d).firstMark = none) ∧
      ((u.track d).ref = (s.track d).ref ∨ s.Disagree ∧ (u.track d).ref = .unreferenced) ∧
      u.pos.source = s.pos.source ∧ u.kept = { s.kept with pos := u.pos } := by
  rcases h with rfl | rfl
  · exact ⟨rfl, rfl, rfl, id, .inl rfl, rfl, rfl⟩
  · have kept := s.compareTracks_kept
    rcases s.compareTracks_pos with same | ⟨apart, taken⟩
    · cases d <;> simp [track, same, kept]
    · cases d <;> simp [track, taken, bothUnref, Track.unref, apart, kept]

/-- The position unit after a channel is written and the source returned to P where P's failed flag is off (R55). -/
theorem fixSource_track (s : State) (d : Channel) : s.fixSource.track d = s.track d := by
  rw [fixSource_frame]
  cases d <;> rfl

theorem setTrack_other {s : State} {ch d : Channel} (h : d ≠ ch) (k : Track) : (s.setTrack ch k).track d = s.track d := by
  cases ch <;> cases d <;> first | rfl | exact absurd rfl h

theorem fixSource_kept (s : State) : s.fixSource.kept = { s.kept with pos := s.fixSource.pos } := by
  rw [fixSource_frame]
  rfl

theorem fixSource_source (s : State) :
    s.fixSource.pos.source = if s.pos.source = .c ∧ s.pos.p.failed = false then .p else s.pos.source := by
  simp only [fixSource, Bool.and_eq_true, beq_iff_eq, Bool.not_eq_true']
  split <;> rfl

end State

/-- A pair decoded to a position sets its channel there, and the counters are compared where that moved the counter or gave the
channel a position (R46, R47, R52, R55). -/
theorem markEvent_decoded {s : State} {ch : Channel} {way : Way} {at_ : Int} (noFault : (s.track ch).sensorFault = false)
    (moving : (s.track ch).travel = some way) (source : s.pos.source = .c → s.pos.p.failed = true)
    (marked : (s.track ch).mark way = ((s.track ch).decoded at_, false)) :
    ∃ t, exec (.markEvent ch) s = .next t ∧ t.kept = { s.kept with pos := t.pos } ∧
      (t.track ch).counter = at_ ∧ (t.track ch).windowStart = (s.track ch).windowStart + (at_ - (s.track ch).counter) ∧
      (t.track ch).firstMark = none ∧
      (t.track ch).failed = (if (s.track ch).ref = .oneMark then false else (s.track ch).failed) ∧
      ((t.track ch).ref = .referenced ∨
        (t.track ch).ref = .unreferenced ∧ s.trackTol < |t.pos.p.counter - t.pos.c.counter|) ∧
      (∀ d, d ≠ ch → (t.track d).counter = (s.track d).counter) ∧
      t.pos.source = (if s.pos.source = .c ∧ ch = .p ∧ (s.track ch).ref = .oneMark then .p else s.pos.source) := by
  let v := (s.wake.setTrack ch ((s.track ch).decoded at_)).fixSource
  have own : v.track ch = (s.track ch).decoded at_ := by rw [State.fixSource_track, State.setTrack_track]
  have other (d : Channel) (h : d ≠ ch) : v.track d = s.track d := by
    rw [State.fixSource_track, State.setTrack_other h, State.wake_track]
  have src : v.pos.source = if s.pos.source = .c ∧ ch = .p ∧ (s.track ch).ref = .oneMark then .p else s.pos.source := by
    rw [State.fixSource_source, State.wake_setTrack_pos]
    cases ch with
    | p =>
      by_cases c : s.pos.source = .c
      · simp [State.setTrack, Track.decoded, c, State.track, source c]
      · simp [State.setTrack, c]
    | c =>
      by_cases c : s.pos.source = .c
      · simp [State.setTrack, c, source c]
      · simp [State.setTrack, c]
  have tol : v.trackTol = s.trackTol := by
    rw [← s.wake_trackTol, ← s.wake.setTrack_trackTol ch ((s.track ch).decoded at_), State.trackTol, State.trackTol,
      State.items, State.items, ← State.kept_settings, State.fixSource_kept]
    rfl
  obtain ⟨u, run, compared⟩ : ∃ u, exec (.markEvent ch) s = .next u.settle ∧ (u = v ∨ u = v.compareTracks) := by
    have run := exec_markEvent noFault moving
    rw [marked] at run
    simp only [Bool.false_eq_true, if_false] at run
    split at run
    · exact ⟨_, run, .inl rfl⟩
    · exact ⟨_, run, .inr rfl⟩
  obtain ⟨counter, window, failed, first, ref, source', kept⟩ := State.compared_track compared ch
  have counters : |v.pos.p.counter - v.pos.c.counter| = |u.pos.p.counter - u.pos.c.counter| := by
    have p : u.pos.p.counter = v.pos.p.counter := (State.compared_track compared .p).1
    have c : u.pos.c.counter = v.pos.c.counter := (State.compared_track compared .c).1
    rw [p, c]
  rw [own] at counter window failed first ref
  refine ⟨_, run, ?_, ?_⟩
  · rw [State.settle_kept, State.settle_pos, kept, State.fixSource_kept, State.setTrack_kept, State.wake_kept]
  · rw [State.settle_track, State.settle_pos, ← counters, ← tol]
    refine ⟨counter, window, first rfl, failed, ref.imp_right fun h => ⟨h.2, h.1.2.2⟩, fun d hd => ?_, source'.trans src⟩
    rw [State.settle_track, (State.compared_track compared d).1, other d hd]

/-- Settles O22, by the reference of the channel and the distance of its counter from the decoded position. -/
theorem markPairs : Obligations.MarkPairs := by
  intro s ch way m j typeA k gap at_ noFault moving first hj near source
  have valid : decodeGap (k.gapFrom way m) = some (typeA, j) := decodeGap_of_near hj near
  have position : decodedPosition way typeA j = at_ := by
    cases way <;> cases typeA <;> simp [decodedPosition, oddMark, evenMark, at_]
  refine ⟨fun h => ?_, fun h off => ?_⟩
  · rw [← position] at h ⊢
    exact markEvent_decoded noFault moving source (Track.mark_pair first valid h)
  · rw [← position] at off
    exact markEvent_mismatch noFault moving source (Track.mark_off h first valid off)

end Sys2Proof.Machine
end

section
/-!
PROOFS. The seat reading (R49 to R51, R62, R65): the preset of the channels, and the motion state that a seating leaves.
-/

namespace Sys2Proof.Machine

open Sys2Proof

namespace State

@[simp] theorem wake_items (s : State) : s.wake.items = s.items := by simp [items]

/-- A channel is preset where a test takes it and its sensor fault line is inactive (R50, R51). -/
def presetTrack (s : State) (f : Track → Bool) (v : Int) (ch : Channel) : Track :=
  if f (s.track ch) && !(s.track ch).sensorFault then (s.track ch).preset v else s.track ch

/-- The channels preset, the source returned to P where P's failed flag is cleared (R50, R51, R55). -/
def presetBoth (s : State) (f : Track → Bool) (v : Int) : State :=
  ({ s with pos := { s.pos with p := s.presetTrack f v .p, c := s.presetTrack f v .c } }).fixSource

/-- Where no comparison takes a reference, a preset is that of its channels (R50 to R52). -/
theorem presetWhere_of_agree {s : State} {f : Track → Bool} {v : Int} (value : s.items.geometry.seatCount = some v)
    (agree : (f s.pos.p = true ∧ s.pos.p.sensorFault = false ∨ f s.pos.c = true ∧ s.pos.c.sensorFault = false) →
      ¬(s.presetBoth f v).Disagree) : s.presetWhere f = s.presetBoth f v := by
  have unfolded : s.presetWhere f =
      if f s.pos.p && !s.pos.p.sensorFault || f s.pos.c && !s.pos.c.sensorFault then (s.presetBoth f v).compareTracks
      else s.presetBoth f v := by
    simp only [presetWhere, value]
    rfl
  rw [unfolded]
  split
  next takes =>
    refine compareTracks_of_agree (agree ?_)
    simpa using takes
  next => rfl

theorem presetBoth_kept (s : State) (f : Track → Bool) (v : Int) :
    (s.presetBoth f v).kept = { s.kept with pos := (s.presetBoth f v).pos } := by
  rw [presetBoth, fixSource_kept]
  rfl

theorem presetBoth_pos (s : State) (f : Track → Bool) (v : Int) : (s.presetBoth f v).pos =
    { s.pos with
        p := s.presetTrack f v .p, c := s.presetTrack f v .c,
        source := if s.pos.source = .c ∧ (s.presetTrack f v .p).failed = false then .p else s.pos.source } := by
  rw [presetBoth, fixSource_frame, fixSource_source]

theorem presetBoth_frame (s : State) (f : Track → Bool) (v : Int) :
    s.presetBoth f v = { s with pos := (s.presetBoth f v).pos } := by
  rw [presetBoth, fixSource_frame]

/-- The seated state written out (R62). -/
theorem seatedState_eq (s : State) : s.seatedState =
    if s.locks.tail.state = .driven ∧ (s.role = .follow ∨ s.locks.toe.state = .driven) then .seatedLocked else .seatedFree := by
  simp only [seatedState, ownedLocksAre, Bool.and_eq_true, Bool.or_eq_true, beq_iff_eq]

/-- The motion state set from a reading established at SEATED (R62). -/
theorem seatFromReading_eq (s : State) : s.seatFromReading =
    { s with motion := if s.motion.state = .halted then s.motion
      else { s.motion with kind := .none, correction := false, state := s.seatedState } } := by
  simp only [seatFromReading, beq_iff_eq]
  split <;> rfl

theorem seatFromReading_kept (s : State) : s.seatFromReading.kept = s.kept := by
  rw [seatFromReading_eq]
  simp only [kept]
  split <;> rfl

end State

theorem exec_seatEstablished (s : State) (seated : Bool) : exec (.seatSwitchEstablished seated) s =
    .next (if s.pos.seat.isSome then s.wake
      else
        let u : State := { s.wake with pos := { s.pos with seat := some seated } }
        if seated then (u.presetWhere fun _ => true).seatFromReading else u).settle := by
  rw [← s.wake_pos]
  rfl

/-- Settles O23: the reading is written, the channels are preset where SEAT_COUNT has a value, and the motion state is set. -/
theorem seatEstablished : Obligations.SeatEstablished := by
  intro s
  refine ⟨fun b known => ?_, fun fresh => ?_, fun fresh => ?_⟩
  · rw [exec_seatEstablished, if_pos known]
  · rw [exec_seatEstablished, fresh]
    simp
  · let r : State := { s.wake with pos := { s.pos with seat := some true } }
    have run : exec (.seatSwitchEstablished true) s = .next ((r.presetWhere fun _ => true).seatFromReading).settle := by
      rw [exec_seatEstablished, fresh]
      simp [r]
    have rkept : r.kept = { s.kept with pos := { s.pos with seat := some true } } := by
      rw [← s.wake_kept]
      rfl
    have seats (u : State) (frame : u = { r with pos := u.pos }) : u.seatFromReading.motion =
        if s.wake.motion.state = .halted then s.wake.motion
        else { s.wake.motion with
          kind := .none, correction := false,
          state :=
            if s.wake.locks.tail.state = .driven ∧ (s.role = .follow ∨ s.wake.locks.toe.state = .driven) then .seatedLocked
            else .seatedFree } := by
      rw [State.seatFromReading_eq, State.seatedState_eq, frame, ← s.wake_role]
    refine ⟨_, run, fun blank => ?_, fun v value pLine cLine tol => ?_⟩
    · rw [State.presetWhere_blank _ _ (by rw [← s.wake_items] at blank; exact blank), State.seatFromReading_kept]
      exact ⟨rkept, seats r rfl⟩
    · have p : r.presetTrack (fun _ => true) v .p = s.pos.p.preset v := by simp [State.presetTrack, State.track, r, pLine]
      have c : r.presetTrack (fun _ => true) v .c = s.pos.c.preset v := by simp [State.presetTrack, State.track, r, cLine]
      have pos : (r.presetBoth (fun _ => true) v).pos =
          { p := s.pos.p.preset v, c := s.pos.c.preset v, source := .p, seat := some true } := by
        rw [State.presetBoth_pos, p, c]
        cases h : s.pos.source <;> simp [r, Track.preset]
      have agree : ¬(r.presetBoth (fun _ => true) v).Disagree := by
        rintro ⟨-, -, apart⟩
        have tol' : (r.presetBoth (fun _ => true) v).trackTol = s.trackTol := by
          rw [State.presetBoth_frame, ← s.wake_trackTol]
          rfl
        rw [tol', pos] at apart
        simp only [Track.preset, Track.setCounter, sub_self, abs_zero] at apart
        exact absurd tol (not_le.mpr apart)
      rw [State.presetWhere_of_agree (by rw [← s.wake_items] at value; exact value) fun _ => agree,
        State.seatFromReading_kept]
      refine ⟨?_, seats _ (State.presetBoth_frame _ _ _)⟩
      rw [State.presetBoth_kept, pos, rkept]
      rfl

/-! ### A change of the reading (R51, R62, R65) -/

namespace State

/-- The reading at SEATED. -/
def seatedReading (s : State) : State := { s with pos := { s.pos with seat := some true } }

/-- The motion ends on the seat (R65). -/
def motionEnded (s : State) : State :=
  { s with motion := { s.motion with state := s.seatedState, kind := .none, correction := false } }

theorem endAtSeat_plain {s : State} (h : s.motion.kind ≠ .teach) : s.endAtSeat = s.motionEnded := by
  unfold endAtSeat
  dsimp only
  rw [if_neg (by simp [h])]
  rfl

theorem endAtSeat_teach {s : State} (kind : s.motion.kind = .teach) (lowers : s.motion.teachStep = .lowering) :
    s.endAtSeat = s.motionEnded.judgeTeach := by
  unfold endAtSeat
  dsimp only
  rw [if_pos (by simp [kind, lowers])]
  rfl

/-- The leaf whose motion a seating ends (R65). -/
def Landing (s : State) : Prop :=
  s.motion.state = .lowering ∨ s.motion.state = .seatApproach ∨ s.motion.state = .stopped

theorem seating_of_landing {s : State} (h : s.seatedReading.presetUnreferenced.Landing) :
    s.seating = s.seatedReading.presetUnreferenced.endAtSeat := by
  have unfolded : s.seating = match s.seatedReading.presetUnreferenced.motion.state with
      | .lowering | .seatApproach | .stopped => s.seatedReading.presetUnreferenced.endAtSeat
      | _ => s.seatedReading.presetUnreferenced := rfl
  rw [unfolded]
  rcases h with h | h | h <;> rw [h]

theorem seating_of_not_landing {s : State} (h : ¬s.seatedReading.presetUnreferenced.Landing) :
    s.seating = s.seatedReading.presetUnreferenced := by
  have unfolded : s.seating = match s.seatedReading.presetUnreferenced.motion.state with
      | .lowering | .seatApproach | .stopped => s.seatedReading.presetUnreferenced.endAtSeat
      | _ => s.seatedReading.presetUnreferenced := rfl
  rw [unfolded]
  split
  next l => exact absurd (.inl l) h
  next l => exact absurd (.inr (.inl l)) h
  next l => exact absurd (.inr (.inr l)) h
  next => rfl

end State

theorem exec_seatChange (s : State) (seated : Bool) : exec (.seatSwitchChange seated) s =
    .next (match s.wake.pos.seat, seated with
      | some false, true => s.wake.seating
      | some true, false => s.wake.unseating
      | _, _ => s.wake).settle := rfl

theorem exec_seated {s : State} (h : s.pos.seat = some false) :
    exec (.seatSwitchChange true) s = .next s.wake.seating.settle := by
  rw [exec_seatChange, s.wake_pos, h]

theorem exec_unseated {s : State} (h : s.pos.seat = some true) :
    exec (.seatSwitchChange false) s = .next s.wake.unseating.settle := by
  rw [exec_seatChange, s.wake_pos, h]

/-- A seated leaf that leaves the seat with no motion commanded is STOPPED (R62). -/
theorem State.unseating_eq (s : State) : s.unseating =
    { s with
        pos := { s.pos with seat := some false },
        motion := { s.motion with
          state := if s.motion.state = .seatedLocked ∨ s.motion.state = .seatedFree then .stopped else s.motion.state } } := by
  simp only [State.unseating, State.isSeated, Bool.or_eq_true, beq_iff_eq]
  split <;> rfl

/-- Settles O24: the reading is written, and a seating presets the channels and ends a landing. -/
theorem seatChanges : Obligations.SeatChanges := by
  intro s
  refine ⟨fun seated => ⟨_, exec_unseated seated, ?_, ?_⟩, fun v open_ value pLine cLine kind source tol => ?_⟩
  · rw [State.unseating_eq, ← s.wake_kept, ← s.wake_pos]
    rfl
  · rw [State.unseating_eq]
  · intro preset p c agrees
    let r := s.wake.seatedReading
    let f : Track → Bool := fun t => t.ref != .referenced
    have own (k : Track) : (if f k && !false then k.preset v else k) = preset k := by
      by_cases ref : k.ref = .referenced
      · simp [f, preset, ref]
      · simp [f, preset, ref, Track.preset, Track.setCounter]
    have atP : r.presetTrack f v .p = p := by
      simp only [State.presetTrack, State.track, r, State.seatedReading, State.wake_pos, pLine]
      exact own s.pos.p
    have atC : r.presetTrack f v .c = c := by
      simp only [State.presetTrack, State.track, r, State.seatedReading, State.wake_pos, cLine]
      exact own s.pos.c
    have pos : (r.presetBoth f v).pos = { p := p, c := c, seat := some true, source :=
        if s.pos.source = .c ∧ s.pos.p.ref ≠ .referenced then .p else s.pos.source } := by
      rw [State.presetBoth_pos, atP, atC]
      have source' : s.pos.source = .c → (p.failed = false ↔ s.pos.p.ref ≠ .referenced) := by
        intro c
        by_cases ref : s.pos.p.ref = .referenced <;> simp [p, preset, ref, source c]
      by_cases c : s.pos.source = .c
      · simp [r, State.seatedReading, c, source' c]
      · simp [r, State.seatedReading, c]
    have agree (takes : f r.pos.p = true ∧ r.pos.p.sensorFault = false ∨ f r.pos.c = true ∧ r.pos.c.sensorFault = false) :
        ¬(r.presetBoth f v).Disagree := by
      rintro ⟨-, -, apart⟩
      have tol' : (r.presetBoth f v).trackTol = s.trackTol := by
        rw [State.presetBoth_frame, ← s.wake_trackTol]
        rfl
      rw [tol', pos] at apart
      obtain ⟨pRef, cRef⟩ := agrees.resolve_right (not_le.mpr apart)
      have kept_ (k : Track) (h : (preset k).ref = .referenced) : f k = false := by
        by_cases ref : k.ref = .referenced
        · simp [f, ref]
        · simp [preset, ref] at h
      have pStays : f r.pos.p = false := by
        simp only [r, State.seatedReading, State.wake_pos]
        exact kept_ _ pRef
      have cStays : f r.pos.c = false := by
        simp only [r, State.seatedReading, State.wake_pos]
        exact kept_ _ cRef
      simp [pStays, cStays] at takes
    have preset_ : r.presetUnreferenced = r.presetBoth f v :=
      State.presetWhere_of_agree (by rw [← s.wake_items] at value; exact value) agree
    have landing : r.presetUnreferenced.Landing ↔
        s.wake.motion.state = .lowering ∨ s.wake.motion.state = .seatApproach ∨ s.wake.motion.state = .stopped := by
      rw [preset_, State.presetBoth_frame]
      exact Iff.rfl
    have kept : r.presetUnreferenced.kept = { s.kept with pos := (r.presetBoth f v).pos } := by
      rw [preset_, State.presetBoth_kept, ← s.wake_kept]
      rfl
    have frame : r.presetUnreferenced = { r with pos := (r.presetBoth f v).pos } := by
      rw [preset_, State.presetBoth_frame]
    by_cases lands : r.presetUnreferenced.Landing
    · have ends : s.wake.seating = r.presetUnreferenced.motionEnded := by
        rw [State.seating_of_landing lands, State.endAtSeat_plain (by rw [frame]; exact kind)]
      refine ⟨_, exec_seated open_, ?_, fun _ => ?_, fun no => absurd (landing.mp lands) no⟩
      · rw [ends, ← pos, ← kept]
        rfl
      · rw [ends, ← s.wake_role, ← State.seatedState_eq, frame]
        exact ⟨rfl, rfl, rfl⟩
    · have ends : s.wake.seating = r.presetUnreferenced := State.seating_of_not_landing lands
      refine ⟨_, exec_seated open_, ?_, fun yes => absurd (landing.mpr yes) lands, fun _ => ?_⟩
      · rw [ends, kept, pos]
      · rw [ends, frame]
        rfl

end Sys2Proof.Machine
end

section
/-!
PROOFS. The creep flag, the seat teach and the recovery of a stopped leaf (R57, R72, R73, R78 to R80).
-/

namespace Sys2Proof.Machine

open Sys2Proof

namespace State

/-! ### What a request finds -/

@[simp] theorem asked_pos (s : State) : s.asked.pos = s.pos := wake_pos s
@[simp] theorem asked_lines (s : State) : s.asked.lines = s.lines := wake_lines s
@[simp] theorem asked_settings (s : State) : s.asked.settings = s.settings := wake_settings s
@[simp] theorem asked_items (s : State) : s.asked.items = s.items := wake_items s
@[simp] theorem asked_paired (s : State) : s.asked.link.paired = s.link.paired := wake_paired s
@[simp] theorem asked_port (s : State) : s.asked.port = s.port := wake_port s
@[simp] theorem wake_usesAp (s : State) (x : Ap) : s.wake.usesAp x = s.usesAp x := by
  cases x <;> simp [usesAp]

@[simp] theorem asked_usesAp (s : State) (x : Ap) : s.asked.usesAp x = s.usesAp x := s.wake_usesAp x

@[simp] theorem wake_zoneUse (s : State) (x : Ap) : s.wake.zoneUse x = s.zoneUse x := by simp [zoneUse]

@[simp] theorem asked_zoneUse (s : State) (x : Ap) : s.asked.zoneUse x = s.zoneUse x := s.wake_zoneUse x

@[simp] theorem wake_apKept (s : State) (x : Ap) : (s.wake.ap x).kept = (s.ap x).kept := by
  cases x
  · exact s.wake_apA
  · exact s.wake_apB

@[simp] theorem wake_zones (s : State) (x : Ap) : (s.wake.ap x).zones = (s.ap x).zones :=
  congrArg ApKept.zones (s.wake_apKept x)

@[simp] theorem asked_zones (s : State) (x : Ap) : (s.asked.ap x).zones = (s.ap x).zones := s.wake_zones x

/-! ### The tests of the leaf's requests, as propositions -/

theorem stationary_iff (s : State) : s.stationary = true ↔
    s.motion.state = .seatedLocked ∨ s.motion.state = .seatedFree ∨ s.motion.state = .stopped ∨
      s.motion.state = .holding ∧ s.motion.correction = false := by
  cases e : s.motion.state <;> simp [stationary, e]

theorem phaseIdle_iff (s : State) :
    s.phaseIdle = true ↔ s.opening.phase = .idle ∧ (s.role = .follow → s.link.paired = true) := by
  cases r : s.role <;> simp [phaseIdle, r]

theorem apPermits_iff (s : State) (x : Ap) : s.apPermits x = true ↔
    (s.usesAp x = true → (s.ap x).closure = .closed ∧ zonesClear (s.zoneUse x) (s.ap x).zones = true) := by
  cases u : s.usesAp x <;> simp [apPermits, u]

/-- The drive permit conditions of the approaches (R59). -/
theorem apsPermit_iff (s : State) : s.apPermits .a = true ∧ s.apPermits .b = true ↔
    ∀ x, s.usesAp x = true → (s.ap x).closure = .closed ∧ zonesClear (s.zoneUse x) (s.ap x).zones = true := by
  rw [apPermits_iff, apPermits_iff]
  exact ⟨fun h x => by cases x; exacts [h.1, h.2], fun h => ⟨h .a, h .b⟩⟩

theorem allUsedAps_iff (s : State) (f : Closure → Bool) :
    s.allUsedAps f = true ↔ ∀ x, s.usesAp x = true → f (s.ap x).closure = true := by
  have each : s.allUsedAps f = true ↔
      (s.usesAp .a = true → f (s.ap .a).closure = true) ∧ (s.usesAp .b = true → f (s.ap .b).closure = true) := by
    cases a : s.usesAp .a <;> cases b : s.usesAp .b <;> simp [allUsedAps, ap, a, b]
  rw [each]
  exact ⟨fun h x => by cases x; exacts [h.1, h.2], fun h => ⟨h .a, h .b⟩⟩

/-! ### An answer and what it keeps -/

/-- An accepted request with the port of the state found keeps its own change, the port answered. -/
theorem settle_respond_keptAnswer {s u : State} (d : List Byte) (port : u.port = s.port) :
    (u.settle.respond .ok d).kept = { u.kept with port := s.port.answered .ok d } := by
  rw [settle_respond_kept, port]

end State

/-! ### ENTER_CREEP and LEAVE_CREEP (R72, R73) -/

theorem setCreep_keptAnswer (s : State) (v : Bool) :
    ((s.asked.setCreep v).settle.respond .ok []).kept = { s.keptAnswer .ok [] with creep := v } := by
  have own : (s.asked.setCreep v).kept = { s.asked.kept with creep := v } := rfl
  rw [State.settle_respond_keptAnswer [] (show (s.asked.setCreep v).port = s.port from s.asked_port), own, State.asked_kept]
  rfl

/-- Settles O25: the two requests test the state they find, and write the creep flag alone. -/
theorem creepRequests : Obligations.CreepRequests := by
  intro s w rests sound
  have enter : exec (.enterCreep .maintenance) s =
      .next (w.answer (if w.stationary then State.ok (w.setCreep true) else .refuse .wrongState)) := rfl
  have leave : exec (.leaveCreep .maintenance) s =
      .next (w.answer (if w.stationary && w.pos.p.ref == .referenced && w.pos.c.ref == .referenced &&
        !trackFaults.any w.latched then State.ok (w.setCreep false) else .refuse .wrongState)) := rfl
  have rests_iff : w.stationary = true ↔ rests := w.stationary_iff
  have sound_iff : (w.stationary && w.pos.p.ref == .referenced && w.pos.c.ref == .referenced &&
      !trackFaults.any w.latched) = true ↔ sound := by
    simp only [Bool.and_eq_true, rests_iff, beq_iff_eq, Bool.not_eq_true', trackFaults, List.any_cons, List.any_nil,
      Bool.or_false, Bool.or_eq_false_iff, w, s.asked_pos, sound, and_assoc]
  refine ⟨fun h => ⟨_, enter, ?_⟩, fun h => ?_, fun h => ⟨_, leave, ?_⟩, fun h => ?_⟩
  · rw [if_pos (rests_iff.mpr h), State.answer_ok, setCreep_keptAnswer]
  · rw [enter, if_neg (mt rests_iff.mp h), State.answer_refuse]
  · rw [if_pos (sound_iff.mpr h), State.answer_ok, setCreep_keptAnswer]
  · rw [leave, if_neg (mt sound_iff.mp h), State.answer_refuse]

/-! ### The start of a teach (R78, R79) -/

/-- The leaf and the road stand so that a teach may start (R78, check 2). -/
def State.TeachReady (s : State) : Prop :=
  s.opening.phase = .idle ∧ (s.role = .follow → s.link.paired = true) ∧ s.motion.state = .seatedFree ∧
    (∀ x, s.usesAp x = true → (s.ap x).closure = .closed ∧ zonesClear (s.zoneUse x) (s.ap x).zones = true) ∧
    s.faults.halted = false ∧ (s.role ≠ .sole → s.link.paired = true) ∧ s.lines.driveReady = true

theorem State.teachTest_iff (s : State) : (!s.phaseIdle || s.motion.state != .seatedFree || !s.allUsedAps (· == .closed) ||
    !s.permitOK || !s.lines.driveReady) = false ↔ s.TeachReady := by
  simp only [Bool.or_eq_false_iff, Bool.not_eq_false', phaseIdle_iff, bne_eq_false_iff_eq, allUsedAps_iff, permitOK_iff,
    beq_iff_eq, TeachReady]
  have permits := s.apsPermit_iff
  constructor
  · rintro ⟨⟨⟨⟨⟨idle, fresh⟩, free⟩, -⟩, run, a, b, pair⟩, ready⟩
    exact ⟨idle, fresh, free, permits.mp ⟨a, b⟩, run, pair, ready⟩
  · rintro ⟨idle, fresh, free, closed, run, pair, ready⟩
    obtain ⟨a, b⟩ := permits.mpr closed
    exact ⟨⟨⟨⟨⟨idle, fresh⟩, free⟩, fun x used => (closed x used).1⟩, run, a, b, pair⟩, ready⟩

theorem State.teachRefusal_unready {s : State} (h : ¬s.TeachReady) : s.teachRefusal = some .wrongState := by
  unfold teachRefusal
  rw [if_pos]
  rwa [← Bool.not_eq_false, teachTest_iff]

theorem State.teachRefusal_ready {s : State} (h : s.TeachReady) :
    s.teachRefusal = if s.pos.p.ref = .referenced then none else some .notReferenced := by
  unfold teachRefusal
  rw [if_neg (by rw [s.teachTest_iff.mpr h]; simp)]
  by_cases ref : s.pos.p.ref = .referenced <;> simp [ref]

theorem exec_teachSeat (s : State) : exec (.teachSeat .maintenance) s = .next (s.asked.answer
    (if s.asked.storeBusy then .refuse .storeBusy
    else
      match s.asked.teachRefusal with
      | some r => .refuse r
      | none => State.ok s.asked.startTeach)) := rfl

theorem State.startTeach_eq (s : State) : s.startTeach =
    { s with motion := { s.motion with
      teachResult := .none, teachCandidate := none, teachStep := .raising, kind := .teach, state := .raising } } := rfl

theorem exec_teachPress (s : State) : exec .teachPress s =
    .next (if s.wake.motion.teachLockout.isRunning then s.wake
      else
        let u : State := { s.wake with motion := { s.wake.motion with teachLockout := .running 3000 } }
        if u.keyOn && !u.storeBusy && u.teachRefusal.isNone then u.startTeach else u).settle := rfl

/-- Settles O26: TEACH_SEAT runs the tests of R78 one after the other, and a press, outside its lockout, the same ones. -/
theorem teachStarts : Obligations.TeachStarts := by
  intro s w ready ready_iff started
  refine ⟨fun found => ?_, fun found => ?_⟩
  · subst found
    have ready' : s.asked.TeachReady ↔ ready := by
      rw [ready_iff, State.TeachReady]
      simp only [State.asked_role, State.asked_paired, State.asked_usesAp, State.asked_zoneUse, State.asked_zones,
        State.asked_lines]
    have busy : s.asked.storeBusy = s.settings.writing.isSome := by rw [State.storeBusy, State.asked_settings]
    rw [exec_teachSeat, busy]
    refine ⟨fun b => ?_, fun free no => ?_, fun free yes ref => ?_, fun free yes ref => ?_⟩
    · rw [if_pos b, State.answer_refuse]
    · rw [free, State.teachRefusal_unready (mt ready'.mp no)]
      simp only [Option.isSome_none, Bool.false_eq_true, if_false, State.answer_refuse]
    · rw [free, State.teachRefusal_ready (ready'.mpr yes), State.asked_pos, if_neg ref]
      simp only [Option.isSome_none, Bool.false_eq_true, if_false, State.answer_refuse]
    · have ref' : s.asked.pos.p.ref = .referenced := by rw [s.asked_pos, ref]
      rw [free, State.teachRefusal_ready (ready'.mpr yes), if_pos ref']
      simp only [Option.isSome_none, Bool.false_eq_true, if_false, State.answer_ok, State.startTeach_eq, started]
  · subst found
    refine ⟨fun ms locked => ?_, fun unlocked => ?_, ?_⟩
    · rw [exec_teachPress, State.wake_lockout, locked]
      rfl
    · let u : State := { s.wake with motion := { s.wake.motion with teachLockout := .running 3000 } }
      have idle : s.wake.motion.teachLockout.isRunning = false := by
        rw [State.wake_lockout]
        cases h : s.motion.teachLockout with
        | running ms => exact absurd h (unlocked ms)
        | _ => rfl
      have ready' : u.TeachReady ↔ ready := by
        rw [ready_iff, ← s.wake_role, ← s.wake_paired, ← s.wake_lines]
        simp only [← s.wake_zones, ← s.wake_zoneUse, ← s.wake_usesAp]
        rfl
      have test : (u.keyOn && !u.storeBusy && u.teachRefusal.isNone) = true ↔
          s.lines.key = some true ∧ s.settings.writing = none ∧ ready ∧ s.pos.p.ref = .referenced := by
        have key : u.keyOn = true ↔ s.lines.key = some true := by
          rw [← s.wake_lines]
          exact beq_iff_eq
        have busy : u.storeBusy = s.settings.writing.isSome := by
          rw [← s.wake_settings]
          rfl
        have pos : u.pos = s.pos := s.wake_pos
        have refusal : u.teachRefusal.isNone = true ↔ ready ∧ s.pos.p.ref = .referenced := by
          by_cases r : u.TeachReady
          · rw [State.teachRefusal_ready r, pos]
            by_cases ref : s.pos.p.ref = .referenced <;> simp [ref, ready'.mp r]
          · rw [State.teachRefusal_unready r]
            simp [mt ready'.mpr r]
        rw [Bool.and_eq_true, Bool.and_eq_true, key, busy, refusal, Bool.not_eq_true', Option.isSome_eq_false_iff,
          Option.isNone_iff_eq_none, and_assoc]
      rw [exec_teachPress, idle]
      refine ⟨fun yes => ?_, fun no => ?_⟩
      · simp only [Bool.false_eq_true, if_false]
        rw [if_pos (test.mpr yes), State.startTeach_eq]
      · simp only [Bool.false_eq_true, if_false]
        rw [if_neg (mt test.mp no)]
    · refine ⟨_, rfl, ?_⟩
      rw [State.settle_kept, ← s.wake_kept]
      rfl

end Sys2Proof.Machine
end

section
/-!
PROOFS. The end of a seat teach (R79, R185, R186) and the recovery of a stopped leaf (R80, R147 to R149).
-/

namespace Sys2Proof.Machine

open Sys2Proof

namespace State

/-! ### The preset of a seating with P REFERENCED (R51) -/

/-- With P REFERENCED and no disagreement of a C that is preset, the preset of a seating writes C and the source alone (R51). -/
theorem presetUnreferenced_of_referenced {s : State} (ref : s.pos.p.ref = .referenced)
    (near : s.pos.c.ref = .referenced ∨ s.pos.c.sensorFault = true ∨ s.items.geometry.seatCount = none ∨
      |s.pos.p.counter - s.seatCount| ≤ s.trackTol) :
    s.presetUnreferenced = { s with pos := s.presetUnreferenced.pos } ∧ s.presetUnreferenced.pos.p = s.pos.p := by
  cases value : s.items.geometry.seatCount with
  | none => rw [presetUnreferenced, presetWhere_blank s _ value]; exact ⟨rfl, rfl⟩
  | some v =>
    let f : Track → Bool := fun t => t.ref != .referenced
    have p : s.presetTrack f v .p = s.pos.p := by simp [presetTrack, track, f, ref]
    have agree (takes : f s.pos.p = true ∧ s.pos.p.sensorFault = false ∨ f s.pos.c = true ∧ s.pos.c.sensorFault = false) :
        ¬(s.presetBoth f v).Disagree := by
      rintro ⟨-, -, apart⟩
      have tol : (s.presetBoth f v).trackTol = s.trackTol := by rw [presetBoth_frame]; rfl
      have c : s.presetTrack f v .c = s.pos.c.preset v := by
        simp only [f, ref, bne_self_eq_false, Bool.false_eq_true, false_and, false_or] at takes
        simp [presetTrack, track, f, takes.1, takes.2]
      have seat : s.seatCount = v := by rw [seatCount, value]; rfl
      rw [tol, presetBoth_pos, p, c] at apart
      simp only [f, ref, bne_self_eq_false, Bool.false_eq_true, false_and, false_or, bne_iff_ne] at takes
      obtain ⟨cRef, cLine⟩ := takes
      rcases near with h | h | h | h
      · exact cRef h
      · simp [cLine] at h
      · simp [value] at h
      · rw [seat] at h
        exact absurd h (not_le.mpr apart)
    have preset : s.presetUnreferenced = s.presetBoth f v := presetWhere_of_agree value agree
    rw [preset]
    exact ⟨presetBoth_frame _ _ _, by rw [presetBoth_pos, p]⟩

/-! ### The candidate of a teach (R79) -/

theorem judgeTeach_range {s : State} (h : 400 < |s.pos.p.counter - s.seatCount|) : s.judgeTeach =
    { s with motion := { s.motion with
      teachStep := .none, teachCandidate := some s.pos.p.counter, teachResult := .range } } := by
  rw [← Int.natCast_natAbs] at h
  unfold judgeTeach
  dsimp only
  rw [if_pos h]
  rfl

/-- A candidate taken: SEAT_COUNT, the result and the settle interval, before the channels are preset at it and the block is
stored (R79, R185). -/
def teachTaken (s : State) : State :=
  { s with
      motion := { s.motion with teachStep := .none, teachCandidate := some s.pos.p.counter, teachResult := .done },
      settings := { s.settings with working := s.settings.working.put .seatCount (.num s.pos.p.counter) },
      opening := { s.opening with settle := .running 2000 } }

theorem judgeTeach_done {s : State} (h : |s.pos.p.counter - s.seatCount| ≤ 400) : s.judgeTeach =
    let v := s.teachTaken.presetUnreferenced
    if !v.items.blockHasValues .geometry then v
    else if v.storeBusy then { v with settings := { v.settings with teachStoreWaiting := true } }
    else v.startBlockWrite .geometry := by
  rw [← Int.natCast_natAbs] at h
  unfold judgeTeach
  dsimp only
  rw [if_neg (not_lt.mpr h)]
  rfl

end State

theorem Items.blockHasValues_iff (x : Items) (b : BlockId) : x.blockHasValues b = true ↔ ∀ i ∈ b.items, x.get i ≠ none := by
  simp only [Items.blockHasValues, List.all_eq_true, Option.isSome_iff_ne_none]

/-- A candidate within 400 counts of SEAT_COUNT: what is written, and whether the block is stored at once (R79, R185, R186). -/
theorem State.judgeTeach_stores {m : State} (ref : m.pos.p.ref = .referenced) (tol : 0 ≤ m.trackTol)
    (close : |m.pos.p.counter - m.seatCount| ≤ 400) :
    let x := m.items.put .seatCount (.num m.pos.p.counter)
    let u := m.judgeTeach
    u.motion.teachCandidate = some m.pos.p.counter ∧ u.motion.teachResult = .done ∧ u.opening.settle = .running 2000 ∧
      u.items = x ∧
      ((∃ i ∈ BlockId.geometry.items, x.get i = none) → u.settings.writing = m.settings.writing) ∧
      ((∀ i ∈ BlockId.geometry.items, x.get i ≠ none) → m.settings.writing = none →
        u.settings.writing = some (.block .geometry x) ∧ u.settings.lastTarget = some (.block .geometry)) ∧
      ((∀ i ∈ BlockId.geometry.items, x.get i ≠ none) → m.settings.writing ≠ none →
        u.settings.writing = m.settings.writing ∧ u.settings.teachStoreWaiting = true) := by
  intro x u
  let v : State := { m.teachTaken with pos := m.teachTaken.presetUnreferenced.pos }
  have preset : m.teachTaken.presetUnreferenced = v := by
    refine (State.presetUnreferenced_of_referenced (s := m.teachTaken) ref (.inr (.inr (.inr ?_)))).1
    have seat : m.teachTaken.seatCount = m.teachTaken.pos.p.counter := rfl
    rw [seat, sub_self, abs_zero]
    exact tol
  have judged : u = (if !x.blockHasValues .geometry then v
      else if m.storeBusy then { v with settings := { v.settings with teachStoreWaiting := true } }
      else v.startBlockWrite .geometry) := by
    rw [show u = _ from State.judgeTeach_done close, preset]
    rfl
  by_cases values : x.blockHasValues .geometry = true
  · have all := (Items.blockHasValues_iff _ _).mp values
    have missing : ¬∃ i ∈ BlockId.geometry.items, x.get i = none := fun ⟨i, hi, absent⟩ => all i hi absent
    rw [values] at judged
    by_cases busy : m.storeBusy = true
    · rw [busy] at judged
      rw [judged]
      refine ⟨rfl, rfl, rfl, rfl, fun h => absurd h missing, fun _ free => ?_, fun _ _ => ⟨rfl, rfl⟩⟩
      rw [State.storeBusy, free] at busy
      cases busy
    · rw [Bool.not_eq_true] at busy
      rw [busy] at judged
      rw [judged]
      refine ⟨rfl, rfl, rfl, rfl, fun h => absurd h missing, fun _ _ => ⟨rfl, rfl⟩, fun _ writing => ?_⟩
      rw [State.storeBusy, Option.isSome_eq_false_iff, Option.isNone_iff_eq_none] at busy
      exact absurd busy writing
  · have some_ : ¬∀ i ∈ BlockId.geometry.items, x.get i ≠ none := mt (Items.blockHasValues_iff _ _).mpr values
    rw [Bool.not_eq_true] at values
    rw [values] at judged
    rw [judged]
    exact ⟨rfl, rfl, rfl, rfl, fun _ => rfl, fun h => absurd h some_, fun h => absurd h some_⟩

/-- Settles O27: the seating presets the channels without a disagreement, ends the motion, and judges the candidate. -/
theorem teachEnds : Obligations.TeachEnds := by
  intro s open_ kind lowers landing ref tol near
  let r := s.wake.seatedReading
  have rPos : r.pos = { s.pos with seat := some true } := by rw [← s.wake_pos]; rfl
  have rItems : r.items = s.items := s.wake_items
  have rSeat : r.seatCount = s.seatCount := by rw [State.seatCount, rItems]; rfl
  obtain ⟨frame, p⟩ : r.presetUnreferenced = { r with pos := r.presetUnreferenced.pos } ∧
      r.presetUnreferenced.pos.p = s.pos.p := by
    have rTol : r.trackTol = s.trackTol := by rw [State.trackTol, rItems]; rfl
    have ended := State.presetUnreferenced_of_referenced (s := r) (by rw [rPos]; exact ref)
      (by rw [rPos, rItems, rSeat, rTol]; exact near)
    rwa [rPos] at ended
  have lands : r.presetUnreferenced.Landing := by
    rw [frame]
    exact landing.imp id Or.inl
  have run := exec_seated open_
  rw [State.seating_of_landing lands, State.endAtSeat_teach (by rw [frame]; exact kind) (by rw [frame]; exact lowers)] at run
  have m : r.presetUnreferenced.motionEnded =
      { r with pos := r.presetUnreferenced.pos, motion := r.presetUnreferenced.motionEnded.motion } := by
    rw [frame]
    rfl
  have mSeat : r.presetUnreferenced.motionEnded.seatCount = s.seatCount := by rw [m, ← rSeat]; rfl
  have mP : r.presetUnreferenced.motionEnded.pos.p = s.pos.p := p
  have mSettings : r.presetUnreferenced.motionEnded.settings = s.settings := by rw [m]; exact s.wake_settings
  have mTol : r.presetUnreferenced.motionEnded.trackTol = s.trackTol := by
    rw [State.trackTol, State.items, mSettings]
    rfl
  generalize r.presetUnreferenced.motionEnded = m at run mSeat mP mSettings mTol
  have mItems : m.items = s.items := congrArg Settings.working mSettings
  refine ⟨_, run, ?_⟩
  rw [← mSeat, ← mP, ← mSettings, ← mItems]
  by_cases close : |m.pos.p.counter - m.seatCount| ≤ 400
  · obtain ⟨candidate, stores⟩ := State.judgeTeach_stores (by rw [mP]; exact ref) (by rw [mTol]; exact tol) close
    exact ⟨candidate, fun far => absurd close (not_le.mpr far), fun _ => stores⟩
  · rw [State.judgeTeach_range (not_le.mp close)]
    exact ⟨rfl, fun _ => ⟨rfl, rfl⟩, fun h => absurd h close⟩

end Sys2Proof.Machine
end

section
/-!
PROOFS. The recovery of a stopped leaf (R80, R147 to R149): what the return of the records and the step given leave of the
opening record and the book.
-/

namespace Sys2Proof.Machine

open Sys2Proof

namespace State

/-! ### What the returns keep -/

theorem recomputeTarget_kept (s : State) : s.recomputeTarget.kept = s.kept := by
  rw [recomputeTarget_frame]
  rfl

theorem leaveGroup_kept (s : State) (n : Nat) : (s.leaveGroup n).kept = s.kept := by
  unfold leaveGroup
  split
  · have left : (s.modOpening fun o => { o with group := o.group.filter (· != n) }).recomputeTarget.kept = s.kept := by
      rw [recomputeTarget_kept, modOpening_kept _ _ rfl rfl]
    dsimp only
    split
    · split
      · exact (modOpening_kept _ _ rfl rfl).trans left
      · exact (startLinger_kept _).trans left
      · exact left
    · exact left
  · rfl

theorem returnToBooked_kept (s : State) (n : Nat) : (s.returnToBooked n).kept = s.kept := by
  unfold returnToBooked
  split
  · split
    · rw [leaveGroup_kept, setRecState_kept]
    · rw [leaveGroup_kept, setRecState_kept, revoke_kept]
    · rfl
  · rfl

theorem returnAll_kept (s : State) : s.returnAll.kept = s.kept :=
  foldl_frame returnToBooked (fun s t => t.kept = s.kept) (fun _ => rfl) (fun _ _ _ h h' => h'.trans h)
    (fun s n => returnToBooked_kept s n) _ s

/-- The opening record of a return is that of a departure from the list, if there is one (R17). -/
theorem returnToBooked_opening (s : State) (n : Nat) :
    (s.returnToBooked n).opening = s.opening ∨ ∃ t : State, t.opening = s.opening ∧
      (s.returnToBooked n).opening = (t.leaveGroup n).opening := by
  unfold returnToBooked
  split
  · split
    · exact .inr ⟨s.setRecState n .booked, rfl, rfl⟩
    next r _ _ _ =>
      refine .inr ⟨(s.revoke r).setRecState n .booked, ?_, rfl⟩
      show (s.revoke r).opening = _
      rw [revoke_frame]
    · exact .inl rfl
  · exact .inl rfl

/-- A departure ends an opening in PENDING or leaves its phase, its freeze and, after it, the target (R129, R138). -/
theorem leaveGroup_stays (s : State) (n : Nat) :
    (s.opening.phase = .pending ∨ s.opening.phase = .idle →
      (s.leaveGroup n).opening.phase = .pending ∨ (s.leaveGroup n).opening.phase = .idle) ∧
    (s.opening.phase ≠ .pending → (s.leaveGroup n).opening.phase = s.opening.phase ∧
      (s.opening.frozen = true →
        (s.leaveGroup n).opening.frozen = true ∧ (s.leaveGroup n).opening.target = s.opening.target)) := by
  by_cases on : n ∈ s.opening.group
  · rw [leaveGroup_opening on rfl]
    split
    next ended => exact ⟨fun _ => .inr rfl, fun h => absurd ended.2 h⟩
    next =>
      refine ⟨id, fun _ => ⟨rfl, fun frozen => ⟨frozen, ?_⟩⟩⟩
      have closed : s.targetOpen = false := by simp [targetOpen, frozen]
      show s.targetOn _ = _
      rw [targetOn_spec, closed]
      rfl
  · have off : s.leaveGroup n = s := by
      unfold leaveGroup
      rw [if_neg (by simpa using on)]
    rw [off]
    exact ⟨id, fun _ => ⟨rfl, fun frozen => ⟨frozen, rfl⟩⟩⟩

/-- What the returns leave of the phase, the freeze and the target (R129, R138). -/
def PhaseStays (s t : State) : Prop :=
  (s.opening.phase = .pending ∨ s.opening.phase = .idle → t.opening.phase = .pending ∨ t.opening.phase = .idle) ∧
    (s.opening.phase ≠ .pending → t.opening.phase = s.opening.phase ∧
      (s.opening.frozen = true → t.opening.frozen = true ∧ t.opening.target = s.opening.target))

theorem PhaseStays.of_opening {s t : State} (h : t.opening = s.opening) : s.PhaseStays t := by
  rw [PhaseStays, h]
  exact ⟨id, fun _ => ⟨rfl, fun frozen => ⟨frozen, rfl⟩⟩⟩

theorem PhaseStays.trans {s t u : State} (h : s.PhaseStays t) (h' : t.PhaseStays u) : s.PhaseStays u := by
  obtain ⟨ends, stays⟩ := h
  obtain ⟨ends', stays'⟩ := h'
  refine ⟨fun p => ends' (ends p), fun p => ?_⟩
  obtain ⟨phase, target⟩ := stays p
  obtain ⟨phase', target'⟩ := stays' (phase ▸ p)
  refine ⟨phase'.trans phase, fun frozen => ?_⟩
  obtain ⟨f, t⟩ := target frozen
  obtain ⟨f', t'⟩ := target' f
  exact ⟨f', t'.trans t⟩

theorem returnToBooked_phaseStays (s : State) (n : Nat) : s.PhaseStays (s.returnToBooked n) := by
  rcases returnToBooked_opening s n with same | ⟨t, same, left⟩
  · exact .of_opening same
  · have stays := leaveGroup_stays t n
    unfold PhaseStays
    rw [left, ← same]
    exact stays

theorem returnAll_phaseStays (s : State) : s.PhaseStays s.returnAll :=
  foldl_frame returnToBooked PhaseStays (fun _ => .of_opening rfl) (fun _ _ _ => .trans) returnToBooked_phaseStays _ s

/-! ### The record of a number of the list, after the returns (R17) -/

theorem findRec_modRec (s : State) (n m : Nat) (f : Rec → Rec) (number : ∀ r, (f r).number = r.number) :
    (s.modRec n f).findRec m = (s.findRec m).map fun r => if r.number = n then f r else r := by
  unfold findRec modRec
  simp only [beq_iff_eq]
  rw [List.find?_map]
  congr 1
  congr 1
  funext r
  simp only [Function.comp_apply]
  split
  · rw [number]
  · rfl

/-- The first record of a number is BOOKED, and the number off the list. -/
def Booked (s : State) (n : Nat) : Prop := ∃ r, s.findRec n = some r ∧ r.state = .booked ∧ n ∉ s.opening.group

/-- The first record of a number is GROUPED or CALLED. -/
def Waits (s : State) (n : Nat) : Prop := ∃ r, s.findRec n = some r ∧ (r.state = .grouped ∨ r.state = .called)

theorem findRec_setRecState (s : State) (n m : Nat) (st : RecState) : (s.setRecState n st).findRec m =
    (s.findRec m).map fun r => if r.number = n then { r with state := st, changed := true } else r :=
  findRec_modRec s n m _ fun _ => rfl

theorem findRec_setRecState_other {s : State} {n m : Nat} (h : m ≠ n) (st : RecState) :
    (s.setRecState n st).findRec m = s.findRec m := by
  rw [findRec_setRecState]
  cases found : s.findRec m with
  | none => rfl
  | some r =>
    obtain ⟨-, number⟩ := findRec_mem found
    rw [Option.map_some, if_neg (number ▸ h)]

theorem findRec_setRecState_same {s : State} {n : Nat} {r : Rec} (found : s.findRec n = some r) (st : RecState) :
    (s.setRecState n st).findRec n = some { r with state := st, changed := true } := by
  obtain ⟨-, number⟩ := findRec_mem found
  rw [findRec_setRecState, found, Option.map_some, if_pos number]

theorem findRec_congr {s t : State} (h : t.book = s.book) (n : Nat) : t.findRec n = s.findRec n := by
  rw [findRec, findRec, h]

theorem findRec_revoke (s : State) (r : Rec) (n : Nat) : (s.revoke r).findRec n = (s.setRecState r.number .grouped).findRec n := by
  rw [revoke, callEnd_frame]
  rfl

/-- A return leaves the records of the other numbers as they are (R17). -/
theorem findRec_returnToBooked_other {s : State} {n m : Nat} (h : m ≠ n) : (s.returnToBooked n).findRec m = s.findRec m := by
  unfold returnToBooked
  split
  next r found =>
    obtain ⟨-, number⟩ := findRec_mem found
    split
    · rw [findRec_congr (leaveGroup_book _ _), findRec_setRecState_other h]
    · rw [findRec_congr (leaveGroup_book _ _), findRec_setRecState_other h, findRec_revoke,
        findRec_setRecState_other (number ▸ h)]
    · rfl
  · rfl

theorem returnToBooked_group (s : State) (n : Nat) : (s.returnToBooked n).opening.group ⊆ s.opening.group := by
  rcases returnToBooked_opening s n with same | ⟨t, same, left⟩
  · rw [same]
    exact List.Subset.refl _
  · rw [left, leaveGroup_group, same]
    exact List.filter_subset_self _

/-- A return makes its record BOOKED (R17). -/
theorem Waits.returned {s : State} {n : Nat} (h : s.Waits n) : (s.returnToBooked n).Booked n := by
  obtain ⟨r, found, is⟩ := h
  have off (t : State) : n ∉ (t.leaveGroup n).opening.group := by simp [leaveGroup_group]
  obtain ⟨-, rfl⟩ := findRec_mem found
  unfold returnToBooked
  rw [found]
  rcases is with is | is
  · simp only [is]
    exact ⟨_, by rw [findRec_congr (leaveGroup_book _ _), findRec_setRecState_same found], rfl, off _⟩
  · simp only [is]
    have revoked : (s.revoke r).findRec r.number = some { r with state := .grouped, changed := true } := by
      rw [findRec_revoke, findRec_setRecState_same found]
    exact ⟨_, by rw [findRec_congr (leaveGroup_book _ _), findRec_setRecState_same revoked], rfl, off _⟩

theorem Booked.returnToBooked {s : State} {n : Nat} (h : s.Booked n) (m : Nat) : (s.returnToBooked m).Booked n := by
  obtain ⟨r, found, booked, off⟩ := h
  by_cases same : n = m
  · subst same
    have still : s.returnToBooked n = s := by
      unfold State.returnToBooked
      rw [found]
      simp only [booked]
    rw [still]
    exact ⟨r, found, booked, off⟩
  · exact ⟨r, by rw [findRec_returnToBooked_other same, found], booked, fun on => off (returnToBooked_group s m on)⟩

/-- Every GROUPED and CALLED record of the list is BOOKED after the returns, and off the list (R147). -/
theorem returnAll_booked {s : State} {n : Nat} (on : n ∈ s.opening.group) (h : s.Waits n) : s.returnAll.Booked n := by
  have stays : ∀ (ns : List Nat) (t : State), t.Booked n → (ns.foldl returnToBooked t).Booked n := by
    intro ns
    induction ns with
    | nil => exact fun _ h => h
    | cons m ns ih => exact fun t h => ih _ (h.returnToBooked m)
  have each : ∀ (ns : List Nat) (t : State), n ∈ ns → t.Waits n → (ns.foldl returnToBooked t).Booked n := by
    intro ns
    induction ns with
    | nil => exact fun _ on => nomatch on
    | cons m ns ih =>
      intro t on waits
      by_cases same : n = m
      · exact stays ns _ (same ▸ waits.returned)
      · obtain ⟨r, found, is⟩ := waits
        exact ih _ ((List.mem_cons.mp on).resolve_left same) ⟨r, by rw [findRec_returnToBooked_other same, found], is⟩
  exact each _ s on h

/-! ### The leaf started down (R65, R80) -/

theorem startDown_off {s : State} (h : s.pos.seat ≠ some true) (k : MotionKind) : s.startDown k =
    { s with motion := { s.motion with
      kind := k, correction := false, state := if s.angle ≤ 300 then .seatApproach else .lowering } } := by
  unfold startDown
  dsimp only
  rw [if_neg (by simpa using h)]
  rfl

theorem startDown_seated {s : State} (h : s.pos.seat = some true) {k : MotionKind} (plain : k ≠ .teach) : s.startDown k =
    { s with motion := { s.motion with kind := .none, correction := false, state := s.seatedState } } := by
  unfold startDown
  dsimp only
  rw [if_pos (by simp [h]), endAtSeat_plain plain]
  rfl

/-- Without a teach, the start writes the motion record, of which the reactions' own part stays (R65). -/
theorem startDown_frame (s : State) {k : MotionKind} (plain : k ≠ .teach) :
    s.startDown k = { s with motion := (s.startDown k).motion } ∧ (s.startDown k).kept = s.kept := by
  by_cases h : s.pos.seat = some true
  · rw [startDown_seated h plain]
    exact ⟨rfl, rfl⟩
  · rw [startDown_off h]
    exact ⟨rfl, rfl⟩

theorem angle_congr {s t : State} (pos : t.pos = s.pos) (settings : t.settings = s.settings) : t.angle = s.angle := by
  simp only [angle, rawAngle, fullOpen, source, track, seatCount, scale, items, pos, settings]

theorem isSeated_of_seatedState {s t : State} (h : t.motion.state = s.seatedState) : t.isSeated = true := by
  unfold isSeated
  rw [h, seatedState]
  split <;> rfl

/-! ### The opening at an accepted RECOVER_LOWER (R147 to R149) -/

/-- A FOLLOW whose suspension ends gives the step of the phase it mirrors (R148, R149). -/
theorem recoverOpening_follow {s : State} (follow : s.role = .follow)
    (phase : s.opening.phase = .lowering ∨ s.opening.phase = .locking ∨ s.opening.phase = .idle) :
    s.recoverOpening = if s.opening.suspended then
        { s with opening := { s.opening with
            suspended := false, resumePoint := none,
            command :=
              match s.opening.phase with
              | .lowering => some .lower
              | .locking => some .drive
              | _ => s.opening.command } }
      else s := by
  unfold recoverOpening
  rw [if_pos (by simp [follow])]
  split
  · rcases phase with p | p | p <;> simp [giveStep, clearSuspension, modOpening, order, p, follow]
  · rfl

/-- Before the first step and in CLOSING_ROAD a step given writes no opening record (R135). -/
theorem giveStep_still {s : State} (lead : s.role ≠ .follow)
    (phase : s.opening.phase = .idle ∨ s.opening.phase = .pending ∨ s.opening.phase = .closingRoad) :
    s.giveStep.opening = s.opening := by
  unfold giveStep
  rcases phase with p | p | p <;> simp only [p]
  rw [if_neg (by simp [lead]), roadStep_frame]

/-- What an accepted RECOVER_LOWER leaves of the opening record outside FOLLOW role (R147). -/
theorem recoverOpening_lead {s : State} (lead : s.role ≠ .follow) :
    (s.opening.phase ≠ .idle → s.recoverOpening.opening.suspended = false ∧ s.recoverOpening.opening.resumePoint = none) ∧
    (s.opening.phase = .idle → s.recoverOpening = s) ∧
    (s.opening.phase = .unlocking ∨ s.opening.phase = .raising ∨ s.opening.phase = .heldOpen ∨ s.opening.phase = .lowering →
      s.recoverOpening.opening.phase = .lowering ∧ s.recoverOpening.opening.closeRequested = false ∧
        s.recoverOpening.opening.linger = .stopped ∧ s.recoverOpening.opening.command = none ∧
        s.recoverOpening.opening.target = s.returnAll.opening.target) ∧
    (s.opening.phase ≠ .idle → s.opening.phase ≠ .locking → s.opening.phase ≠ .reopeningRoad →
      s.recoverOpening.book = s.returnAll.book ∧ s.recoverOpening.opening.group = s.returnAll.opening.group) := by
  have follow : ¬(s.role == .follow) = true := by simpa using lead
  have role : s.returnAll.clearSuspension.role = s.role := by rw [clearSuspension, modOpening_role, returnAll_frame]
  obtain ⟨ends, stays⟩ := s.returnAll_phaseStays
  unfold recoverOpening
  rw [if_neg follow]
  cases phase : s.opening.phase
  case idle => simp
  case locking | reopeningRoad => simp [clearSuspension]
  case pending | closingRoad =>
    have still : s.returnAll.clearSuspension.giveStep.opening = s.returnAll.clearSuspension.opening :=
      giveStep_still (role ▸ lead) (by
        rcases Decidable.em (s.opening.phase = .pending) with p | p
        · exact (ends (.inl p)).elim (fun q => .inr (.inl q)) .inl
        · exact .inr (.inr ((stays p).1.trans (by simp_all))))
    have book : s.returnAll.clearSuspension.giveStep.book = s.returnAll.book := by rw [giveStep_frame]; rfl
    dsimp only
    rw [still, book]
    simp [clearSuspension]
  case unlocking | raising | heldOpen | lowering =>
    have book : ∀ t : State, (t.setPhase .lowering).book = t.book := fun t => by rw [setPhase_frame]
    dsimp only
    rw [setPhase_opening, book]
    simp [clearSuspension]

theorem recoverOpening_kept (s : State) : s.recoverOpening.kept = s.kept := by
  unfold recoverOpening
  split
  · split <;> simp
  · split <;> simp [returnAll_kept, modOpening_kept]

end State

theorem exec_recoverLower (s : State) : exec (.recoverLower .operator) s = .next (s.asked.answer
    (if s.asked.faults.halted then .refuse .halted
    else if s.asked.motion.state != .stopped || !s.asked.apPermits .a || !s.asked.apPermits .b || !s.asked.freshOrSole ||
        !s.asked.lines.driveReady then .refuse .wrongState
    else if s.asked.role == .follow && !recoverPhase s.asked.opening.phase then .refuse .wrongState
    else if s.asked.role != .follow && s.asked.anyRec .passing then .refuse .inPassage
    else State.ok (s.asked.recoverOpening.startDown .recovery))) := rfl

/-- Settles O28: the refusals in the order of R80, and the accepted request as the change of the opening followed by the start
down. -/
theorem recoverLowers : Obligations.RecoverLowers := by
  intro s w ready passing
  have role : w.role = s.role := s.asked_role
  have test1 : (w.motion.state != .stopped || !w.apPermits .a || !w.apPermits .b || !w.freshOrSole || !w.lines.driveReady) =
      true ∨ (w.role == .follow && !recoverPhase w.opening.phase) = true ↔ ¬ready := by
    have recover : recoverPhase w.opening.phase = true ↔
        w.opening.phase = .lowering ∨ w.opening.phase = .locking ∨ w.opening.phase = .idle := by
      cases w.opening.phase <;> simp [recoverPhase]
    have permits := w.apsPermit_iff
    simp only [w, State.asked_usesAp, State.asked_zoneUse, State.asked_zones] at permits
    have fresh : w.freshOrSole = true ↔ (s.role ≠ .sole → s.link.paired = true) := by
      rw [State.freshOrSole_iff, role, State.asked_paired]
    have line : w.lines.driveReady = s.lines.driveReady := congrArg Lines.driveReady s.asked_lines
    rw [← not_iff_not, not_or, not_not]
    simp only [Bool.not_eq_true, Bool.or_eq_false_iff, Bool.and_eq_false_iff, Bool.not_eq_false', bne_eq_false_iff_eq, fresh,
      line, role, ready, recover, and_assoc, beq_eq_false_iff_ne]
    rw [← permits]
    tauto
  have test2 : (w.role != .follow && w.anyRec .passing) = true ↔ passing := by
    simp only [Bool.and_eq_true, bne_iff_ne, role, State.anyRec, List.any_eq_true, beq_iff_eq, passing]
  refine ⟨fun halted => ?_, fun run no => ?_, fun run yes busy => ?_, fun run yes free => ?_⟩
  · rw [exec_recoverLower, if_pos halted, State.answer_refuse]
  · rw [exec_recoverLower, if_neg (by rw [run]; simp)]
    rcases test1.mpr no with h | h
    · rw [if_pos h, State.answer_refuse]
    · rw [if_pos h, ite_self, State.answer_refuse]
  · obtain ⟨h1, h2⟩ := not_or.mp (mt test1.mp (not_not.mpr yes))
    rw [exec_recoverLower, if_neg (by rw [run]; simp), if_neg h1, if_neg h2, if_pos (test2.mpr busy), State.answer_refuse]
  · obtain ⟨h1, h2⟩ := not_or.mp (mt test1.mp (not_not.mpr yes))
    have done : exec (.recoverLower .operator) s = .next ((w.recoverOpening.startDown .recovery).settle.respond .ok []) := by
      rw [exec_recoverLower, if_neg (by rw [run]; simp), if_neg h1, if_neg h2, if_neg (mt test2.mp free), State.answer_ok]
    obtain ⟨frame, kept⟩ := State.startDown_frame w.recoverOpening (k := .recovery) (by simp)
    have kept' : w.recoverOpening.kept = { s.kept with prepare := false, lapse := .stopped } := by
      rw [State.recoverOpening_kept, s.asked_kept]
    have pos : w.recoverOpening.pos = s.pos := congrArg Kept.pos kept'
    have motion : w.recoverOpening.motion = w.motion :=
      (State.haltCore_eq_iff.mp (State.Path.recoverOpening_haltCore w)).2
    have angle : w.recoverOpening.angle = s.angle := State.angle_congr pos (congrArg Kept.settings kept')
    have opening : (w.recoverOpening.startDown .recovery).opening = w.recoverOpening.opening := by rw [frame]
    have book : (w.recoverOpening.startDown .recovery).book = w.recoverOpening.book := by rw [frame]
    refine ⟨_, done, kept.trans kept', fun off => ?_, fun seated => ?_, fun follow still => ?_, fun follow held => ?_,
      fun lead => ?_⟩
    · rw [State.startDown_off (by rw [pos]; exact off), motion, angle]
    · rw [State.startDown_seated (by rw [pos]; exact seated) (by simp)]
      exact ⟨rfl, State.isSeated_of_seatedState rfl⟩
    · rw [opening, State.recoverOpening_follow (role.trans follow) (yes.2.2.2.2 follow), still]
      rfl
    · rw [opening, State.recoverOpening_follow (role.trans follow) (yes.2.2.2.2 follow), held]
      rfl
    · obtain ⟨ends, idle, lowers, returns⟩ := State.recoverOpening_lead (s := w) (role ▸ lead)
      rw [opening, book]
      refine ⟨ends, fun p => by rw [idle p]; exact ⟨rfl, rfl⟩, fun p => ?_, fun p1 p2 p3 n on r found is => ?_⟩
      · obtain ⟨phase, close, linger, command, target⟩ := lowers p
        refine ⟨phase, close, linger, command, fun frozen => target.trans ?_⟩
        have past : w.opening.phase ≠ .pending := by rcases p with p | p | p | p <;> simp [p]
        exact ((w.returnAll_phaseStays.2 past).2 frozen).2
      · obtain ⟨book', group'⟩ := returns p1 p2 p3
        obtain ⟨r', found', booked, off⟩ := State.returnAll_booked on ⟨r, found, is⟩
        refine ⟨r', ?_, booked, group' ▸ off⟩
        rw [State.findRec_congr (book.trans book'), found']

end Sys2Proof.Machine
end

section
/-!
PROOFS. The span locks (R74, R77): the establishment, the travel expiry and a change of the limits.
-/

namespace Sys2Proof.Machine

open Sys2Proof

namespace State

/-- A lock record. -/
def lock (s : State) : LockId → Lock
  | .tail => s.locks.tail
  | .toe => s.locks.toe

/-- The state with a lock record written. -/
def setLock (s : State) (l : LockId) (k : Lock) : State :=
  match l with
  | .tail => { s with locks := { s.locks with tail := k } }
  | .toe => { s with locks := { s.locks with toe := k } }

theorem modLock_eq (s : State) (l : LockId) (f : Lock → Lock) : s.modLock l f = s.setLock l (f (s.lock l)) := by
  cases l <;> rfl

theorem setLock_lock (s : State) (l : LockId) : s.setLock l (s.lock l) = s := by
  cases l <;> rfl

theorem ownsLock_iff (s : State) (l : LockId) : s.ownsLock l = true ↔ ¬(l = .toe ∧ s.role = .follow) := by
  cases l <;> simp [ownsLock]

/-- An event on a lock that the part owns (R74). -/
theorem event_ownsLock {s : State} {l : LockId} (owns : ¬(l = .toe ∧ s.role = .follow)) (f : Lock → Lock) :
    (if s.wake.ownsLock l then s.wake.modLock l f else s.wake).settle = (s.wake.setLock l (f (s.wake.lock l))).settle := by
  rw [if_pos ((ownsLock_iff _ _).mpr (by rwa [wake_role])), modLock_eq]

/-- An event on a lock that the part does not own, or whose record it leaves, changes nothing (R74). -/
theorem event_lockStays {s : State} {l : LockId} {f : Lock → Lock}
    (h : l = .toe ∧ s.role = .follow ∨ f (s.wake.lock l) = s.wake.lock l) :
    (if s.wake.ownsLock l then s.wake.modLock l f else s.wake).settle = s.wake.settle := by
  rcases h with foreign | still
  · rw [if_neg]
    rw [ownsLock_iff, not_not, wake_role]
    exact foreign
  · rw [modLock_eq, still, setLock_lock, ite_self]

end State

theorem exec_lockLimitsEstablished (s : State) (l : LockId) (wd dr : Bool) : exec (.lockLimitsEstablished l wd dr) s =
    .next (if s.wake.ownsLock l then
      s.wake.modLock l fun k => if k.limits.isSome then k else k.establish { withdrawn := wd, driven := dr }
    else s.wake).settle := rfl

theorem exec_lockLimitChange (s : State) (l : LockId) (wd dr : Bool) : exec (.lockLimitChange l wd dr) s =
    .next (if s.wake.ownsLock l then
      s.wake.modLock l fun k => if k.limits.isSome then k.limitChange { withdrawn := wd, driven := dr } else k
    else s.wake).settle := rfl

theorem exec_lockTimeExpiry (s : State) (l : LockId) : exec (.lockTimeExpiry l) s =
    .next (s.wake.setLock l (if (s.wake.lock l).timer.isRunning then
      { s.wake.lock l with state := .jammed, timer := .stopped } else s.wake.lock l)).settle := by
  rw [← State.modLock_eq s.wake l fun k => if k.timer.isRunning then { k with state := .jammed, timer := .stopped } else k]
  rfl

/-- Settles O30: the two events through the one lock record they may write. -/
theorem locksEstablished : Obligations.LocksEstablished := by
  refine ⟨?_, fun s l ms running => ?_⟩
  · intro s l wd dr k settled
    have lock : k = s.wake.lock l := by cases l <;> rfl
    have settled_eq (k : Lock) : settled k = (s.wake.setLock l k).settle := by cases l <;> rfl
    refine ⟨fun h => ?_, fun owns fresh => ?_⟩
    · rw [exec_lockLimitsEstablished, State.event_lockStays]
      refine h.imp_right fun known => if_pos ?_
      rw [← lock]
      exact Option.isSome_iff_ne_none.mpr known
    · rw [exec_lockLimitsEstablished, State.event_ownsLock owns, settled_eq, ← lock, fresh]
      cases wd <;> cases dr <;> rfl
  · have timer : (s.wake.lock l).timer.isRunning = true := by
      cases l
      all_goals
        simp only at running
        simp only [State.lock, running]
        rfl
    rw [exec_lockTimeExpiry, if_pos timer]
    cases l <;> rfl

/-- Settles O31, by the state of the lock. -/
theorem lockLimitsTaken : Obligations.LockLimitsTaken := by
  intro s l wd dr k settled
  have lock : k = s.wake.lock l := by cases l <;> rfl
  have settled_eq (k : Lock) : settled k = (s.wake.setLock l k).settle := by cases l <;> rfl
  refine ⟨fun h => ?_, fun owns known => ⟨k.limitChange { withdrawn := wd, driven := dr }, ?_, ?_⟩⟩
  · rw [exec_lockLimitChange, State.event_lockStays]
    refine h.imp_right fun fresh => if_neg ?_
    rw [← lock, fresh]
    simp
  · rw [exec_lockLimitChange, State.event_ownsLock owns, settled_eq, ← lock, if_pos (Option.isSome_iff_ne_none.mpr known)]
  · clear_value k
    cases state : k.state <;> cases wd <;> cases dr <;> simp [Lock.limitChange, state]

end Sys2Proof.Machine
end

section
/-!
SUPPORT. Requests and events of the road (R84 to R91, R105 to R107): what a change of one gate, or of every used approach, does
to each gate, and what of the gates and the approaches the reactions keep.
-/

namespace Sys2Proof.Machine

open Sys2Proof

namespace State

/-! ### A change of the approaches alone -/

/-- Two states that differ in the approaches at most. -/
def SameButAps (s t : State) : Prop := t = { s with apA := t.apA, apB := t.apB }

theorem SameButAps.refl (s : State) : s.SameButAps s := rfl

theorem SameButAps.trans {s t u : State} (h : s.SameButAps t) (h' : t.SameButAps u) : s.SameButAps u := by
  unfold SameButAps at *
  rw [h', h]

theorem onAp_sameButAps (s : State) (x : Ap) (f : RoadCtx → Approach → Approach) : s.SameButAps (s.onAp x f) :=
  onAp_frame s x f

theorem onUsedAps_sameButAps (s : State) (f : RoadCtx → Approach → Approach) : s.SameButAps (s.onUsedAps f) :=
  onUsedAps_frame s f

theorem onGate_sameButAps (s : State) (g : GateId) (f : RoadCtx → Closure → GateKind → Gate → Gate) :
    s.SameButAps (s.onGate g f) :=
  onAp_frame s g.ap _

theorem setAp_sameButAps (s : State) (x : Ap) (a : Approach) : s.SameButAps (s.setAp x a) := by
  cases x <;> rfl

theorem SameButAps.kept {s t : State} (h : s.SameButAps t) :
    t.kept = { s.kept with apA := t.apA.kept, apB := t.apB.kept } := by
  rw [h]
  rfl

theorem SameButAps.usesAp {s t : State} (h : s.SameButAps t) (x : Ap) : t.usesAp x = s.usesAp x := by
  rw [h]
  cases x <;> rfl

theorem SameButAps.gateUsed {s t : State} (h : s.SameButAps t) (g : GateId) : t.gateUsed g = s.gateUsed g := by
  rw [h]
  rfl

/-- An event that changes the approaches alone keeps, beside them, everything the reactions keep. -/
theorem SameButAps.settle_kept {s u : State} (h : s.wake.SameButAps u) :
    u.settle.kept = { s.kept with apA := u.settle.apA.kept, apB := u.settle.apB.kept } := by
  rw [State.settle_kept, settle_apA, settle_apB, h.kept, wake_kept]

theorem SameButAps.answer_kept {s u : State} (h : s.asked.SameButAps u) : (u.settle.respond .ok []).kept =
    { s.keptAnswer .ok [] with
        apA := (u.settle.respond .ok []).apA.kept, apB := (u.settle.respond .ok []).apB.kept } := by
  have port : u.port = s.port := (congrArg State.port h).trans s.asked_port
  have respond (t : State) : (t.respond .ok []).apA = t.apA ∧ (t.respond .ok []).apB = t.apB := ⟨rfl, rfl⟩
  rw [settle_respond_keptAnswer [] port, (respond _).1, (respond _).2, settle_apA, settle_apB, h.kept, asked_kept]
  rfl

/-! ### The approaches and the gates that the reactions keep -/

theorem settle_apKept (s : State) (x : Ap) : (s.settle.ap x).kept = (s.ap x).kept := by
  cases x
  · exact s.settle_apA
  · exact s.settle_apB

theorem asked_apKept (s : State) (x : Ap) : (s.asked.ap x).kept = (s.ap x).kept := s.wake_apKept x

theorem gate_kept_of_ap {s t : State} {g : GateId} (h : (t.ap g.ap).kept = (s.ap g.ap).kept) :
    (t.gate g).kept = (s.gate g).kept := by
  have each (a : Approach) : a.kept.gates.at g.ix = (a.gates.at g.ix).kept := Six.zip_at _ _ _ _
  unfold gate
  rw [← each, h, each]

@[simp] theorem settle_gateKept (s : State) (g : GateId) : (s.settle.gate g).kept = (s.gate g).kept :=
  gate_kept_of_ap (s.settle_apKept g.ap)

@[simp] theorem wake_gateKept (s : State) (g : GateId) : (s.wake.gate g).kept = (s.gate g).kept :=
  gate_kept_of_ap (s.wake_apKept g.ap)

@[simp] theorem asked_gateKept (s : State) (g : GateId) : (s.asked.gate g).kept = (s.gate g).kept := s.wake_gateKept g

@[simp] theorem wake_gateUsed (s : State) (g : GateId) : s.wake.gateUsed g = s.gateUsed g :=
  gateUsed_congr s.wake_role s.wake_settings g

@[simp] theorem asked_gateUsed (s : State) (g : GateId) : s.asked.gateUsed g = s.gateUsed g := s.wake_gateUsed g

/-! ### One gate, or the gates of every used approach -/

theorem onGate_ap (s : State) (g : GateId) (f : RoadCtx → Closure → GateKind → Gate → Gate) (x : Ap) :
    (s.onGate g f).ap x = { s.ap x with gates := ((s.onGate g f).ap x).gates } := by
  unfold onGate
  rw [onAp_ap]
  split
  next h => rw [h]
  next => rfl

theorem onGate_gate (s : State) (g h : GateId) (f : RoadCtx → Closure → GateKind → Gate → Gate) :
    (s.onGate g f).gate h =
      if h = g then f (s.roadCtx g.ap) (s.ap g.ap).closure ((s.kinds g.ap).at g.ix) (s.gate g) else s.gate h := by
  obtain ⟨x, i⟩ := g
  obtain ⟨y, j⟩ := h
  unfold gate onGate
  rw [onAp_ap]
  by_cases ap : y = x
  · subst ap
    simp only [if_true, Six.put_at, GateId.mk.injEq, true_and]
    rfl
  · simp [ap]

theorem onGate_other {s : State} {g h : GateId} (f : RoadCtx → Closure → GateKind → Gate → Gate) (ne : h ≠ g) :
    (s.onGate g f).gate h = s.gate h := by
  rw [onGate_gate, if_neg ne]

theorem onGate_same (s : State) (g : GateId) (f : RoadCtx → Closure → GateKind → Gate → Gate) : (s.onGate g f).gate g =
    f (s.roadCtx g.ap) (s.ap g.ap).closure ((s.kinds g.ap).at g.ix) (s.gate g) := by
  rw [onGate_gate, if_pos rfl]

/-! ### The code of a gate -/

end State

theorem GateId.ofCode?_eq_some_iff (n : Nat) (g : GateId) : GateId.ofCode? n = some g ↔ g.code = n := by
  obtain ⟨x, i, hi⟩ := g
  unfold GateId.ofCode?
  cases x
  · constructor
    · intro h
      split at h
      · simp only [Option.some.injEq, GateId.mk.injEq, Fin.mk.injEq, true_and] at h
        exact h.symm
      · split at h <;> simp at h
    · rintro rfl
      exact dif_pos hi
  · constructor
    · intro h
      split at h
      · simp at h
      · split at h
        · simp only [Option.some.injEq, GateId.mk.injEq, Fin.mk.injEq, true_and] at h
          show 6 + i = n
          omega
        · simp at h
    · rintro rfl
      have high : ¬(6 + i < 6) := by omega
      have low : 6 + i - 6 < 6 := by omega
      refine (dif_neg high).trans ((dif_pos low).trans ?_)
      simp [GateId.code]

namespace State

theorem usedGate?_of_unused {s : State} {n : Nat} (h : ∀ g : GateId, g.code = n → s.gateUsed g = false) :
    s.usedGate? n = none := by
  unfold usedGate?
  rw [Option.filter_eq_none_iff]
  intro g code
  rw [h g ((GateId.ofCode?_eq_some_iff n g).mp code)]
  exact Bool.false_ne_true

theorem usedGate?_of_used {s : State} {n : Nat} {g : GateId} (code : g.code = n) (used : s.gateUsed g = true) :
    s.usedGate? n = some g := by
  unfold usedGate?
  rw [(GateId.ofCode?_eq_some_iff n g).mpr code, Option.filter_some, if_pos used]

end State

end Sys2Proof.Machine
end

section
/-!
PROOFS. The requests and the establishment of the road: the lane holds (R107), a gate tried again (R91), the limits established
(R86), and the closure and reopening starts (R97, R103, R105, R106).
-/

namespace Sys2Proof.Machine

open Sys2Proof

/-! ### The lane holds (R107) -/

theorem Gate.setHold_kept (x : RoadCtx) (c : Closure) (k : GateKind) (held : Bool) (g : Gate) :
    (g.setHold x c k held).kept = { g.kept with held := held } := by
  unfold Gate.setHold
  split
  next same => rw [← eq_of_beq same]; rfl
  next =>
    split
    next on => rw [Gate.maybeFlash_kept, on]; rfl
    next off => rw [Bool.not_eq_true] at off; rw [off]; rfl

theorem Approach.kept_zones (a : Approach) : a.kept.zones = a.zones := rfl

theorem Approach.kept_amberHealth (a : Approach) : a.kept.amberHealth = a.amberHealth := rfl

namespace State

theorem respond_ap (s : State) (r : Result) (d : List Byte) (x : Ap) : (s.respond r d).ap x = s.ap x := by
  cases x <;> rfl

theorem respond_gate (s : State) (r : Result) (d : List Byte) (g : GateId) : (s.respond r d).gate g = s.gate g := by
  rw [gate, respond_ap]
  rfl

theorem setHolds_gate (s : State) (held : Bool) (g : GateId) :
    ((s.onUsedAps fun x a => a.setHolds x held).gate g).kept =
      if s.gateUsed g = true then { (s.gate g).kept with held := held } else (s.gate g).kept := by
  by_cases uses : s.usesAp g.ap = true
  · have own : (s.onUsedAps fun x a => a.setHolds x held).gate g =
        if (s.kinds g.ap).at g.ix == GateKind.unused then s.gate g
        else (s.gate g).setHold (s.roadCtx g.ap) (s.ap g.ap).closure ((s.kinds g.ap).at g.ix) held := by
      unfold gate
      rw [onUsedAps_ap, if_pos uses]
      exact Six.zip_at _ _ _ _
    rw [own, gateUsed]
    by_cases unused : (s.kinds g.ap).at g.ix = .unused
    · simp [unused]
    · rw [if_neg (by simpa using unused), Gate.setHold_kept, if_pos (by simpa using unused)]
  · have own : (s.onUsedAps fun x a => a.setHolds x held).gate g = s.gate g := by
      unfold gate
      rw [onUsedAps_ap, if_neg uses]
    rw [own, if_neg (mt usesAp_of_gateUsed uses)]

/-- A change of gates alone leaves the detectors and the amber groups as they are, also after the reactions. -/
theorem readings_of_gates {s u : State} (h : ∀ x, u.ap x = { s.asked.ap x with gates := (u.ap x).gates }) (x : Ap) :
    ((u.settle.respond .ok []).ap x).zones = (s.ap x).zones ∧
      ((u.settle.respond .ok []).ap x).amberHealth = (s.ap x).amberHealth := by
  have zones : (u.ap x).zones = (s.asked.ap x).zones := by rw [h x]
  have amber : (u.ap x).amberHealth = (s.asked.ap x).amberHealth := by rw [h x]
  rw [respond_ap, ← Approach.kept_zones, ← Approach.kept_amberHealth, settle_apKept, Approach.kept_zones,
    Approach.kept_amberHealth, zones, amber, ← Approach.kept_zones, ← Approach.kept_amberHealth, asked_apKept]
  exact ⟨rfl, rfl⟩

end State

theorem exec_holdLane (s : State) (held : Bool) (n : Nat) :
    exec (if held then Instr.holdLane .operator n else Instr.releaseLane .operator n) s =
      .next (s.asked.answer (s.asked.holdRequest n held)) := by
  cases held <;> rfl

theorem exec_holdAll (s : State) (held : Bool) :
    exec (if held then Instr.holdAll .operator else Instr.releaseAll .operator) s =
      .next (s.asked.answer (State.ok (s.asked.onUsedAps fun x a => a.setHolds x held))) := by
  cases held
  · exact s.request_allowed .operator [.operator] (fun t => State.ok (t.onUsedAps fun x a => a.setHolds x false)) rfl
  · exact s.request_allowed .operator [.operator] (fun t => State.ok (t.onUsedAps fun x a => a.setHolds x true)) rfl

/-- Settles O32: one gate, or every used gate, takes the hold; the reactions keep the holds and the readings. -/
theorem laneRequests : Obligations.LaneRequests := by
  intro s held n one all
  refine ⟨fun none_ => ?_, fun g code used => ?_, ?_⟩
  · rw [exec_holdLane, State.holdRequest, State.usedGate?_of_unused (by simpa using none_), State.answer_refuse]
  · have run : exec one s = .next ((s.asked.setHold g held).settle.respond .ok []) := by
      rw [exec_holdLane, State.holdRequest, State.usedGate?_of_used code (by simpa using used), State.answer_ok]
    refine ⟨_, run, (State.onGate_sameButAps _ _ _).answer_kept, ?_, fun h ne => ?_,
      State.readings_of_gates (State.onGate_ap _ _ _)⟩
    · rw [State.respond_gate, State.settle_gateKept, State.setHold, State.onGate_same, Gate.setHold_kept, State.asked_gateKept]
    · rw [State.respond_gate, State.settle_gateKept, State.setHold, State.onGate_other _ ne, State.asked_gateKept]
  · have run := exec_holdAll s held
    rw [State.answer_ok] at run
    refine ⟨_, run, (State.onUsedAps_sameButAps _ _).answer_kept, fun g => ?_, State.readings_of_gates fun x => ?_⟩
    · rw [State.respond_gate, State.settle_gateKept, State.setHolds_gate, State.asked_gateKept, State.asked_gateUsed]
    · rw [State.onUsedAps_ap]
      split <;> rfl

/-! ### RETRY_GATE (R86, R91) -/

/-- The state a gate takes from its limits, read off them (R86). -/
theorem Gate.stateFromLimits_eq (g : Gate) : g.stateFromLimits =
    match g.limits with
    | some ⟨true, false⟩ => .up
    | some ⟨false, true⟩ => .down
    | _ => .unknown := by
  rcases h : g.limits with _ | ⟨up, down⟩
  · simp [Gate.stateFromLimits, Gate.upAlone, Gate.downAlone, h]
  · cases up <;> cases down <;> simp [Gate.stateFromLimits, Gate.upAlone, Gate.downAlone, h]

theorem exec_retryGate (s : State) (n : Nat) : exec (.retryGate .operator n) s =
    .next (s.asked.answer (match s.asked.usedGate? n with
      | none => .refuse .badValue
      | some g =>
        if (s.asked.gate g).state == .jammed || (s.asked.gate g).state == .unknown then
          State.ok (s.asked.onGate g fun _ _ _ x => x.retry)
        else .refuse .wrongState)) := rfl

/-- Settles O34: the gate that the code names, where it is one, takes `Gate.retry`. -/
theorem gateRetried : Obligations.GateRetried := by
  intro s n w
  refine ⟨fun none_ => ?_, fun g code used => ⟨fun jammed unknown => ?_, fun rests => ?_⟩⟩
  · rw [exec_retryGate, State.usedGate?_of_unused (by simpa using none_)]
    exact congrArg Host.Outcome.next (State.answer_refuse _ _)
  · rw [exec_retryGate, State.usedGate?_of_used code (by simpa using used)]
    dsimp only
    rw [if_neg (by simpa [w] using ⟨jammed, unknown⟩), State.answer_refuse]
  · refine ⟨w.onGate g fun _ _ _ x => x.retry, ?_, State.onGate_sameButAps _ _ _, State.onGate_ap _ _ _,
      fun h ne => State.onGate_other _ ne, ?_⟩
    · rw [exec_retryGate, State.usedGate?_of_used code (by simpa using used)]
      dsimp only
      rw [if_pos (by simpa using rests), State.answer_ok]
    · refine (State.onGate_same _ _ _).trans ?_
      exact congrArg
        (fun st => { w.gate g with
          retryCount := 0, retryWait := .stopped, travel := .stopped, reversing := false, state := st })
        (Gate.stateFromLimits_eq { w.gate g with retryCount := 0, retryWait := .stopped })

/-! ### The limits established (R86) -/

theorem exec_gateLimitsEstablished (s : State) (a b : Six GateLimits) : exec (.gateLimitsEstablished a b) s =
    .next (let u := s.wake.onAp .a fun x y => y.establish x a
      if u.usesAp .b then u.onAp .b fun x y => y.establish x b else u).settle := rfl

/-- The limits of both approaches are established on each approach that the part uses (R84, R86). -/
theorem State.establish_ap (s : State) (a b : Six GateLimits) (x : Ap) :
    (let u := s.onAp .a fun x y => y.establish x a
      if u.usesAp .b then u.onAp .b fun x y => y.establish x b else u).ap x =
      if s.usesAp x = true then (s.ap x).establish (s.roadCtx x) (match x with | .a => a | .b => b) else s.ap x := by
  dsimp only
  rw [(s.onAp_sameButAps .a _).usesAp]
  cases x with
  | a => split <;> rfl
  | b => split <;> rfl

/-- What the establishment makes of one gate (R86). -/
theorem Approach.establish_gate (x : RoadCtx) (a : Approach) (l : Six GateLimits) (i : Fin 6) :
    (a.establish x l).gates.at i =
      if (a.gates.at i).limits.isSome then a.gates.at i
      else if x.kinds.at i == .unused then { a.gates.at i with limits := some (l.at i) }
      else (a.gates.at i).establish (l.at i) := by
  unfold Approach.establish
  dsimp only
  rw [Six.zip_at, Six.zip_at]

/-- Settles O35, gate by gate. -/
theorem gatesEstablished : Obligations.GatesEstablished := by
  intro s a b
  refine ⟨_, exec_gateLimitsEstablished s a b, ?_, fun x => ?_, fun g => ?_⟩
  · dsimp only
    split
    · exact (s.wake.onAp_sameButAps _ _).trans (State.onAp_sameButAps _ _ _)
    · exact s.wake.onAp_sameButAps _ _
  · rw [State.establish_ap]
    split <;> rfl
  · intro k l
    have own : (let u := s.wake.onAp .a fun x y => y.establish x a
        if u.usesAp .b then u.onAp .b fun x y => y.establish x b else u).gate g =
        if s.usesAp g.ap = true then
          if k.limits.isSome then k
          else if (s.wake.kinds g.ap).at g.ix == .unused then { k with limits := some l } else k.establish l
        else k := by
      rw [State.gate, State.establish_ap, s.wake_usesAp]
      split
      · rw [Approach.establish_gate]
        rfl
      · rfl
    rw [own]
    clear own
    have used_iff : s.gateUsed g = true ↔ (s.wake.kinds g.ap).at g.ix ≠ .unused := by
      rw [← s.wake_gateUsed, State.gateUsed, bne_iff_ne]
    refine ⟨fun h => ?_, fun uses fresh => ?_⟩
    · rcases h with out | known
      · rw [out]
        rfl
      · rw [if_pos (Option.isSome_iff_ne_none.mpr known), ite_self]
    · rw [if_pos uses, fresh]
      dsimp only [Option.isSome_none]
      rw [if_neg (by simp)]
      by_cases used : (s.wake.kinds g.ap).at g.ix = .unused
      · rw [if_pos (by simpa using used)]
        exact ⟨rfl, fun h => absurd used (used_iff.mp h), fun _ => rfl⟩
      · rw [if_neg (by simpa using used)]
        clear_value k
        refine ⟨?_, fun _ rests => ?_, fun other => ?_⟩
        · unfold Gate.establish
          dsimp only
          split <;> rfl
        · have atRest : ({ k with limits := some l } : Gate).atRest = true := by
            rcases rests with h | h | h <;> simp [Gate.atRest, h]
          rw [Gate.establish, if_pos atRest, Gate.restFromLimits]
          refine ⟨rfl, (Gate.stateFromLimits_eq _).trans ?_⟩
          clear_value l
          obtain ⟨up, down⟩ := l
          cases up <;> cases down <;> rfl
        · have moving := other.resolve_left (by rw [Bool.not_eq_false, used_iff]; exact used)
          have atRest : ({ k with limits := some l } : Gate).atRest = false := by
            rcases moving with h | h | h <;> simp [Gate.atRest, h]
          rw [Gate.establish, if_neg (by rw [atRest]; simp)]

/-! ### CLOSE_ROAD and REOPEN_ROAD (R97, R103, R105, R106) -/

theorem exec_closeRoad (s : State) : exec (.closeRoad .operator) s = .next (s.asked.answer
    (if s.asked.faults.halted then .refuse .halted
    else if !s.asked.phaseIdle then .refuse .wrongState
    else State.ok (s.asked.onUsedAps fun x a => a.closureStart x))) :=
  s.request_allowed .operator [.operator]
    (fun t =>
      if t.faults.halted then .refuse .halted
      else if !t.phaseIdle then .refuse .wrongState
      else State.ok (t.onUsedAps fun x a => a.closureStart x)) rfl

theorem exec_reopenRoad (s : State) : exec (.reopenRoad .operator) s = .next (s.asked.answer
    (if s.asked.faults.halted then .refuse .halted
    else if !s.asked.phaseIdle || s.asked.motion.state != .seatedLocked ||
        !s.asked.allUsedAps (fun c => c == .restart || c == .closed) then .refuse .wrongState
    else State.ok (s.asked.onUsedAps fun x a => a.reopeningStart x))) :=
  s.request_allowed .operator [.operator]
    (fun t =>
      if t.faults.halted then .refuse .halted
      else if !t.phaseIdle || t.motion.state != .seatedLocked || !t.allUsedAps (fun c => c == .restart || c == .closed) then
        .refuse .wrongState
      else State.ok (t.onUsedAps fun x a => a.reopeningStart x)) rfl

/-- A closure start (R97): from OPEN_ROAD, RESTART and REOPENING to PREWARN, nothing elsewhere. -/
theorem Approach.closureStart_spec (x : RoadCtx) (a : Approach) :
    if a.closure = .openRoad ∨ a.closure = .restart ∨ a.closure = .reopening then
      (a.closureStart x).closure = .prewarn ∧ (a.closureStart x).reopenStep = none ∧
        (a.closureStart x).advancePending = false ∧ (a.closureStart x).stateTimer = Timer.startS x.prewarnTime
    else a.closureStart x = a := by
  cases h : a.closure <;> simp [Approach.closureStart, h, Approach.enter]

/-- A reopening start (R103) from CLOSED and RESTART. -/
theorem Approach.reopeningStart_spec (x : RoadCtx) {a : Approach} (h : a.closure = .restart ∨ a.closure = .closed) :
    (a.reopeningStart x).closure = .reopening ∧ (a.reopeningStart x).reopenStep = some .exit ∧
      (a.reopeningStart x).advancePending = false ∧ (a.reopeningStart x).stateTimer = .stopped := by
  rcases h with h | h <;> simp [Approach.reopeningStart, h, Approach.enter]

/-- Settles O33: the refusals of the two requests, and the start given to each used approach. -/
theorem roadRequests : Obligations.RoadRequests := by
  intro s w idle shut
  have idle_iff : w.phaseIdle = true ↔ idle := by
    rw [State.phaseIdle_iff, State.asked_role, State.asked_paired]
  have shut_iff : (!w.phaseIdle || w.motion.state != .seatedLocked ||
      !w.allUsedAps (fun c => c == .restart || c == .closed)) = false ↔ shut := by
    simp only [Bool.or_eq_false_iff, Bool.not_eq_false', idle_iff, bne_eq_false_iff_eq, State.allUsedAps_iff,
      Bool.or_eq_true, beq_iff_eq, and_assoc, w, State.asked_usesAp, shut]
  have aps (f : RoadCtx → Approach → Approach) (x : Ap) : (w.onUsedAps f).ap x =
      if s.usesAp x = true then f (w.roadCtx x) (w.ap x) else w.ap x := by
    rw [State.onUsedAps_ap, s.asked_usesAp]
  have items : w.items = s.items := s.asked_items
  refine ⟨fun halted => ⟨?_, ?_⟩, fun run no => ?_, fun run no => ?_, fun run yes => ?_, fun run yes => ?_⟩
  · rw [exec_closeRoad, if_pos halted, State.answer_refuse]
  · rw [exec_reopenRoad, if_pos halted, State.answer_refuse]
  · have no' : (!w.phaseIdle) = true := by simpa using mt idle_iff.mp no
    rw [exec_closeRoad, if_neg (by rw [run]; simp), if_pos no', State.answer_refuse]
  · rw [exec_reopenRoad, if_neg (by rw [run]; simp), if_pos ((Bool.not_eq_false _).mp (mt shut_iff.mp no)), State.answer_refuse]
  · have yes' : (!w.phaseIdle) = false := by simpa using idle_iff.mpr yes
    refine ⟨w.onUsedAps fun x a => a.closureStart x, ?_, State.onUsedAps_sameButAps _ _, fun x => ?_⟩
    · rw [exec_closeRoad, if_neg (by rw [run]; simp), if_neg (by rw [yes']; simp), State.answer_ok]
    · rw [aps]
      by_cases uses : s.usesAp x = true
      · have spec := Approach.closureStart_spec (w.roadCtx x) (w.ap x)
        have prewarn : Timer.startS (w.roadCtx x).prewarnTime = .running (s.items.road.prewarnTime * 1000).toNat := by
          rw [← items]
          rfl
        rw [prewarn] at spec
        rw [if_pos uses]
        refine ⟨Approach.closureStart_kept _ _, ?_⟩
        simpa only [uses, true_and] using spec
      · rw [if_neg uses]
        exact ⟨rfl, by rw [if_neg fun h => uses h.1]⟩
  · refine ⟨w.onUsedAps fun x a => a.reopeningStart x, ?_, State.onUsedAps_sameButAps _ _, fun x => ?_⟩
    · rw [exec_reopenRoad, if_neg (by rw [run]; simp), if_neg (by rw [shut_iff.mpr yes]; simp), State.answer_ok]
    · rw [aps]
      by_cases uses : s.usesAp x = true
      · rw [if_pos uses, if_pos uses]
        exact ⟨Approach.reopeningStart_kept _ _, Approach.reopeningStart_spec _ (yes.2.2 x uses)⟩
      · rw [if_neg uses, if_neg uses]
        exact ⟨rfl, rfl⟩

end Sys2Proof.Machine
end

section
/-!
SUPPORT. A gate through the rounds of the settling (R87 to R90): the demand, the pursuit, the travel and the obstruction of one
round, and what of a gate at rest every later round leaves.
-/

namespace Sys2Proof.Machine

open Sys2Proof

namespace Gate

/-! ### The parts of a gate's round -/

/-- The demand formed afresh: at UP the retry count is cleared, at DOWN a reversal ends (R88, R90). -/
theorem demandTo_eq (g : Gate) (d : Demand) : g.demandTo d =
    { g with
        demand := d, retryCount := if d = .up ∧ g.demand ≠ .up then 0 else g.retryCount,
        reversing := if d = .down ∧ g.demand ≠ .down then false else g.reversing } := by
  unfold demandTo
  by_cases same : d = g.demand
  · subst same
    simp
  · rw [if_neg (by simpa using same)]
    cases d <;> simp [Ne.symm same]

/-- A held gate is never asked up (R87). -/
theorem demandOf_held {g : Gate} (held : g.held = true) (c : Closure) (st : Option ReopenStep) (k : GateKind) :
    demandOf c st k g ≠ .up := by
  have plain : (if g.holdFlash.isRunning then Demand.none else .down) ≠ .up := by split <;> decide
  unfold demandOf
  cases k
  case unused => simp
  all_goals
    cases c
    case entryLowering | clearing => simp [held, GateKind.bars, plain]
    all_goals simp [held, plain]

/-- A gate may rise: it is released, on a SEATED_LOCKED leaf (R88). -/
def MayRise (x : RoadCtx) (g : Gate) : Prop := g.held = false ∧ x.locked = true

theorem pursue_lowering {x : RoadCtx} {g : Gate} (h : g.state = .lowering) (stays : ¬(g.demand = .up ∧ g.MayRise x)) :
    g.pursue x = g := by
  unfold pursue
  simp only [h]
  rw [if_neg]
  simpa [MayRise] using stays

theorem pursue_raising {x : RoadCtx} {g : Gate} (h : g.state = .raising) (may : g.MayRise x)
    (stays : g.demand = .down → g.reversing = true) : g.pursue x = g := by
  unfold pursue
  simp only [h]
  rw [if_neg]
  simpa [may.1, may.2] using stays

/-- The pursuit leaves the readings and the demand, and a moving gate moving (R88). -/
theorem pursue_keeps (x : RoadCtx) (g : Gate) : (g.pursue x).demand = g.demand ∧ (g.pursue x).kept = g.kept ∧
    (g.state = .lowering ∨ g.state = .raising → (g.pursue x).state = .lowering ∨ (g.pursue x).state = .raising) := by
  rcases g.pursue_cases x with ⟨same, -⟩ | ⟨-, down | ⟨-, up⟩⟩
  · rw [same]; exact ⟨rfl, rfl, id⟩
  · rw [down]; exact ⟨rfl, rfl, fun _ => .inl rfl⟩
  · rw [up]; exact ⟨rfl, rfl, fun _ => .inr rfl⟩

theorem endTravel_keeps (x : RoadCtx) (c : Closure) (k : GateKind) (g : Gate) : (g.endTravel x c k).demand = g.demand := by
  unfold endTravel
  dsimp only
  repeat' split
  all_goals first | rfl | (rw [maybeFlash_frame])

theorem meetObstruct_keeps (x : RoadCtx) (g : Gate) : (g.meetObstruct x).demand = g.demand := by
  unfold meetObstruct
  repeat' split
  all_goals rfl

/-- A gate that is not moving ends no travel and meets no obstruction (R89, R90). -/
theorem endTravel_still {x : RoadCtx} {c : Closure} {k : GateKind} {g : Gate} (l : g.state ≠ .lowering) (r : g.state ≠ .raising) :
    g.endTravel x c k = g := by
  simp [endTravel, l, r]

theorem meetObstruct_still {x : RoadCtx} {g : Gate} (l : g.state ≠ .lowering) : g.meetObstruct x = g := by
  simp [meetObstruct, l]

theorem round_used {x : RoadCtx} {c : Closure} {st : Option ReopenStep} {k : GateKind} (used : k ≠ .unused) (g : Gate) :
    g.round x c st k = (((g.demandTo (demandOf c st k g)).pursue x).endTravel x c k).meetObstruct x := by
  unfold round
  rw [if_neg (by simpa using used)]

end Gate

namespace State

/-! ### A gate through one round, and through the settling -/

theorem reportAll_frame_aps (s : State) : s.reportAll.apA = s.apA ∧ s.reportAll.apB = s.apB ∧
    s.reportAll.settings = s.settings ∧ s.reportAll.role = s.role := by
  unfold reportAll
  dsimp only
  split
  · exact ⟨rfl, rfl, rfl, rfl⟩
  · split
    · rw [enterHalt_frame]
      exact ⟨rfl, rfl, rfl, rfl⟩
    · exact ⟨rfl, rfl, rfl, rfl⟩

/-- The outputs write of a gate its lamp alone (R93). -/
theorem outputs_gate (s : State) (g : GateId) : s.outputs.gate g = { s.gate g with lamp := (s.outputs.gate g).lamp } := by
  show s.aspectStage.lampStage.gate g = { s.gate g with lamp := (s.aspectStage.lampStage.gate g).lamp }
  unfold gate lampStage
  rw [onUsedAps_ap]
  split
  · rw [show (Approach.setLamps _ _).gates.at g.ix = _ from Six.zip_at _ _ _ _]
    rfl
  · rfl

/-- The stages of a round before the approach controllers. -/
def beforeRoad (s : State) : State :=
  s.reportAll.permitStage.angleStage.endSuspension.tryCommand.seatLockStage.toeStage

theorem beforeRoad_gates (s : State) : s.GatesRest s.beforeRoad := by
  obtain ⟨a, b, -, -⟩ := reportAll_frame_aps s
  refine (GatesRest.of_aps a b : s.GatesRest s.reportAll).trans ?_
  have permit : s.reportAll.GatesRest s.reportAll.permitStage.angleStage := by
    rw [angleStage_frame, permitStage_frame]
    exact .of_aps rfl rfl
  refine permit.trans ((endSuspension_gates _).trans ((tryCommand_gates _).trans ?_))
  unfold beforeRoad
  rw [toeStage_frame, seatLockStage_frame]
  exact .of_aps rfl rfl

theorem beforeRoad_kept (s : State) : s.beforeRoad.kept = s.kept := by simp [beforeRoad]

theorem round_eq (s : State) : s.round = s.beforeRoad.roadStage.startTest.advancePhase.channelStage.outputs := rfl

/-- A round gives a used gate the gate's own round, but for its flash before and after it, and its lamp. -/
theorem round_gate {s : State} {g : GateId} (used : s.gateUsed g = true) : ∃ (x : RoadCtx) (c : Closure)
    (st : Option ReopenStep) (k : GateKind) (flash : Timer), k ≠ .unused ∧ x.obstructWait = s.items.road.obstructWait ∧
      s.round.gate g = { ({ s.gate g with holdFlash := flash }).round x c st k with
        holdFlash := (s.round.gate g).holdFlash, lamp := (s.round.gate g).lamp } := by
  have used' : s.beforeRoad.gateUsed g = true :=
    (gateUsed_congr (congrArg Kept.role s.beforeRoad_kept) (congrArg Kept.settings s.beforeRoad_kept) g).trans used
  have settings : s.beforeRoad.settings = s.settings := congrArg Kept.settings s.beforeRoad_kept
  have rest : s.beforeRoad.roadStage.GatesRest s.beforeRoad.roadStage.startTest.advancePhase.channelStage :=
    (startTest_gates _).trans ((advancePhase_gates _).trans (channelStage_gates _))
  refine ⟨s.beforeRoad.roadCtx g.ap, (s.beforeRoad.ap g.ap).closure, (s.beforeRoad.ap g.ap).reopenStep,
    (s.beforeRoad.kinds g.ap).at g.ix, (s.beforeRoad.gate g).holdFlash, kind_ne_unused used', ?_, ?_⟩
  · show s.beforeRoad.settings.working.road.obstructWait = _
    rw [settings]
    rfl
  · rw [round_eq, outputs_gate, rest g, roadStage_gate (usesAp_of_gateUsed used'), s.beforeRoad_gates g]

theorem round_settings (s : State) : s.round.settings = s.settings := by rw [← kept_settings, round_kept, kept_settings]

theorem round_role (s : State) : s.round.role = s.role := by rw [← kept_role, round_kept, kept_role]

variable {P Q : Gate → Prop} {g : GateId}

/-- What every round of a used gate keeps, whatever its flash and its lamp, the settling keeps. -/
theorem rounds_gate {wait : Int} (shown : ∀ h t l, P h → P { h with holdFlash := t, lamp := l })
    (keeps : ∀ (x : RoadCtx) c st k h, k ≠ .unused → x.obstructWait = wait → P h → P (h.round x c st k)) (n : Nat) :
    ∀ s : State, s.gateUsed g = true → s.items.road.obstructWait = wait → P (s.gate g) → P ((rounds n s).gate g) := by
  induction n with
  | zero => exact fun _ _ _ h => h
  | succ n ih =>
    intro s used road h
    obtain ⟨x, c, st, k, flash, kind, ctx, gate⟩ := round_gate used
    have step : rounds (n + 1) s = rounds n s.round := rfl
    rw [step]
    refine ih s.round ((gateUsed_congr s.round_role s.round_settings g).trans used) ?_ ?_
    · rw [items, s.round_settings]
      exact road
    · rw [gate]
      exact shown _ _ _ (keeps x c st k _ kind (ctx.trans road) (shown _ _ (s.gate g).lamp h))

/-- What the first round brings about, and every later one keeps, stands after the settling. -/
theorem settle_gate {wait : Int} (shown : ∀ h t l, P h → P { h with holdFlash := t, lamp := l })
    (shown' : ∀ h t l, Q h → Q { h with holdFlash := t, lamp := l })
    (first : ∀ (x : RoadCtx) c st k h, k ≠ .unused → x.obstructWait = wait → Q h → P (h.round x c st k))
    (keeps : ∀ (x : RoadCtx) c st k h, k ≠ .unused → x.obstructWait = wait → P h → P (h.round x c st k))
    {s : State} (used : s.gateUsed g = true) (road : s.items.road.obstructWait = wait) (h : Q (s.gate g)) :
    P (s.round.gate g) ∧ P (s.settle.gate g) := by
  obtain ⟨x, c, st, k, flash, kind, ctx, gate⟩ := round_gate used
  have once : P (s.round.gate g) := by
    rw [gate]
    exact shown _ _ _ (first x c st k _ kind (ctx.trans road) (shown' _ _ (s.gate g).lamp h))
  have step : s.settle = rounds 7 s.round := rfl
  rw [step]
  refine ⟨once, rounds_gate shown keeps 7 s.round ?_ (by rw [items, s.round_settings]; exact road) once⟩
  exact (gateUsed_congr s.round_role s.round_settings g).trans used

end State

end Sys2Proof.Machine
end

section
/-!
PROOFS. The gates' events (R86, R89, R90, R108): a change of the limits, the expiries, the obstruction, and what one round makes of
a travel at its limit and of an obstruction.
-/

namespace Sys2Proof.Machine

open Sys2Proof

namespace Gate

/-! ### A held gate that comes to rest (R87 to R90) -/

/-- A gate shut by its travel: DOWN, no travel, no retries, held. -/
def Shut (g : Gate) : Prop := g.state = .down ∧ g.travel = .stopped ∧ g.retryCount = 0 ∧ g.held = true

/-- A held gate on its way down at its DOWN limit alone. -/
def Landing (g : Gate) : Prop := g.state = .lowering ∧ g.held = true ∧ g.limits = some ⟨false, true⟩

theorem Landing.round {g : Gate} (h : g.Landing) {x : RoadCtx} {c : Closure} {st : Option ReopenStep} {k : GateKind}
    (used : k ≠ .unused) : (g.round x c st k).Shut := by
  obtain ⟨state, held, limits⟩ := h
  have demand := demandOf_held held c st k
  have stays : ((g.demandTo (demandOf c st k g)).pursue x) = g.demandTo (demandOf c st k g) := by
    rw [demandTo_eq]
    exact pursue_lowering state fun h => demand h.1
  have ends : (g.demandTo (demandOf c st k g)).endTravel x c k =
      { g.demandTo (demandOf c st k g) with state := .down, travel := .stopped, retryCount := 0, reversing := false } := by
    rw [demandTo_eq]
    simp [endTravel, bothLimits, downAlone, state, limits]
  rw [round_used used, stays, ends, meetObstruct_still (by simp), demandTo_eq]
  exact ⟨rfl, rfl, rfl, held⟩

/-- A gate at DOWN that is not asked up stays (R88). -/
theorem pursue_down {x : RoadCtx} {g : Gate} (h : g.state = .down) (demand : g.demand ≠ .up) : g.pursue x = g := by
  unfold pursue
  simp only [h]
  split
  · rfl
  · cases d : g.demand
    case up => exact absurd d demand
    all_goals simp

theorem Shut.round {g : Gate} (h : g.Shut) {x : RoadCtx} {c : Closure} {st : Option ReopenStep} {k : GateKind}
    (used : k ≠ .unused) : (g.round x c st k).Shut := by
  obtain ⟨state, travel, count, held⟩ := h
  have demand := demandOf_held held c st k
  have stays : ((g.demandTo (demandOf c st k g)).pursue x) = g.demandTo (demandOf c st k g) := by
    rw [demandTo_eq]
    exact pursue_down state demand
  have still : (g.demandTo (demandOf c st k g)).state = .down := by rw [demandTo_eq]; exact state
  rw [round_used used, stays, endTravel_still (by simp [still]) (by simp [still]), meetObstruct_still (by simp [still]),
    demandTo_eq]
  exact ⟨state, travel, by simp [count], held⟩

/-- A held gate on its way down that meets an obstruction away from its DOWN limit. -/
def Blocked (count : Nat) (g : Gate) : Prop :=
  g.state = .lowering ∧ g.held = true ∧ g.obstruct = true ∧ g.retryCount = count ∧ ∀ l, g.limits = some l → l.down = false

/-- A held gate stopped by an obstruction, its retry wait running (R90). -/
def Waiting (count : Nat) (wait : Int) (g : Gate) : Prop :=
  g.state = .unknown ∧ g.held = true ∧ g.travel = .stopped ∧ g.retryCount = count ∧ g.retryWait = Timer.startS wait

/-- A gate jammed with no travel. -/
def Jam (g : Gate) : Prop := g.state = .jammed ∧ g.travel = .stopped

theorem Blocked.round_eq {count : Nat} {g : Gate} (h : g.Blocked count) {x : RoadCtx} {c : Closure} {st : Option ReopenStep}
    {k : GateKind} (used : k ≠ .unused) :
    g.round x c st k = (g.demandTo (demandOf c st k g)).meetObstruct x := by
  obtain ⟨state, held, -, -, limits⟩ := h
  have demand := demandOf_held held c st k
  have stays : ((g.demandTo (demandOf c st k g)).pursue x) = g.demandTo (demandOf c st k g) := by
    rw [demandTo_eq]
    exact pursue_lowering state fun h => demand h.1
  have both : g.bothLimits = false := by
    cases l : g.limits with
    | none => simp [bothLimits, l]
    | some l' => simp [bothLimits, l, limits l' l]
  have alone : g.downAlone = false := by
    cases l : g.limits with
    | none => simp [downAlone, l]
    | some l' => simp [downAlone, l, limits l' l]
  have travels : (g.demandTo (demandOf c st k g)).endTravel x c k = g.demandTo (demandOf c st k g) := by
    have both' : (g.demandTo (demandOf c st k g)).bothLimits = false := by rw [demandTo_eq]; exact both
    have alone' : (g.demandTo (demandOf c st k g)).downAlone = false := by rw [demandTo_eq]; exact alone
    have state' : (g.demandTo (demandOf c st k g)).state = .lowering := by rw [demandTo_eq]; exact state
    simp [endTravel, both', alone', state']
  rw [round_used used, stays, travels]

theorem Blocked.round_waits {count : Nat} {g : Gate} (h : g.Blocked count) (few : count < 3) {x : RoadCtx} {c : Closure}
    {st : Option ReopenStep} {k : GateKind} (used : k ≠ .unused) : (g.round x c st k).Waiting count x.obstructWait := by
  have demand := demandOf_held h.2.1 c st k
  rw [h.round_eq used, demandTo_eq]
  obtain ⟨state, held, obstruct, rfl, -⟩ := h
  simp [meetObstruct, state, obstruct, held, demand, Nat.not_le.mpr few, Waiting]

theorem Blocked.round_jams {count : Nat} {g : Gate} (h : g.Blocked count) (many : 3 ≤ count) {x : RoadCtx} {c : Closure}
    {st : Option ReopenStep} {k : GateKind} (used : k ≠ .unused) : (g.round x c st k).Jam := by
  have demand := demandOf_held h.2.1 c st k
  rw [h.round_eq used, demandTo_eq]
  obtain ⟨state, held, obstruct, rfl, -⟩ := h
  simp [meetObstruct, state, obstruct, demand, many, Jam]

theorem Waiting.round {count : Nat} {wait : Int} {g : Gate} (h : g.Waiting count wait) {x : RoadCtx} {c : Closure}
    {st : Option ReopenStep} {k : GateKind} (used : k ≠ .unused) : (g.round x c st k).Waiting count wait := by
  obtain ⟨state, held, travel, rfl, waits⟩ := h
  have demand := demandOf_held held c st k
  have stays : ((g.demandTo (demandOf c st k g)).pursue x) = g.demandTo (demandOf c st k g) := by
    rw [demandTo_eq]
    simp [pursue, state, waits, Timer.startS, Timer.isRunning]
  have still : (g.demandTo (demandOf c st k g)).state = .unknown := by rw [demandTo_eq]; exact state
  rw [round_used used, stays, endTravel_still (by simp [still]) (by simp [still]), meetObstruct_still (by simp [still]),
    demandTo_eq]
  exact ⟨state, held, travel, by simp [demand], waits⟩

theorem Jam.round {g : Gate} (h : g.Jam) {x : RoadCtx} {c : Closure} {st : Option ReopenStep} {k : GateKind}
    (used : k ≠ .unused) : (g.round x c st k).Jam := by
  obtain ⟨state, travel⟩ := h
  have still : (g.demandTo (demandOf c st k g)).state = .jammed := by rw [demandTo_eq]; exact state
  have stays : ((g.demandTo (demandOf c st k g)).pursue x) = g.demandTo (demandOf c st k g) := by
    unfold pursue
    simp only [still]
  rw [round_used used, stays, endTravel_still (by simp [still]) (by simp [still]), meetObstruct_still (by simp [still]),
    demandTo_eq]
  exact ⟨state, travel⟩

end Gate

/-! ### A change of the limits (R86, R89) -/

theorem exec_gateLimitChange (s : State) (g : GateId) (l : GateLimits) : exec (.gateLimitChange g l) s =
    .next (if s.wake.usesAp g.ap && (s.wake.gate g).limits.isSome then
        s.wake.onGate g fun x _ k y => if k == .unused then { y with limits := some l } else y.limitChange x l
      else s.wake).settle := rfl

/-- What a change of limits is to a gate at rest (R86). -/
theorem Gate.limitChange_rest (x : RoadCtx) (l : GateLimits) {k : Gate}
    (rests : k.state = .up ∨ k.state = .down ∨ k.state = .unknown) :
    (l = ⟨true, true⟩ → k.limitChange x l = { k with limits := some l, state := .unknown, travel := .stopped }) ∧
    (l = ⟨true, false⟩ → k.limitChange x l = { k with limits := some l, state := .up, travel := .stopped }) ∧
    (l = ⟨false, true⟩ →
      k.limitChange x l = { k with limits := some l, state := .down, travel := .stopped, retryCount := 0 }) ∧
    (l = ⟨false, false⟩ → k.state = .unknown ∨ k.travel.isRunning = true → k.limitChange x l = { k with limits := some l }) ∧
    (l = ⟨false, false⟩ → k.state ≠ .unknown → k.travel.isRunning = false →
      k.limitChange x l = { k with limits := some l, travel := Timer.startS x.gateTime }) := by
  have atRest : ({ k with limits := some l } : Gate).atRest = true := by rcases rests with h | h | h <;> simp [Gate.atRest, h]
  unfold Gate.limitChange
  rw [if_pos atRest]
  refine ⟨?_, ?_, ?_, ?_, ?_⟩
  all_goals
    rintro rfl
    simp [Gate.bothLimits, Gate.upAlone, Gate.downAlone]
  · rintro (h | h) <;> simp [h]
  · rintro h h'
    simp [h, h']

/-- Settles O36: the event writes the one gate, and a held gate that lands is shut by its next round. -/
theorem gateLimitsTaken : Obligations.GateLimitsTaken := by
  intro s g l used known k
  have used' : s.wake.gateUsed g = true := by rw [s.wake_gateUsed, used]
  have limits : (s.wake.gate g).limits = (s.gate g).limits := congrArg GateKept.limits (s.wake_gateKept g)
  have held : (s.wake.gate g).held = (s.gate g).held := congrArg GateKept.held (s.wake_gateKept g)
  let u : State := s.wake.onGate g fun x _ k y => if k == .unused then { y with limits := some l } else y.limitChange x l
  have run : exec (.gateLimitChange g l) s = .next u.settle := by
    rw [exec_gateLimitChange, limits, State.usesAp_of_gateUsed used', Option.isSome_iff_ne_none.mpr known]
    rfl
  have own : u.gate g = k.limitChange (s.wake.roadCtx g.ap) l := by
    have kind := State.kind_ne_unused used'
    rw [State.onGate_same, if_neg (by simpa using kind)]
  have moves (h : k.state = .lowering ∨ k.state = .raising ∨ k.state = .jammed) : u.gate g = { k with limits := some l } := by
    rw [own, Gate.limitChange]
    rcases h with h | h | h <;> simp [Gate.atRest, h]
  have time : Timer.startS (s.wake.roadCtx g.ap).gateTime = .running (s.items.road.gateTime * 1000).toNat := by
    rw [← s.wake_items]
    rfl
  refine ⟨u, run, State.onGate_sameButAps _ _ _, State.onGate_ap _ _ _, fun h ne => State.onGate_other _ ne, moves,
    fun lowering heldDown alone => ?_, fun rests => ?_⟩
  · have lands : (u.gate g).Landing := by
      rw [moves (.inl lowering)]
      exact ⟨lowering, held.trans heldDown, congrArg some alone⟩
    obtain ⟨-, state, travel, count, -⟩ := State.settle_gate (P := Gate.Shut) (Q := Gate.Landing) (fun _ _ _ h => h)
      (fun _ _ _ h => h) (fun _ _ _ _ _ kind _ h => h.round kind) (fun _ _ _ _ _ kind _ h => h.round kind)
      (((State.onGate_sameButAps _ _ _).gateUsed g).trans used') rfl lands
    exact ⟨state, travel, count⟩
  · rw [own, ← time]
    exact Gate.limitChange_rest _ l rests

end Sys2Proof.Machine
end

section
/-!
PROOFS. The expiries and the obstruction of a gate (R86, R89, R90, R108), and one round of the approach controllers.
-/

namespace Sys2Proof.Machine

open Sys2Proof

theorem allZip_iff {α β : Type} (f : α → β → Bool) (x : Six α) (y : Six β) :
    Six.allZip f x y = true ↔ ∀ i, f (x.at i) (y.at i) = true := by
  simp only [Six.allZip, Bool.and_eq_true]
  constructor
  · rintro ⟨⟨⟨⟨⟨h0, h1⟩, h2⟩, h3⟩, h4⟩, h5⟩ i
    fin_cases i
    exacts [h0, h1, h2, h3, h4, h5]
  · exact fun h => ⟨⟨⟨⟨⟨h 0, h 1⟩, h 2⟩, h 3⟩, h 4⟩, h 5⟩

namespace State

/-! ### A jammed gate is reported (R91, R168) -/

theorem anyUsedGate_of {s : State} {g : GateId} {f : Gate → Bool} (used : s.gateUsed g = true) (h : f (s.gate g) = true) :
    s.anyUsedGate g.ap f = true := by
  have kind := kind_ne_unused used
  unfold anyUsedGate
  rw [Bool.not_eq_true', ← Bool.not_eq_true, allZip_iff]
  intro none_
  have at_ := none_ g.ix
  rw [show (s.ap g.ap).gates.at g.ix = s.gate g from rfl, h] at at_
  simp [kind] at at_

/-- What follows the report in a round leaves every latch. -/
theorem reportAll_round_haltStays (s : State) : s.reportAll.HaltStays s.round :=
  (permitStage_haltStays _).trans <| (angleStage_haltStays _).trans <|
    (HaltStays.of_haltCore (endSuspension_haltCore _)).trans <| (tryCommand_haltStays _).trans <|
    (seatLockStage_haltStays _).trans <|
    (HaltStays.of_haltCore (by simp [react]) : HaltStays _ s.react).trans (outputs_haltStays _)

/-- A lasting condition whose cause a round finds is latched by it (R168). -/
theorem round_latched_of_cause {s : State} {f : FaultId} (right : s.FaultsRight) (mask : (s.fault f).mask = false)
    (cause : s.cause f = true) : s.round.latched f = true := by
  refine (reportAll_round_haltStays s).latched f ?_
  rw [latched, reportAll_fault]
  obtain ⟨-, -, latched⟩ := right f
  cases cond : (s.fault f).cond <;> simp [reported, cause, mask, cond, latched]

/-- A gate found jammed by a round's report has GATE_JAMMED latched (R91, R168). -/
theorem round_latched_of_jammed {s : State} {g : GateId} (right : s.FaultsRight) (used : s.gateUsed g = true)
    (jam : (s.gate g).state = .jammed) : s.round.latched .gateJammed = true := by
  refine round_latched_of_cause right (right.unmasked (by decide)) ?_
  have any := anyUsedGate_of (f := fun k => k.state == .jammed) used (by simp [jam])
  obtain ⟨x, i⟩ := g
  cases x
  · exact Bool.or_eq_true_iff.mpr (.inl any)
  · exact Bool.or_eq_true_iff.mpr (.inr any)

end State

/-! ### The events of one gate -/

theorem exec_gateEvents (s : State) (g : GateId) (active : Bool) :
    exec (.gateObstruction g active) s =
      .next (if s.wake.usesAp g.ap then s.wake.onGate g fun _ _ _ y => { y with obstruct := active } else s.wake).settle ∧
    exec (.gateTravelExpiry g) s =
      .next (if s.wake.gateUsed g then s.wake.onGate g fun _ _ _ y => y.travelExpiry else s.wake).settle ∧
    exec (.retryWaitExpiry g) s =
      .next (if s.wake.gateUsed g then s.wake.onGate g fun _ _ _ y => y.retryExpiry else s.wake).settle ∧
    exec (.holdFlashExpiry g) s =
      .next (if s.wake.gateUsed g then s.wake.onGate g fun _ _ _ y => { y with holdFlash := .stopped } else s.wake).settle :=
  ⟨rfl, rfl, rfl, rfl⟩

/-- Each of the four events of a used gate gives that gate its own change. -/
theorem exec_gateEvent {s : State} {g : GateId} {c : Instr} (used : s.gateUsed g = true)
    (event : (∃ active, c = .gateObstruction g active) ∨ c = .gateTravelExpiry g ∨ c = .retryWaitExpiry g ∨
      c = .holdFlashExpiry g) : ∃ F : Gate → Gate, exec c s = .next (s.wake.onGate g fun _ _ _ y => F y).settle ∧
      (∀ active, c = .gateObstruction g active → ∀ y, F y = { y with obstruct := active }) ∧
      (c = .gateTravelExpiry g → ∀ y, F y = y.travelExpiry) ∧ (c = .retryWaitExpiry g → ∀ y, F y = y.retryExpiry) ∧
      (c = .holdFlashExpiry g → ∀ y, F y = { y with holdFlash := .stopped }) := by
  have used' : s.wake.gateUsed g = true := by rw [s.wake_gateUsed, used]
  obtain ⟨-, travel, retry, flash⟩ := exec_gateEvents s g true
  rw [if_pos used'] at travel retry flash
  rcases event with ⟨active, rfl⟩ | rfl | rfl | rfl
  · obtain ⟨obstruct, -⟩ := exec_gateEvents s g active
    rw [if_pos (State.usesAp_of_gateUsed used')] at obstruct
    exact ⟨_, obstruct, by rintro _ ⟨⟩ _; rfl, nofun, nofun, nofun⟩
  · exact ⟨_, travel, nofun, fun _ _ => rfl, nofun, nofun⟩
  · exact ⟨_, retry, nofun, nofun, fun _ _ => rfl, nofun⟩
  · exact ⟨_, flash, nofun, nofun, nofun, fun _ _ => rfl⟩

/-- The travel timer of a gate expires (R86, R89). -/
theorem Gate.travelExpiry_spec {k : Gate} (runs : k.travel.isRunning = true) :
    (k.state = .lowering ∨ k.state = .raising → k.travelExpiry.state = .jammed) ∧
      (k.state = .up ∨ k.state = .down ∨ k.state = .unknown → k.travelExpiry.state = .unknown) ∧
      k.travelExpiry.travel = .stopped ∧ k.travelExpiry.retryCount = k.retryCount ∧
      k.travelExpiry.retryWait = k.retryWait ∧ k.travelExpiry.kept = k.kept := by
  unfold Gate.travelExpiry
  rw [if_neg (by simp [runs])]
  split
  next rest =>
    refine ⟨fun h => ?_, fun _ => rfl, rfl, rfl, rfl, rfl⟩
    rcases h with h | h <;> simp [Gate.atRest, h] at rest
  next rest =>
    refine ⟨fun _ => rfl, fun h => ?_, rfl, rfl, rfl, rfl⟩
    rcases h with h | h | h <;> simp [Gate.atRest, h] at rest

/-- A held gate that meets an obstruction stops, or is jammed and reported (R90, R91). -/
theorem gate_blocked {u : State} {g : GateId} {count : Nat} {wait : Int} {right : Prop} (used : u.gateUsed g = true)
    (road : u.items.road.obstructWait = wait) (faults : right → u.FaultsRight) (blocked : (u.gate g).Blocked count) :
    (u.settle.gate g).travel = .stopped ∧
      (count < 3 → (u.settle.gate g).state = .unknown ∧ (u.settle.gate g).retryCount = count ∧
        (u.settle.gate g).retryWait = .running (wait * 1000).toNat) ∧
      (3 ≤ count → (u.settle.gate g).state = .jammed ∧ (right → u.settle.latched .gateJammed = true)) := by
  rcases Nat.lt_or_ge count 3 with few | many
  · obtain ⟨-, state, -, travel, retries, waits⟩ := State.settle_gate (P := Gate.Waiting count wait)
      (Q := Gate.Blocked count) (fun _ _ _ h => h) (fun _ _ _ h => h)
      (fun x c st k h kind ctx b => by rw [← ctx]; exact b.round_waits few kind) (fun _ _ _ _ _ kind _ h => h.round kind) used road blocked
    exact ⟨travel, fun _ => ⟨state, retries, waits⟩, fun many => absurd few (Nat.not_lt.mpr many)⟩
  · obtain ⟨⟨jam, -⟩, state, travel⟩ := State.settle_gate (P := Gate.Jam) (Q := Gate.Blocked count) (fun _ _ _ h => h)
      (fun _ _ _ h => h) (fun _ _ _ _ _ kind _ h => h.round_jams many kind) (fun _ _ _ _ _ kind _ h => h.round kind) used
      road blocked
    refine ⟨travel, fun few => absurd few (Nat.not_lt.mpr many), fun _ => ⟨state, fun h => ?_⟩⟩
    have right : u.round.FaultsRight := (State.Path.rounds (full := True) 1 u).faultsRight (faults h)
    have used' : u.round.gateUsed g = true := (State.gateUsed_congr u.round_role u.round_settings g).trans used
    exact (State.rounds_haltStays 6 u.round.round).latched _ (State.round_latched_of_jammed right used' jam)

/-- What one of the four events leaves of its gate, and what the settling makes of an obstruction (R86, R89, R90, R108). -/
theorem gateEvents_own (s : State) (g : GateId) (c : Instr) (k : Gate) (used : s.gateUsed g = true) (found : k = s.wake.gate g)
    (event : (∃ active, c = .gateObstruction g active) ∨ (c = .gateTravelExpiry g ∧ k.travel.isRunning = true) ∨
      (c = .retryWaitExpiry g ∧ k.retryWait.isRunning = true) ∨ c = .holdFlashExpiry g) :
    ∃ u : State, exec c s = .next u.settle ∧ u = { s.wake with apA := u.apA, apB := u.apB } ∧
      (∀ x, u.ap x = { s.wake.ap x with gates := (u.ap x).gates }) ∧ (∀ h : GateId, h ≠ g → u.gate h = s.wake.gate h) ∧
      (∀ active, c = .gateObstruction g active → u.gate g = { k with obstruct := active }) ∧
      (c = .gateObstruction g true → k.state = .lowering → k.held = true → (∀ l, k.limits = some l → l.down = false) →
        (u.settle.gate g).travel = .stopped ∧
        (k.retryCount < 3 → (u.settle.gate g).state = .unknown ∧ (u.settle.gate g).retryCount = k.retryCount ∧
          (u.settle.gate g).retryWait = .running (s.items.road.obstructWait * 1000).toNat) ∧
        (3 ≤ k.retryCount → (u.settle.gate g).state = .jammed ∧
          (s.FaultsRight → u.settle.latched .gateJammed = true))) ∧
      (c = .gateTravelExpiry g →
        (k.state = .lowering ∨ k.state = .raising → (u.gate g).state = .jammed) ∧
        (k.state = .up ∨ k.state = .down ∨ k.state = .unknown → (u.gate g).state = .unknown) ∧
        (u.gate g).travel = .stopped ∧ (u.gate g).retryCount = k.retryCount ∧ (u.gate g).retryWait = k.retryWait ∧
        (u.gate g).kept = k.kept) ∧
      (c = .retryWaitExpiry g → u.gate g =
        { k with retryWait := .stopped, retryCount := if k.demand = .down then k.retryCount + 1 else k.retryCount }) ∧
      (c = .holdFlashExpiry g → u.gate g = { k with holdFlash := .stopped }) := by
  subst found
  obtain ⟨F, run, obstructs, travels, retries, flashes⟩ :=
    exec_gateEvent used (event.imp_right (Or.imp And.left (Or.imp And.left id)))
  have own : (s.wake.onGate g fun _ _ _ y => F y).gate g = F (s.wake.gate g) := State.onGate_same _ _ _
  have aps := State.onGate_sameButAps s.wake g fun _ _ _ y => F y
  refine ⟨_, run, aps, State.onGate_ap _ _ _, fun h ne => State.onGate_other _ ne,
    fun active e => own.trans (obstructs active e _), fun e lowering held away => ?_, fun e => ?_, fun e => ?_,
    fun e => own.trans (flashes e _)⟩
  · have used' : (s.wake.onGate g fun _ _ _ y => F y).gateUsed g = true := by rw [aps.gateUsed, s.wake_gateUsed, used]
    have wait : (s.wake.onGate g fun _ _ _ y => F y).items.road.obstructWait = s.items.road.obstructWait := by
      rw [aps, ← s.wake_items]
      rfl
    have blocked : ((s.wake.onGate g fun _ _ _ y => F y).gate g).Blocked (s.wake.gate g).retryCount := by
      rw [own, obstructs true e]
      exact ⟨lowering, held, rfl, rfl, away⟩
    have right (h : s.FaultsRight) : (s.wake.onGate g fun _ _ _ y => F y).FaultsRight := by
      have found := State.faultsRight_promise.wake h
      rw [aps]
      exact found
    exact gate_blocked used' wait right blocked
  · have runs : (s.wake.gate g).travel.isRunning = true := by
      rcases event with ⟨_, rfl⟩ | ⟨-, h⟩ | ⟨rfl, -⟩ | rfl
      · cases e
      · exact h
      · cases e
      · cases e
    rw [own, travels e]
    exact Gate.travelExpiry_spec runs
  · have runs : (s.wake.gate g).retryWait.isRunning = true := by
      rcases event with ⟨_, rfl⟩ | ⟨rfl, -⟩ | ⟨-, h⟩ | rfl
      · cases e
      · cases e
      · exact h
      · cases e
    rw [own, retries e, Gate.retryExpiry, if_neg (by simp [runs])]
    simp only [beq_iff_eq]

/-! ### One round of a gate (R89, R90) -/

namespace Gate

/-! ### The end of a travel, by the limits (R89) -/

theorem endTravel_both {x : RoadCtx} {c : Closure} {k : GateKind} {g : Gate} (moving : g.state = .lowering ∨ g.state = .raising)
    {l : GateLimits} (limits : g.limits = some l) (up : l.up = true) (down : l.down = true) :
    (g.endTravel x c k).state = .unknown ∧ (g.endTravel x c k).travel = .stopped := by
  have both : g.bothLimits = true := by simp [bothLimits, limits, up, down]
  unfold endTravel
  dsimp only
  rw [if_pos (by rcases moving with h | h <;> simp [h, both]), maybeFlash_frame]
  exact ⟨rfl, rfl⟩

theorem endTravel_down {x : RoadCtx} {c : Closure} {k : GateKind} {g : Gate} (lowers : g.state = .lowering)
    {l : GateLimits} (limits : g.limits = some l) (up : l.up = false) (down : l.down = true) : g.endTravel x c k =
      { g with state := .down, travel := .stopped, retryCount := 0, reversing := false } := by
  simp [endTravel, bothLimits, downAlone, lowers, limits, up, down]

theorem endTravel_up {x : RoadCtx} {c : Closure} {k : GateKind} {g : Gate} (raises : g.state = .raising)
    {l : GateLimits} (limits : g.limits = some l) (up : l.up = true) (down : l.down = false) :
    (g.endTravel x c k).state = .up ∧ (g.endTravel x c k).travel = .stopped ∧
      (g.reversing = true → (g.endTravel x c k).retryWait = Timer.startS x.obstructWait) := by
  have ends : g.endTravel x c k =
      ({ g with state := .up, travel := .stopped, reversing := false,
                retryWait := if g.reversing then Timer.startS x.obstructWait else g.retryWait }).maybeFlash x.stopTime c k := by
    simp [endTravel, bothLimits, upAlone, raises, limits, up, down]
  rw [ends, maybeFlash_frame]
  exact ⟨rfl, rfl, fun h => if_pos h⟩

theorem endTravel_away {x : RoadCtx} {c : Closure} {k : GateKind} {g : Gate} (lowers : g.state = .lowering)
    (away : ∀ l, g.limits = some l → l.down = false) : g.endTravel x c k = g := by
  cases limits : g.limits with
  | none => simp [endTravel, bothLimits, downAlone, lowers, limits]
  | some l => simp [endTravel, bothLimits, downAlone, lowers, limits, away l limits]

/-- What a round of a used gate makes of its travel and its obstruction, by the limits that its readings show (R89, R90). -/
theorem round_spec {x : RoadCtx} {c : Closure} {st : Option ReopenStep} {k : GateKind} (used : k ≠ .unused) (g : Gate) :
    let d := demandOf c st k g
    let v := g.round x c st k
    let count := if d = .up ∧ g.demand ≠ .up then 0 else g.retryCount
    let up : Prop := ∃ l, g.limits = some l ∧ l.up = true
    let down : Prop := ∃ l, g.limits = some l ∧ l.down = true
    (v.demand = d ∧ v.kept = g.kept) ∧
    (g.state = .lowering ∨ g.state = .raising → up → down → v.state = .unknown ∧ v.travel = .stopped) ∧
    (g.state = .lowering → ¬(d = .up ∧ g.MayRise x) → down → ¬up →
      v.state = .down ∧ v.travel = .stopped ∧ v.retryCount = 0) ∧
    (g.state = .raising → g.MayRise x → d ≠ .down → up → ¬down → v.state = .up ∧ v.travel = .stopped ∧
      (g.reversing = true → v.retryWait = Timer.startS x.obstructWait)) ∧
    (g.state = .raising → g.MayRise x → d = .down → g.demand = .down → g.reversing = true → up → ¬down →
      v.state = .up ∧ v.travel = .stopped ∧ v.retryWait = Timer.startS x.obstructWait) ∧
    (g.state = .lowering → ¬(d = .up ∧ g.MayRise x) → ¬down → g.obstruct = true →
      (count < 3 → g.MayRise x → v.state = .raising ∧ v.reversing = true ∧ v.retryCount = count ∧
        v.travel = Timer.startS x.gateTime) ∧
      (count < 3 → ¬g.MayRise x → v.state = .unknown ∧ v.travel = .stopped ∧ v.retryCount = count ∧
        v.retryWait = Timer.startS x.obstructWait) ∧
      (3 ≤ count → v.state = .jammed ∧ v.travel = .stopped)) := by
  intro d v count up down
  let e : Gate := { g with
    demand := d, retryCount := count, reversing := if d = .down ∧ g.demand ≠ .down then false else g.reversing }
  have round : v = ((e.pursue x).endTravel x c k).meetObstruct x := by
    rw [show v = _ from round_used used g, demandTo_eq]
  obtain ⟨demand, kept, moves⟩ := pursue_keeps x e
  have limits : (e.pursue x).limits = g.limits := congrArg GateKept.limits kept
  /- A gate that no demand turns round enters the end of its travel as it stands. -/
  have lowers (state : g.state = .lowering) (stays : ¬(d = .up ∧ g.MayRise x)) : e.pursue x = e :=
    pursue_lowering state stays
  have raises (state : g.state = .raising) (may : g.MayRise x) (stays : d = .down → e.reversing = true) : e.pursue x = e :=
    pursue_raising state may stays
  have rest (h : Gate) (st : h.state ≠ .lowering) : h.meetObstruct x = h := meetObstruct_still st
  refine ⟨⟨?_, Gate.round_kept x c st k g⟩, ?_, ?_, ?_, ?_, ?_⟩
  · rw [round, meetObstruct_keeps, endTravel_keeps, demand]
  · rintro moving ⟨l, some_, isUp⟩ ⟨l', some', isDown⟩
    obtain rfl : l = l' := Option.some.inj (some_.symm.trans some')
    obtain ⟨state, travel⟩ := endTravel_both (x := x) (c := c) (k := k) (moves moving) (limits.trans some_) isUp isDown
    rw [round, rest _ (by simp [state])]
    exact ⟨state, travel⟩
  · rintro state stays ⟨l, some_, isDown⟩ notUp
    have up' : l.up = false := by
      cases h : l.up with
      | false => rfl
      | true => exact absurd ⟨l, some_, h⟩ notUp
    rw [round, lowers state stays, endTravel_down (g := e) state some_ up' isDown, rest _ (by simp)]
    exact ⟨rfl, rfl, rfl⟩
  · rintro state may other ⟨l, some_, isUp⟩ notDown
    have down' : l.down = false := by
      cases h : l.down with
      | false => rfl
      | true => exact absurd ⟨l, some_, h⟩ notDown
    obtain ⟨st, travel, waits⟩ := endTravel_up (x := x) (c := c) (k := k) (g := e) state some_ isUp down'
    rw [round, raises state may fun h => absurd h other, rest _ (by simp [st])]
    exact ⟨st, travel, fun reversing => waits (by simp [e, other, reversing])⟩
  · rintro state may same old reversing ⟨l, some_, isUp⟩ notDown
    have down' : l.down = false := by
      cases h : l.down with
      | false => rfl
      | true => exact absurd ⟨l, some_, h⟩ notDown
    have turns : e.reversing = true := by simp [e, old, reversing]
    obtain ⟨st, travel, waits⟩ := endTravel_up (x := x) (c := c) (k := k) (g := e) state some_ isUp down'
    rw [round, raises state may fun _ => turns, rest _ (by simp [st])]
    exact ⟨st, travel, waits turns⟩
  · intro state stays notDown obstruct
    have away (l : GateLimits) (some_ : e.limits = some l) : l.down = false := by
      cases h : l.down with
      | false => rfl
      | true => exact absurd ⟨l, some_, h⟩ notDown
    rw [round, lowers state stays, endTravel_away (g := e) state away]
    have meets : e.meetObstruct x =
        if count ≥ 3 then { e with state := .jammed, travel := .stopped, reversing := false }
        else if !e.held && x.locked then { e.move .raising x.gateTime with reversing := true }
        else { e with state := .unknown, travel := .stopped, reversing := false, retryWait := Timer.startS x.obstructWait } := by
      have test : (e.state == .lowering && e.obstruct) = true := by simp [e, state, obstruct]
      unfold meetObstruct
      rw [if_pos test]
    have rises : (!e.held && x.locked) = true ↔ g.MayRise x := by simp [e, MayRise]
    refine ⟨fun few may => ?_, fun few stays => ?_, fun many => ?_⟩
    · rw [meets, if_neg (Nat.not_le.mpr few), if_pos (rises.mpr may)]
      exact ⟨rfl, rfl, rfl, rfl⟩
    · rw [meets, if_neg (Nat.not_le.mpr few), if_neg (mt rises.mp stays)]
      exact ⟨rfl, rfl, rfl, rfl⟩
    · rw [meets, if_pos many]
      exact ⟨rfl, rfl⟩

end Gate

/-- Settles O37: the events through the gate's own change, and the round through `Gate.round_spec`. -/
theorem gateEvents : Obligations.GateEvents := by
  refine ⟨gateEvents_own, fun s g used => ?_⟩
  have spec := Gate.round_spec (x := s.roadCtx g.ap) (c := (s.ap g.ap).closure) (st := (s.ap g.ap).reopenStep)
    (State.kind_ne_unused used) (s.gate g)
  have rises : (s.gate g).MayRise (s.roadCtx g.ap) ↔ (s.gate g).held = false ∧ s.motion.state = .seatedLocked := by
    rw [Gate.MayRise]
    exact and_congr_right fun _ => beq_iff_eq
  rw [rises] at spec
  intro k d v count rises up down
  rw [show v = _ from State.roadStage_gate (State.usesAp_of_gateUsed used)]
  exact spec

end Sys2Proof.Machine
end

section
/-!
PROOFS. The state timers of an approach (R98 to R100, R109), the alert timer (R100), the zone detectors (R95) and the proving of
the road lamps (R94).
-/

namespace Sys2Proof.Machine

open Sys2Proof

/-! ### The state timers -/

theorem Approach.timerExpiry_halted {x : RoadCtx} (a : Approach) (h : x.halted = true) :
    a.timerExpiry x = { a with stateTimer := .stopped, advancePending := true } := if_pos h

theorem Approach.timerExpiry_running {x : RoadCtx} (a : Approach) (h : x.halted = false) : a.timerExpiry x =
    match a.closure with
    | .prewarn => a.enter x .stopping none (Timer.startS x.stopTime)
    | .stopping => a.enter x .entryLowering none .stopped
    | .clearing => a.enter x .exitLowering none .stopped
    | _ => a := if_neg (by rw [h]; simp)

theorem Approach.timerExpiry_kept (x : RoadCtx) (a : Approach) : (a.timerExpiry x).kept = a.kept := by
  unfold Approach.timerExpiry
  split
  · rfl
  · split
    · exact Approach.enter_kept _ _ _ _ _
    · exact Approach.enter_kept _ _ _ _ _
    · exact Approach.enter_kept _ _ _ _ _
    · rfl

theorem State.stateExpiry_of_running {s : State} {x : Ap} {c : Closure} {ms : Nat} (uses : s.usesAp x = true)
    (now : (s.ap x).closure = c) (runs : (s.ap x).stateTimer = .running ms) :
    s.stateExpiry x c = s.onAp x fun k a => a.timerExpiry k :=
  if_pos (by simp [uses, now, runs, Timer.isRunning])

/-- Settles O38: the expiry of the timer of the state in which the approach stands is `Approach.timerExpiry`. -/
theorem closureTimers : Obligations.ClosureTimers := by
  intro s x c now next timer ms uses closure runs expiry
  have uses' : s.wake.usesAp x = true := by rw [State.wake_usesAp, uses]
  have run : exec c s = .next (s.wake.onAp x fun k a => a.timerExpiry k).settle := by
    rw [← State.stateExpiry_of_running uses' closure runs]
    rcases expiry with ⟨rfl, rfl, _⟩ | ⟨rfl, rfl, _⟩ | ⟨rfl, rfl, _⟩ <;> rfl
  have own := s.wake.onAp_ap x x (fun k a => a.timerExpiry k)
  rw [if_pos rfl] at own
  refine ⟨_, run, s.wake.onAp_sameButAps _ _, fun y ne => ?_, ?_, fun halted => ?_, fun running => ?_⟩
  · rw [State.onAp_ap, if_neg ne]
  · rw [own, Approach.timerExpiry_kept]
  · exact own.trans (Approach.timerExpiry_halted _ halted)
  · rw [own, Approach.timerExpiry_running _ running]
    rcases expiry with ⟨_, rfl, rfl, rfl⟩ | ⟨_, rfl, rfl, rfl⟩ | ⟨_, rfl, rfl, rfl⟩
    · rw [closure]
      have stop : Timer.startS (s.wake.roadCtx x).stopTime = .running (s.items.road.stopTime * 1000).toNat := by
        rw [← State.wake_items]
        rfl
      exact ⟨rfl, stop, rfl, rfl, rfl⟩
    · rw [closure]
      exact ⟨rfl, rfl, rfl, rfl, rfl⟩
    · rw [closure]
      exact ⟨rfl, rfl, rfl, rfl, rfl⟩

/-! ### The alert timer, the detectors and the lamps -/

theorem exec_clearAlertExpiry (s : State) (x : Ap) : exec (.clearAlertExpiry x) s =
    .next (if s.wake.usesAp x && (s.wake.ap x).alertTimer.isRunning then
      s.wake.setAp x { s.wake.ap x with alertTimer := .stopped, delayed := true } else s.wake).settle := rfl

theorem exec_zoneDetectorChange (s : State) (x : Ap) (i : Fin 3) (occupied : Bool) :
    exec (.zoneDetectorChange x i occupied) s =
      .next (if (s.wake.zoneUse x).at i then
        s.wake.setAp x { s.wake.ap x with zones := (s.wake.ap x).zones.put i (some occupied) } else s.wake).settle := rfl

theorem exec_lampProvingSpan (s : State) (lamp : RoadLamp) (proof : Proving) :
    exec (.lampProvingSpan lamp proof) s = .next (s.wake.judgeRoadLamp lamp proof).settle := rfl

/-- The judging of a lamp (R94), by what the proving shows. -/
theorem Health.judge_eq (h : Health) (meant : Bool) (p : Proving) : h.judge meant p =
    match p with
    | .noCurrent => if meant then .out else if h = .out then .out else .normal
    | .current => if meant then (if h = .stuck then .stuck else .normal) else .stuck
    | .mixed => h := by
  cases p <;> cases meant <;> cases h <;> rfl

namespace State

theorem setAp_other (s : State) {x y : Ap} (a : Approach) (ne : y ≠ x) : (s.setAp x a).ap y = s.ap y := by
  cases x <;> cases y
  · exact absurd rfl ne
  · rfl
  · rfl
  · exact absurd rfl ne

/-- An event that changes one approach alone: what the reactions keep of the part, of that approach and of the others. -/
theorem setAp_settle_kept (s : State) (x : Ap) (a : Approach) :
    (s.wake.setAp x a).settle.kept =
        { s.kept with apA := (s.wake.setAp x a).settle.apA.kept, apB := (s.wake.setAp x a).settle.apB.kept } ∧
      (∀ y, y ≠ x → ((s.wake.setAp x a).settle.ap y).kept = (s.ap y).kept) ∧
      ((s.wake.setAp x a).settle.ap x).kept = a.kept := by
  refine ⟨(s.wake.setAp_sameButAps x a).settle_kept, fun y ne => ?_, ?_⟩
  · rw [settle_apKept, setAp_other _ _ ne, wake_apKept]
  · rw [settle_apKept, setAp_ap]

end State

/-- Settles O39: each event changes its own approach or gate alone, and the reactions keep what it writes. -/
theorem zonesAndLamps : Obligations.ZonesAndLamps := by
  intro s x
  refine ⟨fun ms uses runs => ?_, fun i occupied => ?_, fun proof uses => ?_, fun g proof used => ?_⟩
  · rw [exec_clearAlertExpiry, State.wake_usesAp, uses, runs]
    rfl
  · rw [exec_zoneDetectorChange, State.wake_zoneUse]
    by_cases used : (s.zoneUse x).at i = true
    · simp only [used, if_true]
      obtain ⟨kept, others, own⟩ := s.setAp_settle_kept x
        { s.wake.ap x with zones := (s.wake.ap x).zones.put i (some occupied) }
      refine ⟨_, rfl, kept, others, own.trans ?_⟩
      rw [← s.wake_apKept x, ← (s.ap x).kept_zones, ← s.wake_apKept x]
      rfl
    · simp only [if_neg used]
      exact ⟨_, rfl, (State.SameButAps.refl _).settle_kept, fun y _ => by rw [State.settle_apKept, State.wake_apKept],
        by rw [State.settle_apKept, State.wake_apKept]⟩
  · have judged : s.wake.judgeRoadLamp (.amber x) proof = s.wake.setAp x
        { s.wake.ap x with amberHealth := (s.wake.ap x).amberHealth.judge (s.wake.ap x).amberOn proof } :=
      if_pos (by rw [State.wake_usesAp, uses])
    obtain ⟨kept, others, own⟩ := s.setAp_settle_kept x
      { s.wake.ap x with amberHealth := (s.wake.ap x).amberHealth.judge (s.wake.ap x).amberOn proof }
    have health : (s.wake.ap x).amberHealth = (s.ap x).amberHealth := by
      rw [← Approach.kept_amberHealth, State.wake_apKept, Approach.kept_amberHealth]
    rw [exec_lampProvingSpan, judged]
    refine ⟨_, rfl, kept, others, own.trans ?_⟩
    rw [health, Health.judge_eq, ← s.wake_apKept x]
    cases proof <;> cases h : (s.wake.ap x).closure <;> simp [Approach.amberOn, h, Approach.kept]
  · have judged : s.wake.judgeRoadLamp (.lane g) proof =
        s.wake.onGate g fun _ _ _ y => { y with health := y.health.judge (y.lamp.lit s.wake.flashOn) proof } :=
      if_pos (by rw [State.wake_gateUsed, used])
    have health : (s.wake.gate g).health = (s.gate g).health := congrArg GateKept.health (s.wake_gateKept g)
    have lit : (s.wake.gate g).lamp.lit s.wake.flashOn =
        decide ((s.wake.gate g).lamp = .red ∨ (s.wake.gate g).lamp = .redFlash ∧ s.flashOn = true) := by
      rw [State.wake_flashOn]
      cases (s.wake.gate g).lamp <;> simp [LaneAspect.lit]
    rw [exec_lampProvingSpan, judged]
    refine ⟨_, rfl, (State.onGate_sameButAps _ _ _).settle_kept, fun h ne => ?_, ?_⟩
    · rw [State.settle_gateKept, State.onGate_other _ ne, State.wake_gateKept]
    · rw [State.settle_gateKept, State.onGate_same, health, Health.judge_eq, lit, ← s.wake_gateKept g]
      cases proof <;> rfl

end Sys2Proof.Machine
end

section
/-!
PROOFS. The turns of the two parts on the line (R155 to R158): what each event of the sender makes of the link record.
-/

namespace Sys2Proof.Machine

open Sys2Proof

namespace State

/-! ### What the link record does not touch -/

theorem modLink_statusFrame (s : State) (f : Link → Link) : (s.modLink f).statusFrame = s.statusFrame := rfl

/-- A transmission that falls due, by the buffer (R155). -/
theorem transmit_eq (s : State) : s.transmit =
    { s with link := if s.link.buffer = .quiet then { s.link with buffer := .preamble, txFrame := s.statusFrame }
                     else s.link } := by
  unfold transmit
  by_cases h : s.link.buffer = .quiet
  · rw [if_pos (by simpa using h), if_pos h]
    rfl
  · rw [if_neg (by simpa using h), if_neg h]

/-- The tone that a twin part starts (R158). -/
theorem startTone_twin {s : State} (h : s.role ≠ .sole) : s.startTone =
    { s with link := { s.link with buffer := .tone, txFrame := [], toneLength := .running 20, toneTimer := .running 250,
                                   toneHeard := false } } := by
  have twin : s.twin = true := by simpa [State.twin] using h
  unfold startTone
  rw [if_pos twin]

end State

/-! ### The events -/

theorem exec_leadPeriod (s : State) : exec .leadPeriod s =
    .next (if s.wake.role == .lead then (s.wake.modLink fun l => { l with period := .running 50 }).transmit
           else s.wake).settle := rfl

theorem exec_replyTimerExpiry (s : State) : exec .replyTimerExpiry s =
    .next (if s.wake.role == .follow && s.wake.link.reply.isRunning then
             (s.wake.modLink fun l => { l with reply := .stopped }).transmit
           else s.wake).settle := rfl

theorem exec_preambleEnd (s : State) : exec .preambleEnd s =
    .next (if s.wake.link.buffer == .preamble then s.wake.modLink fun l => { l with buffer := .sending }
           else s.wake).settle := rfl

theorem exec_preambleAbandon (s : State) : exec .preambleAbandon s =
    .next (if s.wake.link.buffer == .preamble then
             s.wake.modLink fun l => { l with buffer := .receiving, txFrame := [], toneHeard := false }
           else s.wake).settle := rfl

theorem exec_sendEnd (s : State) : exec .sendEnd s =
    .next (if s.wake.link.buffer == .sending then s.wake.modLink fun l => { l with buffer := .quiet, txFrame := [] }
           else s.wake).settle := rfl

theorem exec_toneRepeat (s : State) : exec .toneRepeat s =
    .next (if s.wake.faults.halted && s.wake.link.toneTimer.isRunning then s.wake.startTone else s.wake).settle := rfl

theorem exec_toneEnd (s : State) : exec .toneEnd s =
    .next (if s.wake.link.buffer == .tone then
             s.wake.modLink fun l => { l with buffer := .quiet, toneLength := .stopped }
           else s.wake).settle := rfl

/-- Settles O60, event by event. -/
theorem linkTurns : Obligations.LinkTurns := by
  intro s w l sent
  refine ⟨fun lead => ?_, fun ms follow runs => ?_, fun preamble => ⟨?_, ?_⟩, fun sending => ?_,
    fun ms twin halted runs => ?_, fun tone => ?_⟩
  · rw [exec_leadPeriod, if_pos (by simp [lead]), State.transmit_eq, State.modLink_statusFrame]
    rfl
  · have running : s.wake.link.reply.isRunning = true := congrArg Timer.isRunning runs
    rw [exec_replyTimerExpiry, if_pos (by simp [follow, running]), State.transmit_eq, State.modLink_statusFrame]
    rfl
  · rw [exec_preambleEnd, if_pos (by simpa using preamble)]
    rfl
  · rw [exec_preambleAbandon, if_pos (by simpa using preamble)]
    rfl
  · rw [exec_sendEnd, if_pos (by simpa using sending)]
    rfl
  · have running : s.wake.link.toneTimer.isRunning = true := congrArg Timer.isRunning runs
    rw [exec_toneRepeat, if_pos (by rw [halted, running]; rfl), State.startTone_twin (by rw [State.wake_role]; exact twin)]
  · rw [exec_toneEnd, if_pos (by simpa using tone)]
    rfl

end Sys2Proof.Machine
end

section
/-!
PROOFS. The requests on the fault unit and the end of a span halt (R168, R171, R172, R175 to R178).
-/

namespace Sys2Proof.Machine

open Sys2Proof

/-! ### A masked fault stays clear -/

/-- A fault that is masked, its condition and its latch clear (R171). -/
def State.MaskedClear (s : State) (f : FaultId) : Prop := s.fault f = { cond := false, latch := false, mask := true }

namespace State.Path

/-- No reaction brings a masked fault back. -/
theorem maskedClear {full : Prop} {s t : State} {f : FaultId} (h : s.Path full t) (clear : s.MaskedClear f) :
    t.MaskedClear f := by
  unfold MaskedClear at *
  induction h with
  | @still s t faults leaf keeps =>
    have recs : t.faults.recs = s.faults.recs := congrArg Prod.fst faults
    unfold fault
    rw [recs]
    exact clear
  | raise s g =>
    by_cases same : g.index = f.index
    · obtain rfl := FaultId.index_injective same
      rw [raise_masked s g (by rw [clear]), clear]
    · rw [raise_other s g f same, clear]
  | report s => rw [reportAll_fault, reported, clear]; simp
  | trans _ _ ih ih' => exact ih' (ih clear)

end State.Path

/-! ### SET_MASK, ACK_FAULTS and the lapse of the prepare flag -/

theorem FaultId.ofCode?_index (f : FaultId) : FaultId.ofCode? f.index.val = some f := by
  cases f <;> rfl

theorem FaultId.ofCode?_none {n : Nat} (h : 28 < n) : FaultId.ofCode? n = none :=
  List.getElem?_eq_none (show allFaults.length ≤ n from h)

theorem State.settle_mask (s : State) (f : FaultId) : (s.settle.fault f).mask = (s.fault f).mask :=
  fault_mask_of_kept (by rw [State.settle_kept]) f

theorem State.setMask_masks (s : State) (f : FaultId) (on : Bool) :
    (s.setMask f on).kept = { s.kept with masks := s.kept.masks.set f.index.val on } := by
  have written (r : FaultRec) : (s.setFault f r).kept = { s.kept with masks := s.kept.masks.set f.index.val r.mask } := by
    simp only [State.kept, State.setFault, Vector.toList_set, List.map_set]
  unfold State.setMask
  cases on
  · exact written _
  · exact written _

theorem State.setMask_self (s : State) (f : FaultId) (on : Bool) : (s.setMask f on).fault f =
    if on then { cond := false, latch := false, mask := true } else { s.fault f with mask := false } := by
  unfold State.setMask
  cases on
  · exact (State.setFault_fault s f f _).trans (if_pos rfl)
  · exact (State.setFault_fault s f f _).trans (if_pos rfl)

theorem State.respond_fault (s : State) (r : Result) (d : List Byte) (f : FaultId) :
    (s.respond r d).fault f = s.fault f := rfl

theorem exec_setMask (s : State) (n v : Nat) : exec (.setMask .maintenance n v) s =
    .next (s.asked.answer (match FaultId.ofCode? n with
      | none => .refuse .badValue
      | some f =>
        if f.cls != .warning || decide (1 < v) then .refuse .badValue else State.ok (s.asked.setMask f (v == 1)))) := rfl

theorem exec_ackFaults (s : State) : exec (.ackFaults .operator) s =
    .next (s.asked.answer (.accept s.asked.ackFaults fun _ => be32 s.asked.ackFaults.latchCount)) :=
  s.request_allowed .operator [.operator] (fun t => .accept t.ackFaults fun _ => be32 t.ackFaults.latchCount) rfl

theorem exec_resumePrepareLapse (s : State) : exec .resumePrepareLapse s =
    .next (if s.wake.faults.lapse.isRunning then s.wake.clearPrepare else s.wake).settle := rfl

/-- Settles O52: the mask, the acknowledged latches and the flag are written, and no reaction brings a masked fault back. -/
theorem faultRequests : Obligations.FaultRequests := by
  intro s w
  refine ⟨fun f v warning small => ?_, fun n v bad => ?_, ⟨w.ackFaults, ?_, rfl, State.ackFaults_fault w⟩, fun ms runs => ?_⟩
  · have on : (v == 1) = decide (v = 1) := rfl
    have run : exec (.setMask .maintenance f.index.val v) s =
        .next ((w.setMask f (decide (v = 1))).settle.respond .ok []) := by
      rw [exec_setMask, FaultId.ofCode?_index]
      dsimp only
      rw [if_neg (by simp [warning]; omega), on, State.answer_ok]
    refine ⟨_, run, ?_, ?_, fun one => ?_⟩
    · have port : (w.setMask f (decide (v = 1))).port = s.port :=
        (congrArg Kept.port (w.setMask_masks f _)).trans s.asked_port
      rw [State.settle_respond_keptAnswer [] port, State.setMask_masks, State.asked_kept]
      rfl
    · rw [State.respond_fault, State.settle_mask, State.setMask_self]
      cases decide (v = 1) <;> rfl
    · have clear : (w.setMask f (decide (v = 1))).MaskedClear f := by
        rw [State.MaskedClear, State.setMask_self, decide_eq_true one, if_pos rfl]
      have settled : (w.setMask f (decide (v = 1))).settle.MaskedClear f :=
        (State.Path.settle (full := True) _).maskedClear clear
      rw [State.respond_fault, settled]
      exact ⟨rfl, rfl⟩
  · rw [exec_setMask]
    rcases bad with high | large | ⟨f, rfl, other⟩
    · rw [FaultId.ofCode?_none high]
      exact congrArg Host.Outcome.next (State.answer_refuse _ _)
    · cases FaultId.ofCode? n with
      | none => exact congrArg Host.Outcome.next (State.answer_refuse _ _)
      | some f =>
        dsimp only
        rw [if_pos (by simp [large]), State.answer_refuse]
    · rw [FaultId.ofCode?_index]
      dsimp only
      rw [if_pos (by simp [other]), State.answer_refuse]
  · rw [exec_ackFaults, State.answer_accept, State.latchCount]
  · refine ⟨_, exec_resumePrepareLapse s, ?_⟩
    rw [if_pos (by rw [State.wake_lapse, runs]; rfl), State.settle_kept, State.clearPrepare_kept, State.wake_kept]

/-! ### RESUME_PREPARE -/

/-- Settles O53: the flag is set whatever the latches, in every role. -/
theorem resumePrepared : Obligations.ResumePrepared := by
  intro s
  refine ⟨fun st other => ?_, fun running => ?_, fun halted => ?_⟩
  · exact execResumePrepare_other s other
  · refine (execResumePrepare_operator s).trans ?_
    rw [if_neg (by simp [running])]
  · refine ⟨_, execResumePrepare_operator s, ?_⟩
    have port : s.wake.prepared.port = s.port := s.wake_port
    have set : s.wake.prepared.kept = { s.wake.kept with prepare := true, lapse := .running 5000 } := rfl
    rw [if_pos halted, State.settle_respond_keptAnswer [] port, set, State.wake_kept]

/-! ### RESUME -/

/-- A HALT latch or condition stands (R177). -/
theorem State.standing_iff (s : State) : (haltFaults.any fun f => (s.fault f).latch || (s.fault f).cond) = true ↔
    ∃ f : FaultId, f.cls = .halt ∧ (s.latched f = true ∨ (s.fault f).cond = true) := by
  have class_ (f : FaultId) : f ∈ haltFaults ↔ f.cls = .halt := by cases f <;> decide
  simp only [List.any_eq_true, class_, Bool.or_eq_true, State.latched]

theorem State.endHalt_frame (s : State) : s.endHalt =
    { s with
        faults := { s.faults with halted := false }
        motion := { s.motion with state := s.endHalt.motion.state }
        link := { s.link with toneTimer := .stopped }, apA := s.endHalt.apA, apB := s.endHalt.apB } := by
  unfold State.endHalt
  dsimp only
  rw [onUsedAps_frame]
  rfl

theorem Approach.resume_unpending {x : RoadCtx} {a : Approach} (h : a.advancePending = false) : a.resume x = a :=
  if_neg (by simp [h])

theorem Approach.resume_kept (x : RoadCtx) (a : Approach) : (a.resume x).kept = a.kept := by
  unfold Approach.resume
  split
  · dsimp only
    split
    · exact Approach.timerExpiry_kept _ _
    · exact Approach.timerExpiry_kept _ _
    · split
      · exact Approach.timerExpiry_kept _ _
      · rfl
    · rfl
  · rfl

theorem State.endHalt_state (s : State) :
    s.endHalt.motion.state = if s.pos.seat == some true then s.seatedState else .stopped := by
  unfold State.endHalt
  dsimp only
  rw [onUsedAps_frame]
  rfl

/-- What the end of a span halt makes of an approach (R109, R178). -/
theorem State.endHalt_ap (s : State) (x : Ap) : s.endHalt.ap x =
    if s.usesAp x then (s.ap x).resume (({ s with faults := { s.faults with halted := false } } : State).roadCtx x)
    else s.ap x := by
  have own : s.endHalt.ap x =
      (({ s with faults := { s.faults with halted := false } } : State).resumeMotion.onUsedAps fun k a => a.resume k).ap x := by
    cases x <;> rfl
  rw [own, onUsedAps_ap]
  cases x <;> rfl

/-- The approach at the end of a span halt (R109). -/
theorem Approach.resume_pending {x : RoadCtx} {a : Approach} (h : a.advancePending = true) :
    (a.resume x).advancePending = false ∧
      (a.closure = .prewarn → (a.resume x).closure = .stopping ∧ (a.resume x).stateTimer = Timer.startS x.stopTime) ∧
      (a.closure = .stopping → (a.resume x).closure = .entryLowering) := by
  cases closure : a.closure
  case clearing =>
    simp only [Approach.resume, h, if_true, closure]
    refine ⟨?_, nofun, nofun⟩
    split <;> rfl
  all_goals simp [Approach.resume, h, closure, Approach.timerExpiry, Approach.enter]

/-- Settles O54: the refusals in the order of R177, and the frame of the end of the halt. -/
theorem resumeEnds : Obligations.ResumeEnds := by
  intro s w standing
  have prepare : s.wake.faults.prepare = s.faults.prepare := s.wake_prepare
  have refused {r : Result} (h : s.wake.resumeRefusal = some r) :
      exec (.resume .operator) s = .next (w.respond r []) := by
    refine (execResume_operator s).trans ?_
    rw [h]
  have halted_iff : w.faults.halted = s.wake.faults.halted := rfl
  have standing_iff : (haltFaults.any fun f => (s.wake.fault f).latch || (s.wake.fault f).cond) = true ↔ standing :=
    s.wake.standing_iff
  rw [halted_iff]
  refine ⟨fun running => refused ?_, fun halted no => refused ?_, fun halted yes bad => refused ?_,
    fun halted yes good => ⟨w.endHalt, ?_, ?_, ?_, fun x => ?_⟩⟩
  · rw [State.resumeRefusal, if_pos (by simp [running])]
  · rw [State.resumeRefusal, if_neg (by simp [halted]), if_pos (by simp [no])]
  · rw [State.resumeRefusal, if_neg (by simp [halted]), if_neg (by simp [yes]), if_pos (standing_iff.mpr bad)]
  · have none_ : s.wake.resumeRefusal = none := by
      rw [State.resumeRefusal, if_neg (by simp [halted]), if_neg (by simp [yes]), if_neg (mt standing_iff.mp good)]
    refine (execResume_operator s).trans ?_
    rw [none_]
  · exact w.endHalt_frame
  · rw [State.endHalt_state, State.seatedState_eq, State.asked_role, State.asked_pos]
    simp only [beq_iff_eq]
  · have stop (k : State) : Timer.startS (k.roadCtx x).stopTime = .running (k.items.road.stopTime * 1000).toNat := rfl
    have own := w.endHalt_ap x
    rw [State.asked_usesAp] at own
    rw [own]
    refine ⟨?_, fun out => ?_, fun uses pending => ?_⟩
    · split
      · exact Approach.resume_kept _ _
      · rfl
    · rcases out with unused | none_
      · rw [if_neg (by simp [unused])]
      · rw [Approach.resume_unpending none_, ite_self]
    · rw [if_pos uses]
      obtain ⟨cleared, prewarn, stopping⟩ := Approach.resume_pending
        (x := ({ w with faults := { w.faults with halted := false } } : State).roadCtx x) pending
      have items : w.items = s.items := s.asked_items
      refine ⟨cleared, fun c => ⟨(prewarn c).1, (prewarn c).2.trans ?_⟩, stopping⟩
      rw [← items]
      exact stop _

end Sys2Proof.Machine
end

section
/-!
PROOFS. The seven state reads (R191, R192).
-/

namespace Sys2Proof.Machine

open Sys2Proof

/-! ### The fields a read shows -/

/-- The flags of a STATUS byte are worth the powers of two of the bits that are set. -/
theorem sum_zipIdx_flags (bits : List Bool) (k : Nat) :
    ((bits.zipIdx k).map fun (b, i) => if b then 2 ^ i else 0).sum = 2 ^ k * flagsByte bits := by
  induction bits generalizing k with
  | nil => rfl
  | cons b bits ih =>
    have step : flagsByte (b :: bits) = (if b then 1 else 0) + 2 * flagsByte bits := rfl
    rw [List.zipIdx_cons, List.map_cons, List.sum_cons, ih, step]
    cases b
    · simp only [Bool.false_eq_true, if_false]
      ring
    · simp only [if_true]
      ring

namespace State

theorem wake_effectiveWater (s : State) : s.wake.effectiveWater = s.effectiveWater := by simp [effectiveWater]

theorem wake_waterAge (s : State) : s.wake.waterAge = s.waterAge := by simp [waterAge]

theorem wake_speed (s : State) : s.wake.speed = s.speed := by simp [speed, source]

theorem wake_storeBusy (s : State) : s.wake.storeBusy = s.storeBusy := by simp [storeBusy]

theorem wake_beams (s : State) :
    (s.wake.signals.downstream, s.wake.signals.upstream) = (s.signals.downstream, s.signals.upstream) :=
  congrArg Kept.beams s.wake_kept

theorem wake_kinds (s : State) (x : Ap) : s.wake.kinds x = s.kinds x := by simp [kinds]

end State

/-! ### The reads run -/

theorem exec_readStatus (s : State) (st : Station) : exec (.readStatus st) s = .next (s.wake.respond .ok
    (u8 s.wake.role.code ++ be32 s.wake.clock ++ s.wake.waterBytes ++ s.wake.opening.bytes ++
      u8 s.wake.opening.interval.code ++ timerBytes s.wake.opening.intervalTimer ++ be32 s.wake.opening.credits ++
      timerBytes s.wake.opening.settle ++ flagByte s.wake.storeBusy ++
      optCode (s.wake.settings.lastTarget.map StoreTarget.code) ++ u8 s.wake.settings.lastOutcome.code ++
      flagByte s.wake.settings.protect ++ readingByte s.wake.lines.key)) := rfl

theorem exec_readLeaf (s : State) (st : Station) : exec (.readLeaf st) s = .next (s.wake.respond .ok
    (s.wake.motionBytes ++ be16 s.wake.angle ++ be32 s.wake.speed ++ optAngle s.wake.target ++ u8 s.wake.pos.source.code ++
      readingByte (s.wake.pos.seat.map (!·)) ++ s.wake.pos.p.bytes ++ s.wake.pos.c.bytes ++ s.wake.locks.tail.bytes ++
      s.wake.locks.toe.bytes)) := rfl

theorem exec_readSignals (s : State) (st : Station) : exec (.readSignals st) s = .next (s.wake.respond .ok
    (s.wake.signals.inbound.bytes ++ s.wake.signals.outbound.bytes ++ readingByte s.wake.signals.downstream ++
      readingByte s.wake.signals.upstream ++ s.wake.signals.call.bytes)) := rfl

theorem exec_readFaults (s : State) (st : Station) : exec (.readFaults st) s = .next (s.wake.respond .ok
    ((allFaults.flatMap fun f => (s.wake.fault f).bytes) ++ u8 (if s.wake.faults.halted then 1 else 0) ++
      optCode (s.wake.faults.entryFault.map fun f => f.index.val) ++ optClock s.wake.faults.enteredAt ++
      flagByte s.wake.faults.prepare)) := rfl

theorem exec_readLink (s : State) (st : Station) : exec (.readLink st) s = .next (s.wake.respond .ok
    (u8 (if s.wake.link.paired then 0 else 1) ++ u8 s.wake.link.buffer.code ++ be32 s.wake.link.mismatch ++
      flagByte (s.wake.fault .pairMismatch).cond ++ viewBytes s.wake.link.view ++
      optClock (if s.wake.link.view.isSome then some s.wake.link.age else none))) := rfl

theorem exec_readSetting (s : State) (st : Station) (n copy : Nat) : exec (.readSetting st n copy) s =
    s.read fun t =>
      match Item.ofNumber? n, copy with
      | some i, 0 => .ok (settingBytes i (t.items.get i))
      | some i, 1 => .ok (settingBytes i (t.settings.storedValue i))
      | _, _ => .error .badValue := rfl

theorem exec_readSetting_bad (s : State) (st : Station) {n copy : Nat} (h : 58 < n ∨ 1 < copy) :
    exec (.readSetting st n copy) s = .next (s.wake.respond .badValue []) := by
  rw [exec_readSetting]
  refine s.read_error _ _ ?_
  rcases h with high | other
  · rw [Item.ofNumber?, List.getElem?_eq_none (show allItems.length ≤ n from high)]
  · obtain ⟨m, rfl⟩ : ∃ m, copy = m + 2 := ⟨copy - 2, by omega⟩
    cases Item.ofNumber? n <;> rfl

theorem exec_readSetting_of_item (s : State) (st : Station) {n : Nat} {i : Item} (h : allItems[n]? = some i) :
    exec (.readSetting st n 0) s = .next (s.wake.respond .ok (settingBytes i (s.items.get i))) ∧
      exec (.readSetting st n 1) s = .next (s.wake.respond .ok (settingBytes i (s.settings.storedValue i))) := by
  rw [exec_readSetting, exec_readSetting, ← s.wake_items, ← s.wake_settings]
  have number : Item.ofNumber? n = some i := h
  exact ⟨s.read_ok _ _ (by simp only [number]), s.read_ok _ _ (by simp only [number])⟩

/-- Settles O41: each read lays out its records, of which what the reactions keep reads as it stood before. -/
theorem readsAnswer : Obligations.ReadsAnswer := by
  intro s st w o m set reading
  refine ⟨?_, ?_, fun ap => ⟨fun x code => ?_, fun other => ?_⟩, ?_, ⟨_, exec_readFaults s st, ?_, ?_⟩,
    ?_, fun n i at_ => ⟨?_, ?_⟩, fun n copy bad => exec_readSetting_bad s st bad⟩
  · rw [exec_readStatus]
    simp only [State.waterBytes, State.wake_effectiveWater, State.wake_waterAge, State.wake_storeBusy, State.wake_role,
      State.wake_clock, State.wake_water, State.wake_settings, State.wake_lines, Opening.bytes, State.wake_number,
      State.wake_settleTimer]
    rfl
  · intro channel
    rw [exec_readLeaf, State.wake_speed, State.wake_pos]
    simp only [State.motionBytes, State.wake_creep, State.wake_candidate]
    rfl
  · intro r gate zone
    have run : exec (.readApproach st ap) s = .next (w.respond .ok (w.approachBytes x)) := by
      rw [code]
      cases x <;> rfl
    rw [run]
    simp only [State.approachBytes, State.gatesBytes, State.zonesBytes, w, State.wake_kinds, State.wake_zoneUse,
      State.wake_zones, List.flatMap_cons, List.flatMap_nil, List.append_nil, List.append_assoc]
    cases x with
    | a => obtain rfl : ap = 0 := code; rfl
    | b => obtain rfl : ap = 1 := code; rfl
  · obtain ⟨n, rfl⟩ : ∃ n, ap = n + 2 := ⟨ap - 2, by omega⟩
    rfl
  · intro dir c
    rw [exec_readSignals, ← show s.wake.signals.downstream = s.signals.downstream from congrArg (·.1) (s.wake_beams),
      ← show s.wake.signals.upstream = s.signals.upstream from congrArg (·.2) (s.wake_beams)]
    rfl
  · intro f
    cases f <;> rfl
  · rw [← s.wake_prepare]
    rfl
  · rw [exec_readLink, State.wake_paired, State.wake_view, State.wake_mismatch, State.wake_age]
    cases s.link.view with
    | none => rfl
    | some v =>
      dsimp only
      rw [sum_zipIdx_flags, pow_zero, one_mul]
      rfl
  · rw [(exec_readSetting_of_item s st at_).1]
    cases s.items.get i <;> rfl
  · rw [(exec_readSetting_of_item s st at_).2, Settings.storedValue]
    split
    · rfl
    · cases s.settings.stored.get i <;> rfl

end Sys2Proof.Machine
end

section
/-!
PROOFS. Refusals of the requests by their station and by the role (R6, R35, R149, R191), and the listings of the book (R12 to
R14).
-/

namespace Sys2Proof.Machine

open Sys2Proof

/-! ### Refusals -/

/-- A request from a station that may not send it (R191). -/
theorem exec_denied (s : State) {i : Instr} {st : Station} (sent : stationOf i = some st)
    (denied : (stationsOf i).contains st = false) : exec i s = .next (s.asked.respond .notPermitted []) := by
  cases i <;> cases sent
  case lookup | listBook | readStatus | readLeaf | readApproach | readSignals | readFaults | readLink | readSetting =>
    cases st <;> cases denied
  case resumePrepare => exact execResumePrepare_other s (by rintro rfl; cases denied)
  case resume => exact execResume_other s (by rintro rfl; cases denied)
  case book => unfold exec execBook; exact s.request_denied _ _ _ denied
  case amend => unfold exec execAmend; exact s.request_denied _ _ _ denied
  case cancel => unfold exec execCancel; exact s.request_denied _ _ _ denied
  case listChanged => unfold exec execListChanged; exact s.request_denied _ _ _ denied
  case forget => unfold exec execForget; exact s.request_denied _ _ _ denied
  case markPassed => unfold exec execMarkPassed; exact s.request_denied _ _ _ denied
  case setWater => unfold exec execSetWater; exact s.request_denied _ _ _ denied
  case enterCreep => unfold exec execEnterCreep; exact s.request_denied _ _ _ denied
  case leaveCreep => unfold exec execLeaveCreep; exact s.request_denied _ _ _ denied
  case teachSeat => unfold exec execTeachSeat; exact s.request_denied _ _ _ denied
  case recoverLower => unfold exec execRecoverLower; exact s.request_denied _ _ _ denied
  case stopSpan => unfold exec execStopSpan; exact s.request_denied _ _ _ denied
  case retryGate => unfold exec execRetryGate; exact s.request_denied _ _ _ denied
  case reopenRoad => unfold exec execReopenRoad; exact s.request_denied _ _ _ denied
  case closeRoad => unfold exec execCloseRoad; exact s.request_denied _ _ _ denied
  case releaseLane => unfold exec execReleaseLane; exact s.request_denied _ _ _ denied
  case holdLane => unfold exec execHoldLane; exact s.request_denied _ _ _ denied
  case releaseAll => unfold exec execReleaseAll; exact s.request_denied _ _ _ denied
  case holdAll => unfold exec execHoldAll; exact s.request_denied _ _ _ denied
  case openSpan => unfold exec execOpenSpan; exact s.request_denied _ _ _ denied
  case closeNow => unfold exec execCloseNow; exact s.request_denied _ _ _ denied
  case abortOpening => unfold exec execAbortOpening; exact s.request_denied _ _ _ denied
  case continueOpening => unfold exec execContinueOpening; exact s.request_denied _ _ _ denied
  case setMask => unfold exec execSetMask; exact s.request_denied _ _ _ denied
  case ackFaults => unfold exec execAckFaults; exact s.request_denied _ _ _ denied
  case writeSetting => unfold exec execWriteSetting; exact s.request_denied _ _ _ denied
  case storeSettings => unfold exec execStoreSettings; exact s.request_denied _ _ _ denied
  case setProtect => unfold exec execSetProtect; exact s.request_denied _ _ _ denied

theorem exec_cancel (s : State) (n : Nat) : exec (.cancel .harbour n) s = .next (s.asked.answer (s.asked.onRecord n fun r =>
    match r.state with
    | .booked | .grouped => State.ok (s.asked.closeRec n .cancelled)
    | .called => State.ok ((s.asked.callEnd r.dir).closeRec n .cancelled)
    | .passing => .refuse .inPassage
    | .passed | .cancelled | .lapsed => .refuse .wrongState)) := rfl

theorem exec_markPassed (s : State) (n : Nat) : exec (.markPassed .operator n) s =
    .next (s.asked.answer (s.asked.onRecord n fun r =>
      if r.state == .passing then State.ok ((s.asked.callEnd r.dir).closeRec n .passed) else .refuse .wrongState)) := rfl

theorem exec_book (s : State) (vessel dir : Nat) (draft : Int) (priority : Nat) (nb : NotBeforeParam) (follows : Nat) :
    exec (.book .harbour vessel dir draft priority nb follows) s =
      .next (s.asked.answer (match s.asked.judgeBooking vessel dir draft priority nb follows with
        | .error r => .refuse r
        | .ok b => .accept (s.asked.placeBooking b).examineJoins fun _ =>
            be16 s.asked.bookingNumber ++ b.required.bytes)) := rfl

theorem exec_amend (s : State) (n : Nat) (c : AmendChange) : exec (.amend .harbour n c) s =
    .next (s.asked.answer (match s.asked.judgeAmend n c with
      | .error r => .refuse r
      | .ok (r, req) => .accept ((s.asked.amendRec n c req).afterAmend n c r.state) fun _ => req.bytes)) := rfl

/-- How LIST_CHANGED is answered (R14). -/
def State.changedAnswer (s : State) : Answer :=
  if s.role == .follow then .refuse .notLead
  else
    .accept s.clearChanged fun _ =>
      u8 s.changedPage.length ++ (s.changedPage.flatMap fun n => be16 n) ++ flagByte s.clearChanged.bookAttention

theorem exec_listChanged (s : State) :
    exec (.listChanged .harbour) s = .next (s.asked.answer s.asked.changedAnswer) := by
  unfold exec execListChanged
  exact s.request_allowed _ _ State.changedAnswer rfl

/-- How SET_WATER is answered (R27). -/
def State.waterAnswer (s : State) (level : Int) : Answer :=
  if s.role == .follow then .refuse .notLead
  else if level < -500 || level > 1500 then .refuse .badValue
  else
    let u := { s with water := { source := .fresh, level := some level, time := some s.clock,
                                 life := some s.items.clearance.waterStale.toNat } }
    .accept (if u.effectiveWater = s.effectiveWater then u else u.reevaluate) fun v => be16 v.effectiveWater

theorem exec_setWater (s : State) {st : Station} (h : st = .operator ∨ st = .harbour) (level : Int) :
    exec (.setWater st level) s = .next (s.asked.answer (s.asked.waterAnswer level)) := by
  unfold exec execSetWater
  rcases h with rfl | rfl
  · exact s.request_allowed _ _ (fun t => t.waterAnswer level) rfl
  · exact s.request_allowed _ _ (fun t => t.waterAnswer level) rfl

theorem exec_openSpan (s : State) : exec (.openSpan .operator) s = .next (s.asked.answer
    (match s.asked.judgeOpen with
    | .error r => .refuse r
    | .ok ns => .accept (s.asked.startOpening ns) fun u =>
        be16 u.opening.number ++ optAngle u.opening.target ++ u8 u.opening.phase.code)) := rfl

theorem exec_closeNow (s : State) : exec (.closeNow .operator) s = .next (s.asked.answer
    (if s.asked.role == .follow then .refuse .notLead
    else if s.asked.opening.phase != .heldOpen then .refuse .wrongState
    else State.ok (s.asked.returnAll.modOpening fun o => { o with closeRequested := true, linger := .stopped }))) := by
  unfold exec execCloseNow
  exact s.request_allowed _ _ _ rfl

theorem exec_abortOpening (s : State) : exec (.abortOpening .operator) s = .next (s.asked.answer
    (if s.asked.role == .follow then .refuse .notLead
    else if s.asked.faults.halted then .refuse .halted
    else if s.asked.opening.phase != .pending && s.asked.opening.phase != .closingRoad then .refuse .wrongState
    else State.ok s.asked.abortOpening)) := by
  unfold exec execAbortOpening
  exact s.request_allowed _ _ _ rfl

/-- Settles O43, by the station and by the role. -/
theorem requestsRefused : Obligations.RequestsRefused := by
  intro s no
  have denied {i : Instr} {st : Station} (sent : stationOf i = some st) (out : (stationsOf i).contains st = false) : no i :=
    exec_denied s sent out
  refine ⟨fun st other => ?_, fun level => ?_, fun st other => ?_, fun st other => ?_, fun follow => ?_⟩
  · have out : [Station.harbour].contains st = false := by simpa using other
    exact ⟨fun _ _ _ _ _ _ => denied rfl out, fun _ _ => denied rfl out, fun _ => ⟨denied rfl out, denied rfl out⟩,
      denied rfl out⟩
  · exact denied rfl rfl
  · have out : [Station.operator].contains st = false := by simpa using other
    exact ⟨fun _ => ⟨denied rfl out, denied rfl out, denied rfl out, denied rfl out⟩, denied rfl out, denied rfl out,
      denied rfl out, denied rfl out, denied rfl out, denied rfl out, denied rfl out, denied rfl out, denied rfl out,
      denied rfl out, denied rfl out, denied rfl out, denied rfl out⟩
  · have out : [Station.maintenance].contains st = false := by simpa using other
    exact ⟨denied rfl out, denied rfl out, denied rfl out, fun _ _ => denied rfl out, fun _ _ => denied rfl out,
      fun _ => denied rfl out, fun _ => denied rfl out⟩
  · have mirror : s.asked.role = .follow := s.asked_role.trans follow
    have reads : (s.wake.role == .follow) = true := by rw [s.wake_role, follow]; rfl
    have judged : (s.asked.role == .follow) = true := by rw [mirror]; rfl
    refine ⟨fun _ _ _ _ _ _ => ?_, fun _ _ => ?_, fun _ => ⟨?_, ?_, ?_⟩, ?_, fun st level who => ?_, ?_, ?_, ?_,
      fun _ _ => ?_, fun _ _ _ => ?_⟩
    · rw [exec_book, State.judgeBooking, if_pos judged]
      exact congrArg Host.Outcome.next (State.answer_refuse _ _)
    · rw [exec_amend, State.judgeAmend, if_pos judged]
      exact congrArg Host.Outcome.next (State.answer_refuse _ _)
    · rw [exec_cancel, State.onRecord_of_follow mirror, State.answer_refuse]
    · rw [exec_forget, State.onRecord_of_follow mirror, State.answer_refuse]
    · rw [exec_markPassed, State.onRecord_of_follow mirror, State.answer_refuse]
    · rw [exec_listChanged, State.changedAnswer, if_pos judged, State.answer_refuse]
    · rw [exec_setWater s who, State.waterAnswer, if_pos judged, State.answer_refuse]
    · rw [exec_openSpan, State.judgeOpen, if_pos judged]
      exact congrArg Host.Outcome.next (State.answer_refuse _ _)
    · rw [exec_closeNow, if_pos judged, State.answer_refuse]
    · rw [exec_abortOpening, if_pos judged, State.answer_refuse]
    · unfold exec execLookup
      exact s.read_error _ _ (if_pos reads)
    · unfold exec execListBook
      exact s.read_error _ _ (if_pos reads)

end Sys2Proof.Machine
end

section
/-!
PROOFS. LOOKUP, LIST_BOOK and LIST_CHANGED (R12 to R14).
-/

namespace Sys2Proof.Machine

open Sys2Proof

/-! ### The first of a list, and the last of the closed ones -/

theorem find?_first {p : Rec → Bool} {xs ys : List Rec} {r : Rec} (none_ : ∀ q ∈ xs, p q = false) (own : p r = true) :
    (xs ++ r :: ys).find? p = some r := by
  rw [List.find?_append, List.find?_eq_none.mpr fun q hq => by rw [none_ q hq]; exact Bool.false_ne_true, Option.none_or,
    List.find?_cons_of_pos own]

/-- The later of two closed records, the later in book order among equals (R12). -/
def laterClosed (acc : Option Rec) (r : Rec) : Option Rec :=
  match acc with
  | none => some r
  | some q => if r.closedAt.getD 0 ≥ q.closedAt.getD 0 then some r else some q

theorem latestClosed_eq (rs : List Rec) : latestClosed rs = (rs.filter fun r => !r.live).foldl laterClosed none := rfl

theorem foldl_laterClosed_mem (rs : List Rec) (acc : Option Rec) (q : Rec) (h : rs.foldl laterClosed acc = some q) :
    acc = some q ∨ q ∈ rs := by
  induction rs generalizing acc with
  | nil => exact .inl h
  | cons r rs ih =>
    rcases ih _ h with own | later
    · cases acc with
      | none => exact .inr (by obtain rfl : r = q := Option.some.inj own; simp)
      | some p =>
        unfold laterClosed at own
        split at own
        next e => cases e
        next e =>
          cases e
          split at own
          · exact .inr (by obtain rfl : r = q := Option.some.inj own; simp)
          · exact .inl own
    · exact .inr (List.mem_cons_of_mem _ later)

theorem foldl_laterClosed_stays {rs : List Rec} {r : Rec} (h : ∀ q ∈ rs, q.closedAt.getD 0 < r.closedAt.getD 0) :
    rs.foldl laterClosed (some r) = some r := by
  induction rs with
  | nil => rfl
  | cons q rs ih =>
    have less : ¬(q.closedAt.getD 0 ≥ r.closedAt.getD 0) := Nat.not_le.mpr (h q List.mem_cons_self)
    have step : laterClosed (some r) q = some r := if_neg less
    rw [List.foldl_cons, step]
    exact ih fun p hp => h p (List.mem_cons_of_mem _ hp)

/-- The closed record that closed last, the latest in book order among equals (R12). -/
theorem latestClosed_of {xs ys : List Rec} {r : Rec} (closed : ∀ q ∈ xs ++ r :: ys, q.live = false)
    (before : ∀ q ∈ xs, q.closedAt.getD 0 ≤ r.closedAt.getD 0)
    (after : ∀ q ∈ ys, q.closedAt.getD 0 < r.closedAt.getD 0) : latestClosed (xs ++ r :: ys) = some r := by
  have all : (xs ++ r :: ys).filter (fun r => !r.live) = xs ++ r :: ys :=
    List.filter_eq_self.mpr fun q hq => by rw [closed q hq]; rfl
  have taken : laterClosed (xs.foldl laterClosed none) r = some r := by
    cases h : xs.foldl laterClosed none with
    | none => rfl
    | some q =>
      rcases foldl_laterClosed_mem xs none q h with e | mem
      · cases e
      · exact if_pos (before q mem)
  rw [latestClosed_eq, all, List.foldl_append, List.foldl_cons, taken, foldl_laterClosed_stays after]

/-! ### LOOKUP (R12) -/

theorem Rec.bytes_length (r : Rec) : r.bytes.length = 25 := by
  cases h : r.required <;> simp [Rec.bytes, be16, be32, u8, flagByte, optNumber, Required.bytes, h]

/-- The answer of a LOOKUP that found this (R12). -/
def State.found (s : State) : Option Rec → State
  | none => s.respond .notFound []
  | some r => s.respond .ok r.bytes

theorem exec_lookup {s : State} (lead : s.role ≠ .follow) (st : Station) :
    (∀ n, exec (.lookup st (.number n)) s = .next (s.wake.found (s.wake.findRec n))) ∧
      (∀ v, exec (.lookup st (.vessel v)) s = .next (s.wake.found (s.wake.findVessel v))) ∧
      exec (.lookup st .other) s = .next (s.wake.respond .badValue []) := by
  have own : ¬(s.wake.role == .follow) = true := by rw [s.wake_role]; simpa using lead
  unfold exec execLookup State.read
  refine ⟨fun n => ?_, fun v => ?_, ?_⟩
  · dsimp only
    rw [if_neg own]
    generalize s.wake.findRec n = x
    cases x <;> rfl
  · dsimp only
    rw [if_neg own]
    generalize s.wake.findVessel v = x
    cases x <;> rfl
  · dsimp only
    rw [if_neg own]

theorem exec_listBook {s : State} (lead : s.role ≠ .follow) (st : Station) (filter : Nat) (after : Option Nat) :
    exec (.listBook st filter after) s = .next
      (if filter % 128 = 0 then s.wake.respond .badValue []
      else if after.any fun n => (s.wake.findRec n).isNone then s.wake.respond .notFound []
      else
        let rs := (s.wake.listFrom after).filter fun r => filter.testBit r.state.code
        let page := rs.take 16
        s.wake.respond .ok (u8 page.length ++ (page.flatMap fun r => be16 r.number ++ u8 r.state.code) ++
          flagByte (decide (16 < rs.length)))) := by
  have own : ¬(s.wake.role == .follow) = true := by rw [s.wake_role]; simpa using lead
  unfold exec execListBook State.read
  dsimp only
  rw [if_neg own]
  by_cases bad : filter % 128 = 0
  · rw [if_pos bad, if_pos bad]
  · rw [if_neg bad, if_neg bad]
    by_cases unknown : (after.any fun n => (s.wake.findRec n).isNone) = true
    · rw [if_pos unknown, if_pos unknown]
    · rw [if_neg unknown, if_neg unknown]

/-- Settles O42: the record that each key names, and the page of a listing. -/
theorem bookRead : Obligations.BookRead := by
  intro s st lead w rs
  obtain ⟨number_, vessel_, other⟩ := exec_lookup lead st
  have find_none {n : Nat} (absent : ∀ r ∈ rs, r.number ≠ n) : w.findRec n = none :=
    List.find?_eq_none.mpr fun r hr => by simpa using absent r hr
  refine ⟨fun n xs r ys e num first => ⟨?_, r.bytes_length⟩, fun n absent => ?_, fun v xs r ys e vessel named => ?_,
    fun v absent => ?_, other, fun filter after bad => ?_, fun filter n good absent => ?_,
    fun filter after rest good from_ => ?_⟩
  · have found : w.findRec n = some r := by
      unfold State.findRec
      rw [show w.book.records = xs ++ r :: ys from e]
      exact find?_first (fun q hq => by simpa using first q hq) (by simpa using num)
    rw [number_, found]
    rfl
  · rw [number_, find_none absent]
    rfl
  · have split_ : (w.book.records.filter fun q => q.vessel == v) =
        (xs.filter fun q => q.vessel == v) ++ r :: (ys.filter fun q => q.vessel == v) := by
      rw [show w.book.records = xs ++ r :: ys from e, List.filter_append, List.filter_cons_of_pos (by simpa using vessel)]
    have found : w.findVessel v = some r := by
      unfold State.findVessel
      dsimp only
      rw [split_]
      rcases named with ⟨live, first⟩ | ⟨closed, before, later⟩
      · rw [find?_first (fun q hq => ?_) live]
        obtain ⟨mem, same⟩ := List.mem_filter.mp hq
        exact first q mem (by simpa using same)
      · have none_ : ∀ q ∈ (xs.filter fun q => q.vessel == v) ++ r :: (ys.filter fun q => q.vessel == v), q.live = false := by
          rw [← split_]
          intro q hq
          obtain ⟨mem, same⟩ := List.mem_filter.mp hq
          exact closed q mem (by simpa using same)
        rw [List.find?_eq_none.mpr fun q hq => by rw [none_ q hq]; exact Bool.false_ne_true]
        refine latestClosed_of none_ (fun q hq => ?_) (fun q hq => ?_)
        · obtain ⟨mem, same⟩ := List.mem_filter.mp hq
          exact before q mem (by simpa using same)
        · obtain ⟨mem, same⟩ := List.mem_filter.mp hq
          exact later q mem (by simpa using same)
    rw [vessel_, found]
    rfl
  · have none_ : w.book.records.filter (fun q => q.vessel == v) = [] :=
      List.filter_eq_nil_iff.mpr fun r hr => by simpa using absent r hr
    have missing : w.findVessel v = none := by
      unfold State.findVessel
      dsimp only
      rw [none_]
      rfl
    rw [vessel_, missing]
    rfl
  · rw [exec_listBook lead, if_pos bad]
  · rw [exec_listBook lead, if_neg good, if_pos]
    rw [Option.any_some, show s.wake.findRec n = none from find_none absent]
    rfl
  · intro named
    have known : ¬(after.any fun n => (s.wake.findRec n).isNone) = true := by
      rcases from_ with ⟨rfl, -⟩ | ⟨n, xs, r, rfl, e, num, first⟩
      · simp
      · rw [Option.any_some]
        have mem : r ∈ s.wake.book.records := by
          rw [show s.wake.book.records = xs ++ r :: rest from e]
          simp
        simpa [State.findRec] using ⟨r, mem, num⟩
    have listed : s.wake.listFrom after = rest := by
      rcases from_ with ⟨rfl, rfl⟩ | ⟨n, xs, r, rfl, e, num, first⟩
      · rfl
      · unfold State.listFrom
        dsimp only
        rw [show s.wake.book.records = xs ++ r :: rest from e, List.dropWhile_append_of_pos fun q hq => by simpa using first q hq,
          List.dropWhile_cons_of_neg (by simpa using num), List.drop_one, List.tail_cons]
    rw [exec_listBook lead, if_neg good, if_neg known]
    dsimp only
    rw [listed, List.length_take]

/-! ### LIST_CHANGED (R14) -/

/-- The page of changed records is what stands first of them (R14). -/
theorem State.changedPage_eq {s : State} {said others : List Nat}
    (all : (s.book.records.filter Rec.changed).map (·.number) = said ++ others)
    (more : others ≠ [] → said.length = 16) (most : said.length ≤ 16) : s.changedPage = said := by
  unfold State.changedPage
  rw [List.map_take]
  refine (congrArg (List.take 16) all).trans ?_
  by_cases last : others = []
  · rw [last, List.append_nil, List.take_of_length_le most]
  · exact List.take_left' (more last)

/-- Records still want attention after a LIST_CHANGED exactly where others were changed than it reported (R14). -/
theorem State.clearChanged_attention {s : State} {said others : List Nat}
    (apart : (s.book.records.map (·.number)).Nodup)
    (all : (s.book.records.filter Rec.changed).map (·.number) = said ++ others) (page : s.changedPage = said) :
    s.clearChanged.bookAttention = true ↔ others ≠ [] := by
  have distinct : (said ++ others).Nodup := by
    rw [← all]
    exact apart.sublist (List.filter_sublist.map _)
  have among (n : Nat) : n ∈ said ++ others ↔ ∃ r ∈ s.book.records, r.changed = true ∧ r.number = n := by
    rw [← all]
    simp [and_assoc]
  have left : s.clearChanged.bookAttention = true ↔ ∃ r ∈ s.book.records, r.changed = true ∧ r.number ∉ said := by
    unfold State.bookAttention State.clearChanged
    simp only [page, List.any_map, List.any_eq_true, Function.comp, List.contains_iff_mem]
    refine exists_congr fun r => and_congr_right fun _ => ?_
    by_cases mem : r.number ∈ said
    · simp [mem]
    · simp [mem]
  rw [left]
  constructor
  · rintro ⟨r, mem, changed, unsaid⟩ rfl
    have := (among r.number).mpr ⟨r, mem, changed, rfl⟩
    rw [List.append_nil] at this
    exact unsaid this
  · intro some_
    obtain ⟨n, hn⟩ := List.exists_mem_of_ne_nil _ some_
    obtain ⟨r, mem, changed, rfl⟩ := (among n).mp (List.mem_append_right _ hn)
    exact ⟨r, mem, changed, fun said_ => List.disjoint_of_nodup_append distinct said_ hn⟩

/-- Settles O48: the page, the flags cleared by it, and the attention that is left. -/
theorem changedListed : Obligations.ChangedListed := by
  intro s said others numbered lead w all more most
  have page : w.changedPage = said := State.changedPage_eq all more most
  have left : w.clearChanged.bookAttention = true ↔ others ≠ [] :=
    State.clearChanged_attention (State.asked_numbers_nodup numbered) all page
  refine ⟨w.clearChanged, ?_, rfl, ?_, left⟩
  · have flag : w.clearChanged.bookAttention = decide (others ≠ []) := by
      rw [Bool.eq_iff_iff, left, decide_eq_true_iff]
    rw [exec_listChanged, State.changedAnswer, if_neg (by rw [State.asked_role]; simpa using lead), State.answer_accept]
    rw [show s.asked.changedPage = said from page, show s.asked.clearChanged.bookAttention = _ from flag]
  · unfold State.clearChanged
    simp only [page, List.contains_iff_mem]

end Sys2Proof.Machine
end

section
/-!
PROOFS. Writes of the store (R169, R181, R186, R187): the requests that start one, and its completion.
-/

namespace Sys2Proof.Machine

open Sys2Proof

/-! ### Blocks of the store -/

/-- A copy that takes one block shows that block's items from the other (R186). -/
theorem Items.takeBlock_get (x : Items) (b : BlockId) (src : Items) (i : Item) :
    (x.takeBlock b src).get i = if i.block = b then src.get i else x.get i := by
  cases i <;> cases b <;> rfl

theorem Seven.put_at {α : Type} (x : Seven α) (b d : BlockId) (v : α) :
    (x.put b v).at d = if d = b then v else x.at d := by
  cases b <;> cases d <;> rfl

theorem BlockId.ofCode?_code (b : BlockId) : BlockId.ofCode? b.code = some b := by
  cases b <;> rfl

theorem BlockId.ofCode?_none {n : Nat} (h : 6 < n) : BlockId.ofCode? n = none := by
  obtain ⟨m, rfl⟩ : ∃ m, n = m + 7 := ⟨n - 7, by omega⟩
  rfl

/-! ### The requests -/

theorem State.isProtected_iff (s : State) :
    s.isProtected = true ↔ s.settings.protect = true ∧ s.lines.key ≠ some true := by
  simp [State.isProtected, State.keyOn]

theorem State.asked_isProtected (s : State) : s.asked.isProtected = s.isProtected := by
  simp [State.isProtected, State.keyOn]

/-- How STORE_SETTINGS is answered (R186). -/
def State.storeAnswer (s : State) (block : Nat) : Answer :=
  if s.storeBusy then .refuse .storeBusy
  else if s.isProtected then .refuse .protected_
  else
    match BlockId.ofCode? block with
    | none => .refuse .badValue
    | some b => if s.items.blockHasValues b then State.ok (s.startBlockWrite b) else .refuse .unconfigured

theorem exec_storeSettings (s : State) (n : Nat) :
    exec (.storeSettings .maintenance n) s = .next (s.asked.answer (s.asked.storeAnswer n)) := by
  unfold exec execStoreSettings
  exact s.request_allowed _ _ (fun t => t.storeAnswer n) rfl

/-- How SET_PROTECT is answered (R187). -/
def State.protectAnswer (s : State) (value : Nat) : Answer :=
  if s.storeBusy then .refuse .storeBusy
  else if 1 < value then .refuse .badValue
  else if value = 0 && s.isProtected then .refuse .protected_
  else if s.settings.protect == (value == 1) then State.ok s
  else State.ok (s.startProtectWrite (value == 1))

theorem exec_setProtect (s : State) (n : Nat) :
    exec (.setProtect .maintenance n) s = .next (s.asked.answer (s.asked.protectAnswer n)) := by
  unfold exec execSetProtect
  exact s.request_allowed _ _ (fun t => t.protectAnswer n) rfl

/-- An accepted change of the settings alone: what is kept once it has settled and been answered. -/
theorem State.settings_answer_kept (s : State) (x : Settings) :
    (({ s.asked with settings := x } : State).settle.respond .ok []).kept = { s.keptAnswer .ok [] with settings := x } := by
  have changed : ({ s.asked with settings := x } : State).kept = { s.asked.kept with settings := x } := rfl
  have port : ({ s.asked with settings := x } : State).port = s.port := s.asked_port
  rw [State.settle_respond_keptAnswer [] port, changed, State.asked_kept]
  rfl

/-! ### The completion of a write -/

theorem exec_storeWriteComplete (s : State) (ok : Bool) : exec (.storeWriteComplete ok) s =
    .next (match s.wake.settings.writing with
      | none => s.wake
      | some job => (s.wake.endWrite job ok).startWaitingStore).settle := rfl

/-- The settings once a write has ended and a store that waited for it has begun (R186). -/
def Settings.afterWrite (x : Settings) (job : WriteJob) (ok : Bool) : Settings :=
  let y : Settings :=
    if ok then { x.commit job with writing := none, lastOutcome := .done }
    else { x with writing := none, lastOutcome := .failed }
  { y with
      teachStoreWaiting := false
      writing := if y.teachStoreWaiting then some (.block .geometry y.working) else y.writing
      lastTarget := if y.teachStoreWaiting then some (.block .geometry) else y.lastTarget }

namespace Settings

theorem afterWrite_spec (x : Settings) (job : WriteJob) (ok : Bool) :
    (x.afterWrite job ok).working = x.working ∧ (x.afterWrite job ok).protect = x.protect ∧
      (x.afterWrite job ok).lastOutcome = (if ok then .done else .failed) ∧
      (x.afterWrite job ok).teachStoreWaiting = false ∧
      (x.afterWrite job ok).writing = (if x.teachStoreWaiting then some (.block .geometry x.working) else none) ∧
      (x.afterWrite job ok).lastTarget = (if x.teachStoreWaiting then some (.block .geometry) else x.lastTarget) := by
  cases ok
  · exact ⟨rfl, rfl, rfl, rfl, rfl, rfl⟩
  · cases job <;> exact ⟨rfl, rfl, rfl, rfl, rfl, rfl⟩

/-- A write that failed its verify keeps the old copy (R186). -/
theorem afterWrite_failed (x : Settings) (job : WriteJob) :
    (x.afterWrite job false).stored = x.stored ∧ (x.afterWrite job false).checks = x.checks ∧
      (x.afterWrite job false).rejected = x.rejected ∧ (x.afterWrite job false).storedProtect = x.storedProtect :=
  ⟨rfl, rfl, rfl, rfl⟩

/-- A write that passed its verify puts the copy and its check value into the store (R182, R186, R187). -/
theorem afterWrite_passed (x : Settings) (job : WriteJob) :
    (∀ v, job = .protect v → (x.afterWrite job true).storedProtect = v ∧ (x.afterWrite job true).protectLoads = true ∧
      (x.afterWrite job true).stored = x.stored) ∧
    ∀ b copy, job = .block b copy → (x.afterWrite job true).rejected.at b = false ∧
      (x.afterWrite job true).checks.at b = crc16 (copy.blockBytes b) ∧
      (∀ i, (x.afterWrite job true).stored.get i = if i.block = b then copy.get i else x.stored.get i) ∧
      ∀ d, d ≠ b → (x.afterWrite job true).checks.at d = x.checks.at d ∧
        (x.afterWrite job true).rejected.at d = x.rejected.at d := by
  refine ⟨fun v e => ?_, fun b copy e => ?_⟩
  · subst e
    exact ⟨rfl, beq_self_eq_true _, rfl⟩
  · subst e
    exact ⟨(Seven.put_at _ _ _ _).trans (if_pos rfl), (Seven.put_at _ _ _ _).trans (if_pos rfl),
      fun i => Items.takeBlock_get _ _ _ _,
      fun d ne => ⟨(Seven.put_at _ _ _ _).trans (if_neg ne), (Seven.put_at _ _ _ _).trans (if_neg ne)⟩⟩

end Settings

namespace State

/-- The settings once a write has ended (R186). -/
theorem endWrite_settings (s : State) (job : WriteJob) (ok : Bool) : (s.endWrite job ok).settings =
    if ok then { s.settings.commit job with writing := none, lastOutcome := .done }
    else { s.settings with writing := none, lastOutcome := .failed } := by
  cases ok
  · exact congrArg Kept.settings (State.raise_kept _ _)
  · rfl

theorem endWrite_kept (s : State) (job : WriteJob) (ok : Bool) :
    (s.endWrite job ok).kept = { s.kept with settings := (s.endWrite job ok).settings } := by
  cases ok
  · rw [endWrite_settings]
    exact State.raise_kept _ _
  · rfl

/-- The settings once a store that waited has started (R186). -/
theorem startWaitingStore_settings (s : State) : s.startWaitingStore.settings =
    { s.settings with
        teachStoreWaiting := false
        writing := if s.settings.teachStoreWaiting then some (.block .geometry s.settings.working) else s.settings.writing
        lastTarget := if s.settings.teachStoreWaiting then some (.block .geometry) else s.settings.lastTarget } := by
  unfold startWaitingStore
  cases h : s.settings.teachStoreWaiting
  · rw [if_neg Bool.false_ne_true, if_neg Bool.false_ne_true, if_neg Bool.false_ne_true, ← h]
  · rfl

theorem startWaitingStore_kept (s : State) :
    s.startWaitingStore.kept = { s.kept with settings := s.startWaitingStore.settings } := by
  unfold startWaitingStore
  split <;> rfl

theorem startWaitingStore_latched (s : State) (f : FaultId) : s.startWaitingStore.latched f = s.latched f := by
  unfold startWaitingStore
  split <;> rfl

/-- A write that failed its verify latches STORE_FAIL unless it is masked (R169, R186). -/
theorem endWrite_latched {s : State} (job : WriteJob) (mask : (s.fault .storeFail).mask = false) :
    (s.endWrite job false).latched .storeFail = true :=
  raise_latched _ _ mask

end State

theorem State.asked_storeBusy (s : State) : s.asked.storeBusy = true ↔ s.settings.writing ≠ none := by
  rw [State.storeBusy, State.asked_settings]
  exact Option.isSome_iff_ne_none

theorem State.asked_isProtected_iff (s : State) :
    s.asked.isProtected = true ↔ s.settings.protect = true ∧ s.lines.key ≠ some true := by
  rw [State.asked_isProtected, State.isProtected_iff]

theorem exec_storeSettings_block {s : State} (writing : s.settings.writing = none)
    (no : ¬(s.settings.protect = true ∧ s.lines.key ≠ some true)) (b : BlockId) :
    exec (.storeSettings .maintenance b.code) s = .next (s.asked.answer
      (if s.items.blockHasValues b then State.ok (s.asked.startBlockWrite b) else .refuse .unconfigured)) := by
  rw [exec_storeSettings, State.storeAnswer, if_neg (by rw [s.asked_storeBusy]; exact not_not.mpr writing),
    if_neg (mt s.asked_isProtected_iff.mp no), BlockId.ofCode?_code, State.asked_items]

/-- Settles O56: the refusals in their order, the write begun, and the store once a write has ended. -/
theorem storeWrites : Obligations.StoreWrites := by
  intro s w x shut
  have free (h : x.writing = none) : ¬w.storeBusy = true := by
    rw [s.asked_storeBusy]
    exact not_not.mpr h
  have shut_iff : w.isProtected = true ↔ shut := s.asked_isProtected_iff
  refine ⟨fun b => ?_, fun n high writing no => ?_, fun n small => ?_, fun writing ok => ?_, fun job ok writing => ?_⟩
  · intro c
    refine ⟨fun writing => ?_, fun writing locked => ?_, fun writing no none_ => ?_, fun writing no all => ?_⟩
    · rw [exec_storeSettings, State.storeAnswer, if_pos (s.asked_storeBusy.mpr writing), State.answer_refuse]
    · rw [exec_storeSettings, State.storeAnswer, if_neg (free writing), if_pos (shut_iff.mpr locked), State.answer_refuse]
    · obtain ⟨i, hi, absent⟩ := none_
      have missing : ¬s.items.blockHasValues b = true := by
        rw [Items.blockHasValues_iff]
        exact fun all => all i hi absent
      rw [exec_storeSettings_block writing no, if_neg missing, State.answer_refuse]
    · have start : w.startBlockWrite b = { w with
          settings := { x with writing := some (.block b s.items), lastTarget := some (.block b) } } := by
        rw [State.startBlockWrite, State.asked_settings]
        rfl
      have run := exec_storeSettings_block writing no b
      rw [if_pos ((Items.blockHasValues_iff _ _).mpr all), State.answer_ok] at run
      refine ⟨_, run, ?_⟩
      rw [show s.asked.startBlockWrite b = _ from start]
      exact s.settings_answer_kept _
  · have bad : BlockId.ofCode? n = none := BlockId.ofCode?_none high
    rw [exec_storeSettings, State.storeAnswer, if_neg (free writing), if_neg (mt shut_iff.mp no), bad]
    exact congrArg Host.Outcome.next (State.answer_refuse _ _)
  · intro c on
    have open_ (no : ¬(n = 0 ∧ shut)) : ¬(decide (n = 0) && w.isProtected) = true := by
      rw [Bool.and_eq_true, decide_eq_true_iff, shut_iff]
      exact no
    have protect : w.settings.protect = x.protect := by rw [State.asked_settings]
    have code : (n == 1) = on := rfl
    refine ⟨fun writing => ?_, fun writing zero locked => ?_, fun writing no => ?_⟩
    · rw [exec_setProtect, State.protectAnswer, if_pos (s.asked_storeBusy.mpr writing), State.answer_refuse]
    · rw [exec_setProtect, State.protectAnswer, if_neg (free writing), if_neg (Nat.not_lt.mpr small),
        if_pos (by simp [zero, ← shut_iff] at locked ⊢; exact locked), State.answer_refuse]
    · by_cases same : x.protect = on
      · have run : exec c s = .next (w.settle.respond .ok []) := by
          rw [exec_setProtect, State.protectAnswer, if_neg (free writing), if_neg (Nat.not_lt.mpr small),
            if_neg (open_ no), if_pos (by rw [protect, same, code, beq_self_eq_true]), State.answer_ok]
        refine ⟨_, run, ?_⟩
        rw [if_pos same]
        exact (s.settings_answer_kept w.settings).trans (by rw [State.asked_settings])
      · have run : exec c s = .next ((w.startProtectWrite on).settle.respond .ok []) := by
          rw [exec_setProtect, State.protectAnswer, if_neg (free writing), if_neg (Nat.not_lt.mpr small),
            if_neg (open_ no), if_neg (by rw [protect, code, beq_iff_eq]; exact same), code, State.answer_ok]
        refine ⟨_, run, ?_⟩
        rw [if_neg same, State.startProtectWrite, State.asked_settings]
        exact s.settings_answer_kept _
  · rw [exec_storeWriteComplete, State.wake_settings, show s.settings.writing = none from writing]
  · have run : exec (.storeWriteComplete ok) s = .next (s.wake.endWrite job ok).startWaitingStore.settle := by
      rw [exec_storeWriteComplete, State.wake_settings, show s.settings.writing = some job from writing]
    have settings : (s.wake.endWrite job ok).startWaitingStore.settle.settings = x.afterWrite job ok := by
      rw [State.settle_settings, State.startWaitingStore_settings, State.endWrite_settings, State.wake_settings]
      rfl
    have kept : ((s.wake.endWrite job ok).startWaitingStore.settle).kept =
        { s.kept with settings := x.afterWrite job ok } := by
      rw [← settings, State.settle_settings, State.settle_kept, State.startWaitingStore_kept, State.endWrite_kept,
        State.wake_kept]
    have latched (failed : ok = false) (mask : (s.fault .storeFail).mask = false) :
        (s.wake.endWrite job ok).startWaitingStore.settle.latched .storeFail = true := by
      refine (State.settle_haltStays _).latched _ ?_
      rw [State.startWaitingStore_latched, failed]
      exact State.endWrite_latched job ((s.wake_mask _).trans mask)
    refine ⟨_, run, ?_⟩
    generalize (s.wake.endWrite job ok).startWaitingStore.settle = t at settings kept latched
    obtain ⟨working, protect, outcome, waits, begun, target⟩ := x.afterWrite_spec job ok
    rw [State.items, settings, kept]
    refine ⟨rfl, working, protect, outcome, waits, begun, target, fun failed => ?_, fun passed => ?_⟩
    · obtain ⟨stored, checks, rejected, flag⟩ := x.afterWrite_failed job
      subst failed
      exact ⟨stored, checks, rejected, flag, latched rfl⟩
    · subst passed
      exact x.afterWrite_passed job

end Sys2Proof.Machine
end

section
/-!
PROOFS. What a receive brings, the lapse of freshness, the start-up wait and the halt tone (R151 to R153, R159, R160, R162, R163).
-/

namespace Sys2Proof.Machine

open Sys2Proof

/-! ### The bytes of a frame (R152) -/

/-- The value of the two bytes of a CRC, high byte first. -/
def crcValue (bs : List Byte) : BitVec 16 := bs.foldl (fun n b => n * 256 + b.setWidth 16) 0

theorem crcValue_pair (c1 c0 : Byte) : (crcValue [c1, c0]).toNat = c1.toNat * 256 + c0.toNat := by
  have h1 := c1.isLt
  have h0 := c0.isLt
  simp [crcValue]
  omega

theorem be16_eq_iff {n : Nat} (h : n < 65536) (c1 c0 : Byte) : be16 n = [c1, c0] ↔ n = c1.toNat * 256 + c0.toNat := by
  have h1 := c1.isLt
  have h0 := c0.isLt
  simp only [be16, List.cons.injEq, and_true, ← BitVec.toNat_inj, BitVec.toNat_ofInt]
  omega

/-- Two bytes are a CRC as it is sent exactly where they are worth it. -/
theorem crcBytes_eq_iff (bs : List Byte) (c1 c0 : Byte) : crcBytes bs = [c1, c0] ↔ crc16 bs = crcValue [c1, c0] := by
  rw [← BitVec.toNat_inj, crcValue_pair]
  exact be16_eq_iff (crc16 bs).isLt c1 c0

/-- What follows the first start delimiter of a receive (R152). -/
theorem afterDelimiter_of_first {pre rest : List Byte} (first : (0xA7 : Byte) ∉ pre) :
    afterDelimiter (pre ++ 0xA7 :: rest) = rest := by
  have skip : ∀ b ∈ pre, (b != delimiter) = true := fun b hb => by
    rw [bne_iff_ne]
    rintro rfl
    exact first hb
  rw [afterDelimiter, List.dropWhile_append_of_pos skip, List.dropWhile_cons_of_neg (by simp [delimiter]), List.drop_one,
    List.tail_cons]

theorem afterDelimiter_of_none {bs : List Byte} (none_ : (0xA7 : Byte) ∉ bs) : afterDelimiter bs = [] := by
  have skip : ∀ b ∈ bs, (b != delimiter) = true := fun b hb => by
    rw [bne_iff_ne]
    rintro rfl
    exact none_ hb
  rw [afterDelimiter, List.dropWhile_eq_nil_iff.mpr skip, List.drop_nil]

/-- The bytes of a whole frame, its CRC aside. -/
def frameHead (kind sender i1 i0 : Byte) (body : List Byte) : List Byte :=
  [kind, sender, i1, i0, BitVec.ofNat 8 body.length] ++ body

/-- The bytes after a start delimiter yield a frame exactly where they are a whole one with a matching CRC (R152). -/
theorem Frame.ofBytes?_eq_some_iff (bs : List Byte) (f : Frame) : Frame.ofBytes? bs = some f ↔
    ∃ kind sender i1 i0 body c1 c0, bs = frameHead kind sender i1 i0 body ++ [c1, c0] ∧ body.length ≤ 48 ∧
      crc16 (frameHead kind sender i1 i0 body) = crcValue [c1, c0] ∧
      f = { kind := kind.toNat, sender := sender.toNat, bridge := i1.toNat * 256 + i0.toNat, body := body } := by
  constructor
  · intro h
    unfold Frame.ofBytes? at h
    split at h
    next k r i1 i0 n rest =>
      dsimp only at h
      split at h
      next good =>
        simp only [Bool.and_eq_true, decide_eq_true_iff, beq_iff_eq] at good
        obtain ⟨⟨small, whole⟩, crc⟩ := good
        have two : (rest.drop n.toNat).length = 2 := by rw [List.length_drop, whole]; omega
        obtain ⟨c1, c0, tail⟩ := List.length_eq_two.mp two
        have len : (rest.take n.toNat).length = n.toNat := by rw [List.length_take, whole]; omega
        have head : (k :: r :: i1 :: i0 :: n :: rest).take (5 + n.toNat) = frameHead k r i1 i0 (rest.take n.toNat) := by
          rw [frameHead, len, BitVec.ofNat_toNat, BitVec.setWidth_eq, Nat.add_comm 5]
          rfl
        rw [head, tail, crcBytes_eq_iff] at crc
        refine ⟨k, r, i1, i0, rest.take n.toNat, c1, c0, ?_, len.symm ▸ small, crc, ?_⟩
        · rw [← head, Nat.add_comm 5, ← tail]
          show k :: r :: i1 :: i0 :: n :: rest = (k :: r :: i1 :: i0 :: n :: (rest.take n.toNat)) ++ rest.drop n.toNat
          rw [List.cons_append, List.cons_append, List.cons_append, List.cons_append, List.cons_append, List.take_append_drop]
        · rw [← Option.some.inj h]
          simp [beNat]
      next => cases h
    next => cases h
  · rintro ⟨kind, sender, i1, i0, body, c1, c0, rfl, small, crc, rfl⟩
    have len : (BitVec.ofNat 8 body.length).toNat = body.length := by
      rw [BitVec.toNat_ofNat]
      omega
    have head : (kind :: sender :: i1 :: i0 :: BitVec.ofNat 8 body.length :: (body ++ [c1, c0])).take (5 + body.length) =
        frameHead kind sender i1 i0 body := by
      rw [Nat.add_comm 5]
      show kind :: sender :: i1 :: i0 :: BitVec.ofNat 8 body.length :: (body ++ [c1, c0]).take body.length = _
      rw [List.take_left]
      rfl
    show Frame.ofBytes? (kind :: sender :: i1 :: i0 :: BitVec.ofNat 8 body.length :: (body ++ [c1, c0])) = _
    unfold Frame.ofBytes?
    dsimp only
    rw [len, head, List.drop_left, List.take_left, if_pos]
    · simp [beNat]
    · simp only [Bool.and_eq_true, decide_eq_true_iff, beq_iff_eq, crcBytes_eq_iff]
      exact ⟨⟨small, by simp⟩, crc⟩

/-- What a whole frame is long. -/
theorem Frame.length_of_ofBytes? {bs : List Byte} {f : Frame} (h : Frame.ofBytes? bs = some f) :
    bs.length = f.body.length + 7 ∧ f.body.length ≤ 48 ∧ (∃ n, bs[4]? = some n ∧ bs.length = n.toNat + 7) ∧
      crc16 (bs.take (bs.length - 2)) = crcValue (bs.drop (bs.length - 2)) := by
  obtain ⟨kind, sender, i1, i0, body, c1, c0, rfl, small, crc, rfl⟩ := (Frame.ofBytes?_eq_some_iff bs f).mp h
  have len : (frameHead kind sender i1 i0 body).length = body.length + 5 := by simp [frameHead]
  have whole : (frameHead kind sender i1 i0 body ++ [c1, c0]).length = body.length + 7 := by
    rw [List.length_append, len]
    rfl
  refine ⟨whole, small, ⟨BitVec.ofNat 8 body.length, rfl, ?_⟩, ?_⟩
  · rw [whole, BitVec.toNat_ofNat]
    omega
  · have cut : (frameHead kind sender i1 i0 body ++ [c1, c0]).length - 2 = (frameHead kind sender i1 i0 body).length := by
      rw [whole, len]
      rfl
    rw [cut, List.take_left, List.drop_left]
    exact crc

/-! ### What a receive brings (R153) -/

theorem PartnerView.ofBody?_length {body : List Byte} (h : body.length ≠ 14) : PartnerView.ofBody? body = none := by
  unfold PartnerView.ofBody?
  split
  · exact absurd rfl h
  · rfl

namespace State

/-- What the receiver took from the line is sorted (R153). -/
theorem takeFrame_discarded {s : State} {bs : List Byte} (h : s.sortFrame bs = .discarded) : s.takeFrame bs = s := by
  unfold takeFrame
  rw [h]

theorem sortFrame_none {s : State} {bs : List Byte} (h : Frame.ofBytes? (afterDelimiter bs) = none) :
    s.sortFrame bs = .discarded := by
  unfold sortFrame
  rw [h]

/-- A frame is of this bridge and from its other part (R153). -/
def Ours (s : State) (f : Frame) : Prop :=
  (f.bridge : Int) = s.items.link.bridgeId ∧ f.sender = senderCode (if s.role = .lead then .follow else .lead)

theorem sortFrame_some {s : State} {bs : List Byte} {f : Frame} (h : Frame.ofBytes? (afterDelimiter bs) = some f) :
    (¬s.Ours f → s.sortFrame bs = .mismatched) ∧
      (s.Ours f → f.kind ≠ 1 ∨ f.body.length ≠ 14 → s.sortFrame bs = .discarded) := by
  unfold sortFrame Ours
  rw [h]
  dsimp only
  refine ⟨fun other => if_pos ?_, fun own wrong => ?_⟩
  · rw [Bool.or_eq_true, decide_eq_true_iff, decide_eq_true_iff]
    exact not_and_or.mp other
  · rw [if_neg (by simpa using own)]
    split
    next view kind body =>
      rcases wrong with k | b
      · exact absurd kind k
      · rw [PartnerView.ofBody?_length b] at body
        cases body
    next => rfl

end State

/-! ### The events -/

theorem exec_receiveStart (s : State) : exec .receiveStart s =
    .next (if s.wake.twin && (s.wake.link.buffer == .quiet || s.wake.link.buffer == .receiving) then
        s.wake.modLink fun l => { l with buffer := .receiving, toneHeard := false }
      else s.wake).settle := rfl

theorem exec_receiveEnd (s : State) (bytes : List Byte) (still : Bool) : exec (.receiveEnd bytes still) s =
    .next (if s.wake.twin && s.wake.link.buffer == .receiving then
        (s.wake.modLink fun l =>
          { l with buffer := if still then .receiving else .quiet, toneHeard := false }).takeFrame bytes
      else s.wake).settle := rfl

theorem exec_freshnessExpiry (s : State) : exec .freshnessExpiry s =
    .next (if s.wake.twin && s.wake.link.freshness.isRunning then
        let u := s.wake.modLink fun l => { l with freshness := .stopped, paired := false }
        if s.wake.motion.brakeRelease && s.wake.link.startup == .expired then u.raise .partnerStaleMoving else u
      else s.wake).settle := rfl

theorem exec_startupWaitEnd (s : State) : exec .startupWaitEnd s =
    .next (if s.wake.twin && s.wake.link.startup.isRunning then
        s.wake.modLink fun l => { l with startup := .expired } else s.wake).settle := rfl

theorem exec_haltToneRecognised (s : State) : exec .haltToneRecognised s =
    .next (if s.wake.twin && s.wake.link.buffer == .receiving && !s.wake.link.toneHeard then
        let u := s.wake.modLink fun l => { l with toneHeard := true }
        if u.freshView.any (·.haltActive) then u else u.raise .partnerHalt
      else s.wake).settle := rfl

namespace State

/-- A lasting condition whose cause stands when an event has made its own change is latched once it has settled (R168). -/
theorem settle_latched_of_cause {s : State} {f : FaultId} (right : s.FaultsRight) (mask : (s.fault f).mask = false)
    (cause : s.cause f = true) : s.settle.latched f = true :=
  (rounds_haltStays 7 s.round).latched f (round_latched_of_cause right mask cause)

theorem wake_twin {s : State} (h : s.role ≠ .sole) : s.wake.twin = true := by simpa [twin] using h

/-- The four timers of the link that only its own events change. -/
theorem wake_linkTimers (s : State) :
    s.wake.link.freshness = s.link.freshness ∧ s.wake.link.reply = s.link.reply ∧
      s.wake.link.startup = s.link.startup ∧ s.wake.link.period = s.link.period := by
  have timers : (s.wake.link.freshness, s.wake.link.reply, s.wake.link.startup, s.wake.link.period) =
      (s.link.freshness, s.link.reply, s.link.startup, s.link.period) := congrArg Kept.timers s.wake_kept
  simpa only [Prod.mk.injEq] using timers

end State

/-- A receive in progress ends (R153): how what it brought is sorted. -/
theorem receiveEnd_of_receiving {s : State} (twin : s.role ≠ .sole) (receiving : s.wake.link.buffer = .receiving)
    (bytes : List Byte) (still : Bool) :
    let u : State := { s.wake with link := { s.wake.link with
      buffer := if still then .receiving else .quiet, toneHeard := false } }
    (s.wake.sortFrame bytes = .discarded → exec (.receiveEnd bytes still) s = .next u.settle) ∧
      (s.wake.sortFrame bytes = .mismatched → exec (.receiveEnd bytes still) s = .next
        ({ u with link := { u.link with mismatch := min 3 (s.wake.link.mismatch + 1) } }).settle) := by
  intro u
  have run : exec (.receiveEnd bytes still) s = .next (u.takeFrame bytes).settle := by
    rw [exec_receiveEnd, if_pos (by rw [State.wake_twin twin, receiving]; rfl)]
    rfl
  have sorted : u.sortFrame bytes = s.wake.sortFrame bytes := rfl
  refine ⟨fun h => ?_, fun h => ?_⟩
  · rw [run, State.takeFrame_discarded (sorted.trans h)]
  · rw [run, State.takeFrame, sorted, h]
    rfl

/-- Settles O59, event by event. -/
theorem linkEvents : Obligations.LinkEvents := by
  intro s twin w l ends crcOf
  obtain ⟨freshness, reply, startup, period⟩ := s.wake_linkTimers
  have told_iff : ((s.wake.modLink fun l => { l with toneHeard := true }).freshView.any (·.haltActive)) = true ↔
      ∃ v, s.link.paired = true ∧ s.link.view = some v ∧ v.haltActive = true := by
    have fresh : (s.wake.modLink fun l => { l with toneHeard := true }).freshView =
        if s.link.paired then s.link.view else none := by
      rw [← s.wake_paired, ← s.wake_view]
      exact congrArg (fun b => if b && s.wake.link.paired then s.wake.link.view else none) (State.wake_twin twin)
    rw [fresh]
    split
    next yes => simp [yes, Option.any_eq_true]
    next no => simp [no]
  have hear (receiving : l.buffer = .receiving) (unheard : l.toneHeard = false) : exec .haltToneRecognised s =
      .next (let u := s.wake.modLink fun l => { l with toneHeard := true }
        if u.freshView.any (·.haltActive) then u else u.raise .partnerHalt).settle := by
    rw [exec_haltToneRecognised, if_pos]
    rw [State.wake_twin twin, show s.wake.link.buffer = _ from receiving, show s.wake.link.toneHeard = _ from unheard]
    rfl
  refine ⟨fun open_ => ?_, fun bytes still receiving => ?_, fun ms runs => ?_, fun ms runs => ?_, fun deaf => ?_,
    fun receiving unheard => ⟨fun known => ?_, fun unknown => ?_⟩⟩
  · rw [exec_receiveStart, if_pos]
    · rfl
    · rw [State.wake_twin twin]
      simpa using open_
  · intro discarded
    obtain ⟨gone, wrong⟩ := receiveEnd_of_receiving twin receiving bytes still
    refine ⟨fun none_ => ?_, fun pre rest shape first => ?_⟩
    · refine gone (State.sortFrame_none ?_)
      rw [afterDelimiter_of_none none_]
      rfl
    · have after : afterDelimiter bytes = rest := by rw [shape, afterDelimiter_of_first first]
      have none_ (h : ∀ f, Frame.ofBytes? rest ≠ some f) : discarded :=
        gone (State.sortFrame_none (by rw [after]; exact Option.eq_none_iff_forall_ne_some.mpr h))
      refine ⟨fun length => none_ fun f whole => ?_, fun length => none_ fun f whole => ?_,
        fun crc => none_ fun f whole => ?_, fun kind sender i1 i0 body c1 c0 form small crc => ?_⟩
      · obtain ⟨len, most, -, -⟩ := Frame.length_of_ofBytes? whole
        omega
      · obtain ⟨-, -, ⟨n, fifth, len⟩, -⟩ := Frame.length_of_ofBytes? whole
        exact length n fifth len
      · obtain ⟨-, -, -, good⟩ := Frame.length_of_ofBytes? whole
        exact crc good
      · intro ours
        have cut : rest.take (rest.length - 2) = frameHead kind sender i1 i0 body := by
          have len : rest.length - 2 = (frameHead kind sender i1 i0 body).length := by
            rw [form]
            simp [frameHead]
          rw [len, form]
          exact List.take_left
        have whole : Frame.ofBytes? (afterDelimiter bytes) =
            some { kind := kind.toNat, sender := sender.toNat, bridge := i1.toNat * 256 + i0.toNat, body := body } := by
          rw [after, Frame.ofBytes?_eq_some_iff]
          exact ⟨kind, sender, i1, i0, body, c1, c0, form, small, by rw [← cut]; exact crc, rfl⟩
        obtain ⟨mismatched, other⟩ := State.sortFrame_some whole (s := w)
        have ours_iff : w.Ours { kind := kind.toNat, sender := sender.toNat, bridge := i1.toNat * 256 + i0.toNat, body := body } ↔
            ours := by
          have code : senderCode (if w.role = .lead then .follow else .lead) = if s.role = .lead then 2 else 1 := by
            rw [State.wake_role]
            split <;> rfl
          unfold State.Ours
          rw [code, State.wake_items]
          push_cast
          exact Iff.rfl
        refine ⟨fun no => wrong (mismatched (mt ours_iff.mp no)), fun own odd => gone (other (ours_iff.mpr own) ?_)⟩
        refine odd.imp (fun k h => k ?_) id
        exact BitVec.eq_of_toNat_eq h
  · have running : w.link.freshness.isRunning = true := congrArg Timer.isRunning runs
    refine ⟨_, exec_freshnessExpiry s, ?_, fun brake started mask => ?_⟩
    · rw [if_pos (by rw [State.wake_twin twin, running]; rfl), State.settle_kept]
      dsimp only
      have lapsed : (s.wake.modLink fun l => { l with freshness := .stopped, paired := false }).kept =
          { s.kept with paired := false, timers := (.stopped, s.link.reply, s.link.startup, s.link.period) } := by
        rw [← s.wake_kept]
        rw [← reply, ← startup, ← period]
        rfl
      split
      · rw [State.raise_kept, lapsed]
      · exact lapsed
    · rw [if_pos (by rw [State.wake_twin twin, running]; rfl)]
      dsimp only
      rw [if_pos (by rw [show s.wake.motion.brakeRelease = true from brake, startup, started]; rfl)]
      have unmasked : ((s.wake.modLink fun l => { l with freshness := .stopped, paired := false }).fault
          .partnerStaleMoving).mask = false := (s.wake_mask _).trans mask
      exact ⟨State.raise_settle_latched _ _ unmasked, State.raise_settle_halts _ _ unmasked rfl⟩
  · have running : s.wake.link.startup.isRunning = true := by rw [startup, runs]; rfl
    refine ⟨_, exec_startupWaitEnd s, ?_, fun right away mask => ?_⟩
    · rw [if_pos (by rw [State.wake_twin twin, running]; rfl), State.settle_kept, ← s.wake_kept]
      rw [← freshness, ← reply, ← period]
      rfl
    · rw [if_pos (by rw [State.wake_twin twin, running]; rfl)]
      refine State.settle_latched_of_cause ?_ ((s.wake_mask _).trans mask) ?_
      · exact (State.faultsRight_promise.wake right).congr rfl
      · have late : s.wake.link.paired = false := s.wake_paired.trans away
        show (s.wake.twin && _ && !s.wake.link.paired) = true
        rw [State.wake_twin twin, late]
        rfl
  · rw [exec_haltToneRecognised, if_neg]
    rw [Bool.and_eq_true, Bool.and_eq_true]
    rintro ⟨⟨-, buffer⟩, heard⟩
    rcases deaf with other | toned
    · exact other (by simpa using buffer)
    · rw [show s.wake.link.toneHeard = true from toned] at heard
      cases heard
  · rw [hear receiving unheard]
    dsimp only
    rw [if_pos (told_iff.mpr known)]
    rfl
  · rw [hear receiving unheard]
    dsimp only
    rw [if_neg (mt told_iff.mp unknown)]
    have unmasked (mask : (s.fault .partnerHalt).mask = false) :
        ((s.wake.modLink fun l => { l with toneHeard := true }).fault .partnerHalt).mask = false :=
      (s.wake_mask _).trans mask
    refine ⟨_, rfl, ?_, fun mask =>
      ⟨State.raise_settle_latched _ _ (unmasked mask), State.raise_settle_halts _ _ (unmasked mask) rfl⟩⟩
    rw [State.settle_kept, State.raise_kept, ← s.wake_kept]
    rfl

end Sys2Proof.Machine
end

section
/-!
PROOFS. A STATUS frame as it is sent is taken in as it was formed (R152 to R154, R157, R161, R162), and a FOLLOW's mirror keeps
the phase, the target and the run direction it has taken (R148).
-/

namespace Sys2Proof.Machine

open Sys2Proof

/-! ### Numbers and flags in bytes -/

theorem beNat_be16 (v : Int) : (beNat (be16 v) : Int) = v % 65536 := by
  have pair (a b : Byte) : beNat [a, b] = a.toNat * 256 + b.toNat := by simp [beNat]
  rw [be16, pair, BitVec.toNat_ofInt, BitVec.toNat_ofInt]
  omega

theorem beInt16_be16 {v : Int} (low : -32768 ≤ v) (high : v ≤ 32767) : beInt16 (be16 v) = v := by
  have value := beNat_be16 v
  unfold beInt16
  split <;> omega

theorem beNat_be16_of_fits {n : Nat} (h : n ≤ 65535) : beNat (be16 n) = n := by
  have value := beNat_be16 n
  omega

theorem u8_toNat {n : Nat} (h : n ≤ 255) : (BitVec.ofNat 8 n).toNat = n := by
  rw [BitVec.toNat_ofNat]
  omega

theorem flagsByte_lt (bits : List Bool) : flagsByte bits < 2 ^ bits.length := by
  induction bits with
  | nil => exact Nat.one_pos
  | cons b bits ih =>
    have step : flagsByte (b :: bits) = (if b then 1 else 0) + 2 * flagsByte bits := rfl
    rw [step, List.length_cons, pow_succ]
    split <;> omega

theorem flagsByte_testBit (bits : List Bool) (i : Nat) : (flagsByte bits).testBit i = bits.getD i false := by
  induction bits generalizing i with
  | nil => simp [flagsByte]
  | cons b bits ih =>
    have step : flagsByte (b :: bits) = (if b then 1 else 0) + 2 * flagsByte bits := rfl
    cases i with
    | zero =>
      rw [Nat.testBit_zero, step, List.getD_cons_zero]
      cases b <;> simp
    | succ i =>
      rw [Nat.testBit_succ, step, List.getD_cons_succ, ← ih i]
      congr 1
      split <;> omega

/-- A bit of a byte of eight flags. -/
theorem bitOf_flags {bits : List Bool} (h : bits.length = 8) (i : Nat) :
    bitOf (BitVec.ofNat 8 (flagsByte bits)) i = bits.getD i false := by
  have small := flagsByte_lt bits
  rw [h] at small
  rw [bitOf, u8_toNat (by omega), flagsByte_testBit]

/-- An angle that may be absent reads back as it was written. -/
theorem angleOf_optAngle {t : Option Int} (h : ∀ a, t = some a → -32768 < a ∧ a ≤ 32767) :
    angleOf (BitVec.ofInt 8 (t.getD 0x8000 / 256)) (BitVec.ofInt 8 (t.getD 0x8000)) = t := by
  show (if beNat (be16 (t.getD 0x8000)) = 0x8000 then none else some (beInt16 (be16 (t.getD 0x8000)))) = t
  have value := beNat_be16 (t.getD 0x8000)
  cases t with
  | none =>
    rw [Option.getD_none] at value ⊢
    exact if_pos (by omega)
  | some a =>
    obtain ⟨low, high⟩ := h a rfl
    rw [Option.getD_some] at value ⊢
    rw [if_neg (by omega), beInt16_be16 (le_of_lt low) high]

/-! ### The body of a STATUS frame -/

/-- The fields of a view are in the ranges of the STATUS body (R154). -/
structure PartnerView.Fits (v : PartnerView) : Prop where
  angle : -32768 ≤ v.angle ∧ v.angle ≤ 32767
  speed : -32768 ≤ v.speed ∧ v.speed ≤ 32767
  codes : v.motion ≤ 255 ∧ v.closure ≤ 255 ∧ v.phase ≤ 255 ∧ v.seat ≤ 255
  run : v.runDir ≤ 3
  target : ∀ a, v.target = some a → -32768 < a ∧ a ≤ 32767
  number : v.number ≤ 65535

/-- The flags of a STATUS body, the lowest bit first (section 11.5). -/
def PartnerView.flagBits (v : PartnerView) : List Bool :=
  [v.creep, v.closed, v.withdrawn, v.holding, v.seated, v.locked, v.haltActive, v.haltCause]

theorem PartnerView.ofBody?_body {v : PartnerView} (h : v.Fits) : PartnerView.ofBody? v.body = some v := by
  obtain ⟨angle, speed, ⟨motion, closure, phase, seat⟩, run, target, number⟩ := h
  have flags (i : Nat) := bitOf_flags (bits := v.flagBits) rfl i
  have low : v.runDir + (if v.holdActive then 128 else 0) ≤ 255 := by split <;> omega
  have dir : (BitVec.ofNat 8 (v.runDir + if v.holdActive then 128 else 0)).toNat % 4 = v.runDir := by
    rw [u8_toNat low]
    split <;> omega
  have hold : bitOf (BitVec.ofNat 8 (v.runDir + if v.holdActive then 128 else 0)) 7 = v.holdActive := by
    rw [bitOf, u8_toNat low, Nat.testBit_eq_decide_div_mod_eq]
    cases v.holdActive <;> simp <;> omega
  have read : PartnerView.ofBody? v.body = some
      { angle := beInt16 (be16 v.angle), speed := beInt16 (be16 v.speed), motion := (BitVec.ofNat 8 v.motion).toNat,
        closure := (BitVec.ofNat 8 v.closure).toNat, phase := (BitVec.ofNat 8 v.phase).toNat,
        creep := bitOf (BitVec.ofNat 8 (flagsByte v.flagBits)) 0,
        closed := bitOf (BitVec.ofNat 8 (flagsByte v.flagBits)) 1,
        withdrawn := bitOf (BitVec.ofNat 8 (flagsByte v.flagBits)) 2,
        holding := bitOf (BitVec.ofNat 8 (flagsByte v.flagBits)) 3,
        seated := bitOf (BitVec.ofNat 8 (flagsByte v.flagBits)) 4,
        locked := bitOf (BitVec.ofNat 8 (flagsByte v.flagBits)) 5,
        haltActive := bitOf (BitVec.ofNat 8 (flagsByte v.flagBits)) 6,
        haltCause := bitOf (BitVec.ofNat 8 (flagsByte v.flagBits)) 7,
        seat := (BitVec.ofNat 8 v.seat).toNat, runDir := (BitVec.ofNat 8 (v.runDir + if v.holdActive then 128 else 0)).toNat % 4,
        holdActive := bitOf (BitVec.ofNat 8 (v.runDir + if v.holdActive then 128 else 0)) 7,
        target := angleOf (BitVec.ofInt 8 (v.target.getD 0x8000 / 256)) (BitVec.ofInt 8 (v.target.getD 0x8000)),
        number := beNat (be16 v.number) } := rfl
  rw [read]
  simp only [flags, dir, hold, beInt16_be16 angle.1 angle.2, beInt16_be16 speed.1 speed.2, u8_toNat motion, u8_toNat closure,
    u8_toNat phase, u8_toNat seat, angleOf_optAngle target, beNat_be16_of_fits number]
  rfl

/-! ### The frame as sent, and what is left of it at the receiver -/

theorem PartnerView.body_length (v : PartnerView) : v.body.length = 14 := rfl

/-- The frame of a part: its preamble, its start delimiter, its header and body, and its CRC (R152). -/
theorem State.statusFrame_eq (p : State) : p.statusFrame =
    preamble ++ 0xA7 :: (frameHead 1 (BitVec.ofNat 8 (senderCode p.role)) (BitVec.ofInt 8 (p.items.link.bridgeId / 256))
        (BitVec.ofInt 8 p.items.link.bridgeId) p.statusView.body ++
      be16 (crc16 (frameHead 1 (BitVec.ofNat 8 (senderCode p.role)) (BitVec.ofInt 8 (p.items.link.bridgeId / 256))
        (BitVec.ofInt 8 p.items.link.bridgeId) p.statusView.body)).toNat) := by
  unfold State.statusFrame
  dsimp only
  rw [List.append_assoc, List.append_assoc]
  rfl

theorem preamble_cases : preamble = [0xAA, 0xAA] ∨ preamble = [0x55, 0x55] := by
  unfold preamble
  split
  · exact .inl rfl
  · exact .inr rfl

theorem preamble_length : preamble.length = 2 := by
  rcases preamble_cases with h | h <;> rw [h] <;> rfl

theorem delimiter_not_preamble (lost : Nat) : (0xA7 : Byte) ∉ preamble.drop lost := by
  intro h
  have mem := List.mem_of_mem_drop h
  rcases preamble_cases with e | e <;> rw [e] at mem <;> revert mem <;> decide

/-- The frame of a part as its partner takes it in: whole, whatever is lost of the preamble (R152, R155). -/
theorem State.statusFrame_received (p : State) {lost : Nat} (most : lost ≤ 2)
    (low : 0 ≤ p.items.link.bridgeId) (high : p.items.link.bridgeId ≤ 65535) :
    ∃ f, Frame.ofBytes? (afterDelimiter (p.statusFrame.drop lost)) = some f ∧ f.kind = 1 ∧
      f.sender = senderCode p.role ∧ (f.bridge : Int) = p.items.link.bridgeId ∧ f.body = p.statusView.body := by
  rw [State.statusFrame_eq, List.drop_append_of_le_length (by rw [preamble_length]; exact most),
    afterDelimiter_of_first (delimiter_not_preamble lost)]
  have sender : (BitVec.ofNat 8 (senderCode p.role)).toNat = senderCode p.role := by
    cases p.role <;> rfl
  have bridge := beNat_be16 p.items.link.bridgeId
  have pair : beNat (be16 p.items.link.bridgeId) = (BitVec.ofInt 8 (p.items.link.bridgeId / 256)).toNat * 256 +
      (BitVec.ofInt 8 p.items.link.bridgeId).toNat := by simp [beNat, be16]
  rw [pair] at bridge
  refine ⟨_, (Frame.ofBytes?_eq_some_iff _ _).mpr
    ⟨1, _, _, _, p.statusView.body, _, _, rfl, by rw [PartnerView.body_length]; omega, ?_, rfl⟩, rfl, sender, ?_, rfl⟩
  · rw [← crcBytes_eq_iff]
    rfl
  · rw [bridge]
    omega

/-! ### The fields of a sender (R154) -/

theorem State.statusView_fits {p : State} (angle : -32768 ≤ p.angle ∧ p.angle ≤ 32767)
    (target : ∀ t, p.opening.target = some t → -32768 < t ∧ t ≤ 32767) (number : p.opening.number ≤ 65535) :
    p.statusView.Fits where
  angle := angle
  speed := by
    show -32768 ≤ saturate (-32767) 32767 p.speed ∧ saturate (-32767) 32767 p.speed ≤ 32767
    unfold saturate
    split
    · omega
    · split <;> omega
  codes := by
    have motion : p.motion.state.code ≤ 255 := by cases p.motion.state <;> decide
    have closure : p.apA.closure.code ≤ 255 := by cases p.apA.closure <;> decide
    have phase : p.opening.phase.code ≤ 255 := by cases p.opening.phase <;> decide
    have seat : seatCode p.pos.seat ≤ 255 := by rcases p.pos.seat with _ | _ | _ <;> decide
    exact ⟨motion, closure, phase, seat⟩
  run := by
    show runCode p.opening.runDir ≤ 3
    rcases p.opening.runDir with _ | _ | _ <;> decide
  target := target
  number := number

theorem saturate_eq (v : Int) : saturate (-32767) 32767 v = max (-32767) (min 32767 v) := by
  unfold saturate
  split
  · omega
  · split <;> omega

theorem mem_haltFaults_iff (f : FaultId) : f ∈ haltFaults ↔ f.cls = .halt := by cases f <;> decide

theorem mem_holdFaults_iff (f : FaultId) : f ∈ holdFaults ↔ f.cls = .hold := by cases f <;> decide

theorem State.haltCause_iff (p : State) : p.haltCause = true ↔
    ∃ f, f.cls = .halt ∧ f ≠ .partnerHalt ∧ (p.latched f = true ∨ (p.fault f).cond = true) := by
  simp only [State.haltCause, List.any_eq_true, mem_haltFaults_iff, Bool.and_eq_true, bne_iff_ne, Bool.or_eq_true, State.latched]

theorem State.holdSummary_iff (p : State) : p.holdSummary = true ↔ ∃ f, f.cls = .hold ∧ p.latched f = true := by
  simp only [State.holdSummary, List.any_eq_true, mem_holdFaults_iff]

/-! ### The mirror of a FOLLOW (R148) -/

/-- What a FOLLOW mirrors of the opening. -/
def Opening.course (o : Opening) : Phase × Option Int × Option Dir := (o.phase, o.target, o.runDir)

namespace State

theorem mirror_kept (s : State) (v : PartnerView) : (s.mirror v).kept = { s.kept with number := v.number } := by
  unfold mirror
  dsimp only
  split
  · rfl
  · split
    · rw [setPhase_kept]
      rfl
    · rw [giveStep_kept, setPhase_kept]
      rfl

theorem roadStep_opening (s : State) : s.roadStep.opening = s.opening := by
  rw [roadStep_frame]

theorem giveStep_course {s : State} (h : s.role = .follow) : s.giveStep.opening.course = s.opening.course := by
  have follow : (s.role == .follow) = true := by rw [h]; rfl
  unfold giveStep
  simp only [follow, if_true, Bool.true_and]
  split
  case h_3 | h_4 =>
    split
    · rfl
    · rw [roadStep_opening]
  all_goals rfl

theorem mirror_course {s : State} (h : s.role = .follow) (v : PartnerView) :
    (s.mirror v).opening.course = (mirrorPhase v.phase, v.target, mirrorRun v.runDir) := by
  have entered (t : State) (p : Phase) : (t.setPhase p).opening.course = (p, t.opening.target, t.opening.runDir) := by
    rw [Opening.course, setPhase_opening]
  unfold mirror
  dsimp only
  split
  next same =>
    rw [eq_of_beq same]
    rfl
  next =>
    split
    · rw [entered]
      rfl
    · rw [giveStep_course (by rw [setPhase_frame]; exact h), entered]
      rfl

theorem enterHalt_course (s : State) (f : FaultId) : (s.enterHalt f).opening.course = s.opening.course := by
  have tone (t : State) : t.startTone.opening = t.opening := by
    unfold startTone
    split <;> rfl
  have halt (t : State) : t.haltOpening.opening.course = t.opening.course := by
    unfold haltOpening
    split <;> rfl
  unfold enterHalt
  rw [tone, halt, revokeCalled_frame]
  rfl

theorem reportAll_course (s : State) : s.reportAll.opening.course = s.opening.course := by
  unfold reportAll
  dsimp only
  split
  · rfl
  · split
    · rw [enterHalt_course]
    · rfl

theorem permitStage_course (s : State) : s.permitStage.opening.course = s.opening.course := by
  unfold permitStage
  repeat' split
  all_goals rfl

theorem endSuspension_course {s : State} (h : s.role = .follow) :
    s.endSuspension.opening.course = s.opening.course := by
  unfold endSuspension
  dsimp only
  split
  · rw [if_neg (by rw [h]; simp), giveStep_course (show s.clearSuspension.role = .follow from h)]
    rfl
  · rfl

theorem giveCommand_course {s t : State} {c : SeqCmd} (h : s.giveCommand c = some t) : t.opening = s.opening := by
  cases c <;> simp only [giveCommand, Option.ite_none_right_eq_some, Option.some.injEq] at h
  case road => rw [← h, roadStep_opening]
  case lower => obtain ⟨-, rfl⟩ := h; rw [startDown_opening_frame]
  all_goals obtain ⟨-, rfl⟩ := h; rfl

theorem tryCommand_course (s : State) : s.tryCommand.opening.course = s.opening.course := by
  unfold tryCommand
  split
  · rfl
  · split
    · rfl
    · split
      next t given =>
        have same : t.clearCommand.opening.course = t.opening.course := rfl
        rw [same, giveCommand_course given]
      next => rfl

/-- A round leaves what a FOLLOW mirrors as the last frame gave it (R148). -/
theorem round_course {s : State} (h : s.role = .follow) : s.round.opening.course = s.opening.course := by
  have outputs_ (t : State) : t.outputs.opening = t.opening := by
    unfold outputs
    show (aspectStage t).lampStage.opening = _
    rw [lampStage_frame]
    rfl
  have channel {t : State} (f : t.role = .follow) : t.channelStage = t := by
    unfold channelStage
    rw [if_pos (by rw [f]; rfl)]
  have advance {t : State} (f : t.role = .follow) : t.advancePhase = t := by
    unfold advancePhase
    rw [if_neg (by rw [f]; simp)]
  have start {t : State} (f : t.role = .follow) : t.startTest = t := by
    unfold startTest
    rw [if_neg (by rw [f]; simp)]
  have first : s.reportAll.permitStage.angleStage.role = .follow := by
    rw [angleStage_frame, permitStage_frame]
    exact (congrArg Kept.role s.reportAll_kept).trans h
  generalize ha : s.reportAll.permitStage.angleStage = a at first
  have second : a.endSuspension.tryCommand.seatLockStage.toeStage.roadStage.role = .follow := by
    rw [roadStage_frame, toeStage_frame, seatLockStage_frame, tryCommand_frame, endSuspension_frame]
    exact first
  unfold round react
  rw [outputs_, ha, start second, advance second, channel second, roadStage_frame, toeStage_frame, seatLockStage_frame,
    tryCommand_course, endSuspension_course first, ← ha, angleStage_frame, permitStage_course, reportAll_course]

theorem settle_course {s : State} (h : s.role = .follow) : s.settle.opening.course = s.opening.course := by
  have rounds_ (n : Nat) : ∀ {t : State}, t.role = .follow → (rounds n t).opening.course = t.opening.course := by
    induction n with
    | zero => exact fun _ => rfl
    | succ n ih =>
      intro t f
      have step : rounds (n + 1) t = rounds n t.round := rfl
      rw [step, ih (by rw [← kept_role, round_kept, kept_role]; exact f), round_course f]
  exact rounds_ 8 h

/-! ### An accepted frame (R153, R157, R161, R162) -/

theorem acceptFrame_kept (s : State) (v : PartnerView) : (s.acceptFrame v).kept =
    { s.kept with
        paired := true, view := some v, age := 0, mismatch := 0
        number := if s.role = .follow then v.number else s.opening.number
        timers := (.running s.items.link.linkTimeout.toNat, if s.role = .follow then .running 2 else s.link.reply,
                   s.link.startup, s.link.period) } := by
  unfold acceptFrame
  dsimp only
  by_cases follow : s.role = .follow
  · rw [if_pos (by simpa using follow), mirror_kept, if_pos follow, if_pos follow]
    rfl
  · rw [if_neg (by simpa using follow), if_neg follow, if_neg follow]
    rfl

theorem acceptFrame_course {s : State} (h : s.role = .follow) (v : PartnerView) :
    (s.acceptFrame v).opening.course = (mirrorPhase v.phase, v.target, mirrorRun v.runDir) := by
  unfold acceptFrame
  dsimp only
  rw [if_pos (by simpa using h), mirror_course (by exact h)]

theorem sortFrame_accepted {s : State} {bs : List Byte} {f : Frame} {v : PartnerView}
    (h : Frame.ofBytes? (afterDelimiter bs) = some f) (own : s.Ours f) (kind : f.kind = 1)
    (body : PartnerView.ofBody? f.body = some v) : s.sortFrame bs = .accepted v := by
  unfold sortFrame
  rw [h]
  dsimp only
  rw [if_neg (by simpa [Ours] using own)]
  simp only [kind, body]

end State

theorem State.mirrorPhase_code (p : Phase) : mirrorPhase p.code = p := by cases p <;> rfl

theorem State.mirrorRun_runCode (d : Option Dir) : mirrorRun (runCode d) = d := by rcases d with _ | _ | _ <;> rfl

/-- Settles O58: the bytes of a frame read back as the fields they were formed from, and what an accepted frame writes. -/
theorem framesRoundTrip : Obligations.FramesRoundTrip := by
  refine ⟨fun p => ?_, fun s p still lost pair most receiving bridge low high angleLow angleHigh target number => ?_⟩
  · have front : p.statusFrame.take 2 = preamble := by
      rw [State.statusFrame_eq, List.take_left' preamble_length]
    refine ⟨?_, ?_, by rw [front]; exact preamble_cases⟩
    · rw [State.statusFrame_eq]
      simp [frameHead, PartnerView.body_length, be16, preamble_length]
    · rw [State.statusFrame_eq, List.getElem?_append_right (by rw [preamble_length]), preamble_length]
      rfl
  · have twin : s.role ≠ .sole := by
      rintro sole
      rcases pair with ⟨h, -⟩ | ⟨h, -⟩ <;> rw [sole] at h <;> cases h
    obtain ⟨f, whole, kind, sender, id, body⟩ := p.statusFrame_received most (bridge ▸ low) (bridge ▸ high)
    let u := s.wake.modLink fun l => { l with buffer := if still then .receiving else .quiet, toneHeard := false }
    have own : u.Ours f := by
      refine ⟨id.trans (bridge.trans (congrArg (fun i : Items => i.link.bridgeId) s.wake_items).symm), sender.trans ?_⟩
      have role : u.role = s.role := s.wake_role
      rcases pair with ⟨a, b⟩ | ⟨a, b⟩ <;> rw [role, a, b] <;> rfl
    have fits := State.statusView_fits ⟨angleLow, angleHigh⟩ target number
    have accepted : u.sortFrame (p.statusFrame.drop lost) = .accepted p.statusView :=
      State.sortFrame_accepted whole own kind (by rw [body]; exact PartnerView.ofBody?_body fits)
    have run : exec (.receiveEnd (p.statusFrame.drop lost) still) s = .next (u.acceptFrame p.statusView).settle := by
      rw [exec_receiveEnd, if_pos (by rw [State.wake_twin twin, receiving]; rfl), State.takeFrame, accepted]
    refine ⟨_, p.statusView, run, rfl, saturate_eq _, rfl, rfl, ?_, rfl, beq_iff_eq, p.ownedLocksAre_iff _, beq_iff_eq, ?_,
      beq_iff_eq, rfl, ?_, rfl, rfl, rfl, p.haltCause_iff, p.holdSummary_iff, ?_, fun follow => ?_⟩
    · rcases h : p.pos.seat with _ | _ | _ <;> simp [State.statusView, h, seatCode]
    · show p.isSeated = true ↔ _
      rw [State.isSeated, Bool.or_eq_true, beq_iff_eq, beq_iff_eq, or_comm]
    · rcases h : p.opening.runDir with _ | _ | _ <;> simp [State.statusView, h, runCode]
    · have kept : u.kept = s.kept := s.wake_kept
      have role : u.role = s.role := s.wake_role
      have items : u.items = s.items := s.wake_items
      have num : u.opening.number = s.opening.number := s.wake_number
      obtain ⟨-, reply, startup, period⟩ := s.wake_linkTimers
      have timers : u.link.reply = s.link.reply ∧ u.link.startup = s.link.startup ∧ u.link.period = s.link.period :=
        ⟨reply, startup, period⟩
      obtain ⟨reply', startup', period'⟩ := timers
      rw [State.settle_kept, State.acceptFrame_kept, kept, role, items, num, reply', startup', period']
      rfl
    · have mirror : u.role = .follow := s.wake_role.trans follow
      have course : (u.acceptFrame p.statusView).settle.opening.course =
          (p.opening.phase, p.opening.target, p.opening.runDir) := by
        have stays : (u.acceptFrame p.statusView).role = .follow :=
          (congrArg Kept.role (u.acceptFrame_kept p.statusView)).trans mirror
        rw [State.settle_course stays, State.acceptFrame_course mirror]
        exact congrArg₂ (fun a b => (a, p.opening.target, b)) (State.mirrorPhase_code _) (State.mirrorRun_runCode _)
      simp only [Opening.course, Prod.mk.injEq] at course
      obtain ⟨phase, aim, run⟩ := course
      exact ⟨aim, run, phase⟩

end Sys2Proof.Machine
end

section
/-!
SUPPORT. The walk of R131 with room for all: which records are set aside, where each number comes to stand, and that a walk with
less room ends with the first numbers of it.
-/

namespace Sys2Proof.Machine

open Sys2Proof

/-! ### One element of a list before another -/

/-- One element of a list stands before another. -/
def Precedes {α : Type} (l : List α) (x y : α) : Prop := ∃ xs ys, l = xs ++ y :: ys ∧ x ∈ xs

namespace Precedes

variable {α : Type} {l : List α} {x y z : α}

theorem left_mem (h : Precedes l x y) : x ∈ l := by
  obtain ⟨xs, ys, rfl, hx⟩ := h
  exact List.mem_append_left _ hx

theorem append (h : Precedes l x y) (m : List α) : Precedes (l ++ m) x y := by
  obtain ⟨xs, ys, rfl, hx⟩ := h
  exact ⟨xs, ys ++ m, by simp, hx⟩

theorem of_mem (hx : x ∈ l) (m : List α) : Precedes (l ++ y :: m) x y := ⟨l, m, rfl, hx⟩

/-- In a list without repetitions the part before an element is one. -/
theorem mem_of_eq (apart : l.Nodup) {xs ys : List α} (h : Precedes l x y) (e : l = xs ++ y :: ys) : x ∈ xs := by
  obtain ⟨xs', ys', e', hx⟩ := h
  have cut := e.symm.trans e'
  rw [e] at apart
  rcases List.append_eq_append_iff.mp cut with ⟨as, rfl, tail⟩ | ⟨bs, rfl, tail⟩
  · cases as with
    | nil => simpa using hx
    | cons a as =>
      obtain ⟨rfl, tail⟩ := List.cons.inj tail
      rw [tail] at apart
      simp [List.nodup_append] at apart
  · cases bs with
    | nil => simpa using hx
    | cons b bs => exact List.mem_append_left _ hx

theorem trans (apart : l.Nodup) (h : Precedes l x y) (h' : Precedes l y z) : Precedes l x z := by
  obtain ⟨xs, zs, e, hy⟩ := h'
  obtain ⟨as, bs, rfl⟩ := List.append_of_mem hy
  have e' : l = as ++ y :: (bs ++ z :: zs) := by rw [e]; simp
  exact ⟨as ++ y :: bs, zs, e, List.mem_append_left _ (h.mem_of_eq apart e')⟩

theorem asymm (apart : l.Nodup) (h : Precedes l x y) : ¬Precedes l y x := by
  intro h'
  obtain ⟨xs, ys, e, hx⟩ := h
  obtain ⟨as, bs, rfl⟩ := List.append_of_mem hx
  have e' : l = as ++ x :: (bs ++ y :: ys) := by rw [e]; simp
  have hy := h'.mem_of_eq apart e'
  rw [e'] at apart
  have once := (List.nodup_append.mp apart).2.2 y hy y (by simp)
  exact once rfl

theorem total (hx : x ∈ l) (hy : y ∈ l) (ne : x ≠ y) : Precedes l x y ∨ Precedes l y x := by
  obtain ⟨as, bs, rfl⟩ := List.append_of_mem hx
  rcases List.mem_append.mp hy with h | h
  · exact .inr ⟨as, bs, rfl, h⟩
  · rcases List.mem_cons.mp h with e | h
    · exact absurd e.symm ne
    · obtain ⟨cs, ds, rfl⟩ := List.append_of_mem h
      exact .inl ⟨as ++ x :: cs, ds, by simp, by simp⟩

theorem take (apart : l.Nodup) (h : Precedes l x y) {k : Nat} (hy : y ∈ l.take k) : Precedes (l.take k) x y := by
  obtain ⟨xs, ys, e⟩ := List.append_of_mem hy
  have whole : l = xs ++ y :: (ys ++ l.drop k) := by
    rw [← List.cons_append, ← List.append_assoc, ← e, List.take_append_drop]
  exact ⟨xs, ys, e, h.mem_of_eq apart whole⟩

end Precedes

theorem pairwise_iff_precedes {α : Type} {R : α → α → Prop} {l : List α} (h : l.Pairwise R) {x y : α} (p : Precedes l x y) :
    R x y := by
  obtain ⟨xs, ys, rfl, hx⟩ := p
  exact (List.pairwise_append.mp h).2.2 x hx y (by simp)

/-! ### A walk with room for all -/

/-- A record's number and those of the records set aside that follow it, each with its own followers behind it. -/
def block : Nat → List Rec → Rec → List Nat
  | 0, _, _ => []
  | fuel + 1, aside, r => r.number :: (aside.filter fun q => q.follows == some r.number).flatMap (block fuel aside)

/-- The walk of R131 with room for all. -/
def walk (onList : List Nat) : List Rec → List Rec → List Nat → List Nat
  | [], _, acc => acc
  | r :: rest, aside, acc =>
    if r.follows.all fun f => onList.contains f || acc.contains f then walk onList rest aside (acc ++ block 25 aside r)
    else walk onList rest (aside ++ [r]) acc

theorem walk_cons (onList : List Nat) (r : Rec) (rs aside : List Rec) (acc : List Nat) :
    walk onList (r :: rs) aside acc =
      if r.follows.all fun f => onList.contains f || acc.contains f then walk onList rs aside (acc ++ block 25 aside r)
      else walk onList rs (aside ++ [r]) acc := rfl

theorem placeAll_cons (room : Nat) (onList : List Nat) (r : Rec) (rs aside : List Rec) (acc : List Nat) :
    placeAll room onList (r :: rs) aside acc =
      if r.follows.all fun f => onList.contains f || acc.contains f then
        placeAll room onList rs aside (placeChain 25 room aside acc r)
      else placeAll room onList rs (aside ++ [r]) acc := rfl

theorem prefix_walk (onList : List Nat) (rs : List Rec) : ∀ (aside : List Rec) (acc : List Nat),
    acc <+: walk onList rs aside acc := by
  induction rs with
  | nil => exact fun _ acc => List.prefix_refl acc
  | cons r rs ih =>
    intro aside acc
    rw [walk_cons]
    split
    · exact (List.prefix_append _ _).trans (ih _ _)
    · exact ih _ _

theorem placeChain_full {fuel room : Nat} {aside : List Rec} {acc : List Nat} {r : Rec} (full : ¬acc.length < room) :
    placeChain fuel room aside acc r = acc := by
  cases fuel with
  | zero => rfl
  | succ fuel =>
    unfold placeChain
    rw [if_neg (by simp [full])]

theorem placeAll_full {room : Nat} {onList : List Nat} (rs : List Rec) : ∀ {aside : List Rec} {acc : List Nat},
    ¬acc.length < room → placeAll room onList rs aside acc = acc := by
  induction rs with
  | nil => exact fun _ => rfl
  | cons r rs ih =>
    intro aside acc full
    rw [placeAll_cons, placeChain_full full]
    split <;> exact ih full

/-- The placing of a record and its followers while there is room. -/
theorem placeChain_eq (room : Nat) (aside : List Rec) (fuel : Nat) : ∀ (acc : List Nat) (r : Rec), acc.length ≤ room →
    (acc ++ block fuel aside r).Nodup → placeChain fuel room aside acc r = (acc ++ block fuel aside r).take room := by
  induction fuel with
  | zero =>
    intro acc r few _
    rw [block, List.append_nil, List.take_of_length_le few]
    rfl
  | succ fuel ih =>
    intro acc r few apart
    have many : ∀ (cs : List Rec) (acc : List Nat), acc.length ≤ room → (acc ++ cs.flatMap (block fuel aside)).Nodup →
        cs.foldl (placeChain fuel room aside) acc = (acc ++ cs.flatMap (block fuel aside)).take room := by
      intro cs
      induction cs with
      | nil => intro acc few _; simp [List.take_of_length_le few]
      | cons c cs ihc =>
        intro acc few apart
        rw [List.flatMap_cons, ← List.append_assoc] at apart ⊢
        rw [List.foldl_cons, ih acc c few (apart.sublist (List.sublist_append_left _ _))]
        by_cases fits : (acc ++ block fuel aside c).length ≤ room
        · rw [List.take_of_length_le fits]
          exact ihc _ fits apart
        · have cut : ((acc ++ block fuel aside c).take room).length = room := by
            rw [List.length_take]
            omega
          have stays : ∀ ds : List Rec, ds.foldl (placeChain fuel room aside) ((acc ++ block fuel aside c).take room) =
              (acc ++ block fuel aside c).take room := by
            intro ds
            induction ds with
            | nil => rfl
            | cons d ds ihd => rw [List.foldl_cons, placeChain_full (by omega), ihd]
          rw [stays, List.take_append_of_le_length (Nat.le_of_lt (Nat.lt_of_not_le fits))]
    by_cases full : acc.length < room
    · have fresh : r.number ∉ acc := fun mem => (List.nodup_append.mp apart).2.2 _ mem r.number (by simp [block]) rfl
      unfold placeChain
      rw [if_pos (by simp [full, fresh])]
      rw [block, List.append_cons _ r.number (List.flatMap _ _)] at apart ⊢
      exact many _ _ (by simp; omega) apart
    · rw [placeChain_full full, List.take_append_of_le_length (by omega), List.take_of_length_le few]

/-- A walk with less room ends with the first numbers of the walk with room for all. -/
theorem placeAll_eq (room : Nat) (onList : List Nat) (rs : List Rec) : ∀ (aside : List Rec) (acc : List Nat),
    (walk onList rs aside acc).Nodup →
    placeAll room onList rs aside (acc.take room) = (walk onList rs aside acc).take room := by
  induction rs with
  | nil => exact fun _ _ _ => rfl
  | cons r rs ih =>
    intro aside acc apart
    by_cases full : acc.length < room
    · have whole : acc.take room = acc := List.take_of_length_le (by omega)
      rw [whole]
      rw [walk_cons] at apart
      rw [walk_cons, placeAll_cons]
      split
      next taken =>
        rw [if_pos taken] at apart
        have apart' : (acc ++ block 25 aside r).Nodup := apart.sublist (prefix_walk _ _ _ _).sublist
        rw [placeChain_eq room aside 25 acc r (by omega) apart']
        exact ih _ _ apart
      next waits =>
        rw [if_neg waits] at apart
        rw [← whole, ih _ _ apart, whole]
    · have cut : (acc.take room).length = room := by
        rw [List.length_take]
        omega
      obtain ⟨more, e⟩ := prefix_walk onList (r :: rs) aside acc
      rw [placeAll_full _ (by omega), ← e, List.take_append_of_le_length (by omega)]

end Sys2Proof.Machine
end

section
/-!
SUPPORT. Where the walk of R131 puts each record: the records of an eligible list stand in its order but for those set aside,
each of which follows its predecessor with nothing between but others that the same predecessor leads.
-/

namespace Sys2Proof.Machine

open Sys2Proof

/-- A list of records of distinct numbers, in which a record whose follows is not on the group list follows another of the
list, one of a smaller rank. -/
structure Grove (onList : List Nat) (L : List Rec) (rank : Rec → Nat) : Prop where
  apart : (L.map Rec.number).Nodup
  led : ∀ r ∈ L, ∀ n, r.follows = some n → n ∉ onList → ∃ q ∈ L, q.number = n
  earlier : ∀ q ∈ L, ∀ r ∈ L, r.follows = some q.number → rank q < rank r
  few : ∀ r ∈ L, rank r < 24

/-- One record of the list is the predecessor that the other waits for. -/
def Parent (onList : List Nat) (L : List Rec) (q r : Rec) : Prop :=
  q ∈ L ∧ r ∈ L ∧ r.follows = some q.number ∧ q.number ∉ onList

/-- One record of the list leads the other. -/
def Above (onList : List Nat) (L : List Rec) : Rec → Rec → Prop := Relation.TransGen (Parent onList L)

/-- A record that a leader comes after. -/
def Late (onList : List Nat) (L : List Rec) (r : Rec) : Prop := ∃ q, Above onList L q r ∧ Precedes L r q

/-- From a record down to one that follows it through records set aside. -/
def Chain (aside : List Rec) : Rec → Rec → Prop := Relation.ReflTransGen fun q x => x ∈ aside ∧ x.follows = some q.number

section
variable {onList : List Nat} {L : List Rec} {rank : Rec → Nat}

theorem Grove.inj (g : Grove onList L rank) {x y : Rec} (hx : x ∈ L) (hy : y ∈ L) (e : x.number = y.number) : x = y :=
  List.inj_on_of_nodup_map g.apart hx hy e

theorem Grove.nodup (g : Grove onList L rank) : L.Nodup := g.apart.of_map _

theorem Above.left_mem {q r : Rec} (h : Above onList L q r) : q ∈ L := by
  induction h using Relation.TransGen.head_induction_on with
  | single p => exact p.1
  | head p _ _ => exact p.1

theorem Above.right_mem {q r : Rec} (h : Above onList L q r) : r ∈ L := by
  cases h with
  | single p => exact p.2.1
  | tail _ p => exact p.2.1

theorem Above.rank_lt (g : Grove onList L rank) {q r : Rec} (h : Above onList L q r) : rank q < rank r := by
  induction h with
  | single p =>
    obtain ⟨hq, hr, f, -⟩ := p
    exact g.earlier _ hq _ hr f
  | tail _ p ih =>
    obtain ⟨hq, hr, f, -⟩ := p
    exact ih.trans (g.earlier _ hq _ hr f)

/-- A leader of a record is its predecessor, or leads its predecessor. -/
theorem Above.of_parent (g : Grove onList L rank) {p q r : Rec} (h : Above onList L q r) (hp : Parent onList L p r) :
    q = p ∨ Above onList L q p := by
  have one : ∀ {p'}, Parent onList L p' r → p' = p := fun hp' =>
    g.inj hp'.1 hp.1 (Option.some.inj (hp'.2.2.1.symm.trans hp.2.2.1))
  cases h with
  | single hq => exact .inl (one hq)
  | tail up hq => exact .inr (one hq ▸ up)

/-! ### What a chain through records set aside reaches -/

theorem Chain.mem {aside : List Rec} (sub : ∀ x ∈ aside, x ∈ L) {r x : Rec} (hr : r ∈ L) (h : Chain aside r x) : x ∈ L := by
  cases h with
  | refl => exact hr
  | tail _ s => exact sub _ s.1

theorem Chain.rank_le (g : Grove onList L rank) {aside : List Rec} (sub : ∀ x ∈ aside, x ∈ L) {r x : Rec} (hr : r ∈ L)
    (h : Chain aside r x) : rank r ≤ rank x := by
  induction h with
  | refl => exact le_refl _
  | tail up s ih => exact ih.trans (g.earlier _ (Chain.mem sub hr up) _ (sub _ s.1) s.2).le

/-- Two chains to one record start on one line. -/
theorem Chain.total (g : Grove onList L rank) {aside : List Rec} (sub : ∀ x ∈ aside, x ∈ L) {c d x : Rec} (hc : c ∈ L)
    (hd : d ∈ L) (h : Chain aside c x) (h' : Chain aside d x) : Chain aside c d ∨ Chain aside d c := by
  induction h with
  | refl => exact .inr h'
  | tail up s ih =>
    cases h' with
    | refl => exact .inl (up.tail s)
    | tail up' s' =>
      obtain rfl := g.inj (Chain.mem sub hc up) (Chain.mem sub hd up') (Option.some.inj (s.2.symm.trans s'.2))
      exact ih up'

theorem mem_children {aside : List Rec} {r x : Rec} :
    x ∈ aside.filter (fun q => q.follows == some r.number) ↔ x ∈ aside ∧ x.follows = some r.number := by
  simp

theorem mem_block {aside : List Rec} {n : Nat} (fuel : Nat) : ∀ {r : Rec}, n ∈ block fuel aside r →
    ∃ x, Chain aside r x ∧ x.number = n := by
  induction fuel with
  | zero => simp [block]
  | succ fuel ih =>
    intro r mem
    rw [block] at mem
    rcases List.mem_cons.mp mem with rfl | mem
    · exact ⟨r, .refl, rfl⟩
    · obtain ⟨c, hc, mem⟩ := List.mem_flatMap.mp mem
      obtain ⟨x, down, e⟩ := ih mem
      exact ⟨x, .head (mem_children.mp hc) down, e⟩

theorem block_mem (g : Grove onList L rank) {aside : List Rec} (sub : ∀ x ∈ aside, x ∈ L) (fuel : Nat) :
    ∀ {r x : Rec}, r ∈ L → 24 ≤ rank r + fuel → Chain aside r x → x.number ∈ block fuel aside r := by
  induction fuel with
  | zero =>
    intro r x hr enough
    have := g.few r hr
    omega
  | succ fuel ih =>
    intro r x hr enough down
    rw [block]
    rcases Relation.ReflTransGen.cases_head down with rfl | ⟨c, s, down⟩
    · simp
    · have deeper := g.earlier r hr c (sub c s.1) s.2
      exact List.mem_cons_of_mem _
        (List.mem_flatMap.mpr ⟨c, mem_children.mpr s, ih (sub c s.1) (by omega) down⟩)

theorem block_nodup (g : Grove onList L rank) {aside : List Rec} (sub : ∀ x ∈ aside, x ∈ L) (once : aside.Nodup)
    (fuel : Nat) : ∀ {r : Rec}, r ∈ L → (block fuel aside r).Nodup := by
  induction fuel with
  | zero => simp [block]
  | succ fuel ih =>
    intro r hr
    have deeper : ∀ c ∈ aside.filter (fun q => q.follows == some r.number), c ∈ L ∧ rank r < rank c := fun c hc =>
      have ⟨hc, f⟩ := mem_children.mp hc
      ⟨sub c hc, g.earlier r hr c (sub c hc) f⟩
    rw [block, List.nodup_cons]
    constructor
    · intro mem
      obtain ⟨c, hc, mem⟩ := List.mem_flatMap.mp mem
      obtain ⟨x, down, e⟩ := mem_block fuel mem
      obtain ⟨inL, lower⟩ := deeper c hc
      obtain rfl := g.inj (Chain.mem sub inL down) hr e
      exact absurd (Chain.rank_le g sub inL down) (by omega)
    · rw [List.nodup_flatMap]
      refine ⟨fun c hc => ih (deeper c hc).1, (once.filter _).imp_of_mem fun {c d} hc hd ne => ?_⟩
      intro n mem mem'
      obtain ⟨x, down, e⟩ := mem_block fuel mem
      obtain ⟨y, down', e'⟩ := mem_block fuel mem'
      obtain ⟨inL, -⟩ := deeper c hc
      obtain ⟨inL', -⟩ := deeper d hd
      obtain rfl := g.inj (Chain.mem sub inL down) (Chain.mem sub inL' down') (e.trans e'.symm)
      have apart : ∀ {c d : Rec}, c ∈ L → rank r < rank c → d ∈ L → d.follows = some r.number → c ≠ d → ¬Chain aside c d := by
        intro c d inL lower inL' f ne h
        cases h with
        | refl => exact ne rfl
        | tail up s =>
          have top := g.inj (Chain.mem sub inL up) hr (Option.some.inj (s.2.symm.trans f))
          have := Chain.rank_le g sub inL up
          rw [top] at this
          omega
      rcases Chain.total g sub inL inL' down down' with h | h
      · exact apart inL (deeper c hc).2 inL' (mem_children.mp hd).2 ne h
      · exact apart inL' (deeper d hd).2 inL (mem_children.mp hc).2 ne.symm h

/-- A record set aside follows its predecessor, with nothing between but others that the same predecessor leads. -/
theorem block_behind (g : Grove onList L rank) {aside : List Rec} (sub : ∀ x ∈ aside, x ∈ L) {x : Rec} (hx : x ∈ aside)
    (fuel : Nat) : ∀ {r q : Rec}, r ∈ L → 24 ≤ rank r + fuel → Chain aside r q → x.follows = some q.number →
    ∃ xs zs ys, block fuel aside r = xs ++ q.number :: zs ++ x.number :: ys ∧
      ∀ n ∈ zs, ∃ p ∈ aside, p.number = n ∧ ∃ c ∈ aside, c.follows = some q.number ∧ Chain aside c p := by
  induction fuel with
  | zero =>
    intro r q hr enough
    have := g.few r hr
    omega
  | succ fuel ih =>
    intro r q hr enough down f
    rw [block]
    rcases Relation.ReflTransGen.cases_head down with rfl | ⟨c, s, down⟩
    · obtain ⟨cs, ds, split⟩ := List.append_of_mem (mem_children.mpr ⟨hx, f⟩)
      have deeper := g.earlier r hr x (sub x hx) f
      have low := g.few x (sub x hx)
      obtain ⟨k, rfl⟩ : ∃ k, fuel = k + 1 := ⟨fuel - 1, by omega⟩
      rw [split]
      refine ⟨[], cs.flatMap (block (k + 1) aside),
        (aside.filter fun q => q.follows == some x.number).flatMap (block k aside) ++ ds.flatMap (block (k + 1) aside),
        by simp [block], fun n mem => ?_⟩
      obtain ⟨c, hc, mem⟩ := List.mem_flatMap.mp mem
      obtain ⟨p, down, e⟩ := mem_block _ mem
      obtain ⟨inA, fc⟩ := mem_children.mp (split ▸ List.mem_append_left _ hc)
      refine ⟨p, ?_, e, c, inA, fc, down⟩
      cases down with
      | refl => exact inA
      | tail _ s => exact s.1
    · have deeper := g.earlier r hr c (sub c s.1) s.2
      obtain ⟨xs, zs, ys, e, between⟩ := ih (sub c s.1) (by omega) down f
      obtain ⟨cs, ds, split⟩ := List.append_of_mem (mem_children.mpr s)
      refine ⟨r.number :: cs.flatMap (block fuel aside) ++ xs, zs, ys ++ ds.flatMap (block fuel aside), ?_, between⟩
      rw [split]
      simp [e]

end

end Sys2Proof.Machine
end

section
/-!
SUPPORT. The walk of R131 keeps the order of its list but for the records set aside.
-/

namespace Sys2Proof.Machine

open Sys2Proof

/-- What the walk has made of the part `done` of its list: the records set aside are those that a leader comes after, a number
is placed once all its leaders are passed, and the placed numbers stand as R131 orders them. -/
structure Walked (onList : List Nat) (L done aside : List Rec) (acc : List Nat) : Prop where
  late : ∀ x, x ∈ aside ↔ x ∈ done ∧ Late onList L x
  once : aside.Nodup
  placed : ∀ n, n ∈ acc ↔ ∃ x ∈ done, x.number = n ∧ ∀ q, Above onList L q x → q ∈ done
  nodup : acc.Nodup
  led : ∀ q x, Parent onList L q x → x.number ∈ acc → Precedes acc q.number x.number
  order : ∀ x ∈ done, ∀ y ∈ done, ¬Late onList L x → ¬Late onList L y → Precedes L x y → Precedes acc x.number y.number
  behind : ∀ q x, Parent onList L q x → Late onList L x → q.number ∈ acc →
    ∃ xs zs ys, acc = xs ++ q.number :: zs ++ x.number :: ys ∧
      ∀ n ∈ zs, ∃ p, p.number = n ∧ Late onList L p ∧ Above onList L q p

section
variable {onList : List Nat} {L : List Rec} {rank : Rec → Nat} {done rest aside : List Rec} {acc : List Nat} {r : Rec}

theorem precedes_split (apart : L.Nodup) (e : L = done ++ r :: rest) {x : Rec} : Precedes L x r ↔ x ∈ done :=
  ⟨fun p => p.mem_of_eq apart e, fun mem => e ▸ Precedes.of_mem mem rest⟩

/-- The next record of the list is one to set aside exactly where one of its leaders is not passed yet. -/
theorem late_iff (g : Grove onList L rank) (e : L = done ++ r :: rest) :
    Late onList L r ↔ ∃ q, Above onList L q r ∧ q ∉ done := by
  have hr : r ∈ L := by rw [e]; simp
  constructor
  · rintro ⟨q, up, later⟩
    exact ⟨q, up, fun mem => later.asymm g.nodup ((precedes_split g.nodup e).mpr mem)⟩
  · rintro ⟨q, up, out⟩
    have ne : r ≠ q := by
      rintro rfl
      exact lt_irrefl _ (up.rank_lt g)
    rcases Precedes.total hr up.left_mem ne with h | h
    · exact ⟨q, up, h⟩
    · exact absurd ((precedes_split g.nodup e).mp h) out

/-- The test of the walk. -/
theorem all_placed_iff (g : Grove onList L rank) (e : L = done ++ r :: rest) (w : Walked onList L done aside acc) :
    (r.follows.all fun f => onList.contains f || acc.contains f) = true ↔ ¬Late onList L r := by
  have hr : r ∈ L := by rw [e]; simp
  have sub : ∀ x ∈ done, x ∈ L := fun x hx => by rw [e]; exact List.mem_append_left _ hx
  have test : (r.follows.all fun f => onList.contains f || acc.contains f) = true ↔
      ∀ f, r.follows = some f → f ∈ onList ∨ f ∈ acc := by
    cases r.follows <;> simp
  rw [test, late_iff g e]
  constructor
  · rintro all ⟨q, up, out⟩
    obtain ⟨p, hp⟩ : ∃ p, Parent onList L p r := by
      cases up with
      | single hp => exact ⟨q, hp⟩
      | tail _ hp => exact ⟨_, hp⟩
    rcases all p.number hp.2.2.1 with on | mem
    · exact hp.2.2.2 on
    · obtain ⟨x, hx, same, passed⟩ := (w.placed _).mp mem
      obtain rfl := g.inj (sub x hx) hp.1 same
      rcases up.of_parent g hp with rfl | up
      · exact out hx
      · exact out (passed q up)
  · intro none_ f hf
    by_contra off
    push Not at off
    obtain ⟨p, inL, rfl⟩ := g.led r hr f hf off.1
    have hp : Parent onList L p r := ⟨inL, hr, hf, off.1⟩
    have passed : ∀ {q}, Above onList L q r → q ∈ done := fun {q} up => by
      by_contra out
      exact none_ ⟨q, up, out⟩
    exact off.2 ((w.placed _).mpr ⟨p, passed (.single hp), rfl, fun q up => passed (up.tail hp)⟩)

theorem Walked.led_above (w : Walked onList L done aside acc) {q x : Rec} (up : Above onList L q x) (mem : x.number ∈ acc) :
    Precedes acc q.number x.number := by
  induction up with
  | single p => exact w.led _ _ p mem
  | tail _ p ih =>
    have last := w.led _ _ p mem
    exact (ih last.left_mem).trans w.nodup last

theorem walked_start : Walked onList L [] [] [] where
  late := by simp
  once := .nil
  placed := by simp
  nodup := .nil
  led := by simp
  order := by simp
  behind := by simp

/-- A record is set aside. -/
theorem Walked.wait (g : Grove onList L rank) (e : L = done ++ r :: rest) (w : Walked onList L done aside acc)
    (late : Late onList L r) : Walked onList L (done ++ [r]) (aside ++ [r]) acc := by
  have parts := g.nodup
  rw [e] at parts
  have new : r ∉ done := fun mem => (List.nodup_append.mp parts).2.2 r mem r (by simp) rfl
  obtain ⟨top, above, out⟩ := (late_iff g e).mp late
  have top_ne : top ≠ r := by
    rintro rfl
    exact lt_irrefl _ (above.rank_lt g)
  refine ⟨fun x => ?_, ?_, fun n => ?_, w.nodup, w.led, ?_, w.behind⟩
  · rw [List.mem_append, List.mem_append, w.late, List.mem_singleton]
    constructor
    · rintro (⟨hx, l⟩ | rfl)
      · exact ⟨.inl hx, l⟩
      · exact ⟨.inr rfl, late⟩
    · rintro ⟨hx | rfl, l⟩
      · exact .inl ⟨hx, l⟩
      · exact .inr rfl
  · exact List.nodup_append.mpr ⟨w.once, by simp, fun x hx y hy => by
      rw [List.mem_singleton] at hy
      rintro rfl
      exact new (hy ▸ ((w.late x).mp hx).1)⟩
  · rw [w.placed]
    constructor
    · rintro ⟨x, hx, en, passed⟩
      exact ⟨x, List.mem_append_left _ hx, en, fun q up => List.mem_append_left _ (passed q up)⟩
    · have out' : top ∉ done ++ [r] := by simp [out, top_ne]
      rintro ⟨x, hx, en, passed⟩
      rcases List.mem_append.mp hx with hx | hx
      · refine ⟨x, hx, en, fun q up => ?_⟩
        rcases List.mem_append.mp (passed q up) with h | h
        · exact h
        · rw [List.mem_singleton] at h
          exact absurd (passed top (above.trans (h ▸ up))) out'
      · rw [List.mem_singleton] at hx
        exact absurd (passed top (hx ▸ above)) out'
  · intro x hx y hy nx ny p
    have old : ∀ z ∈ done ++ [r], ¬Late onList L z → z ∈ done := fun z hz nz => by
      rcases List.mem_append.mp hz with h | h
      · exact h
      · rw [List.mem_singleton] at h
        exact absurd (h ▸ late) nz
    exact w.order x (old x hx nx) y (old y hy ny) nx ny p

/-- A chain from a record through records set aside leads. -/
theorem Chain.above (sub : ∀ x ∈ aside, x ∈ L) (off : ∀ x ∈ aside, ∀ f, x.follows = some f → f ∉ onList) {q x : Rec}
    (hq : q ∈ L) (h : Chain aside q x) : q = x ∨ Above onList L q x := by
  induction h with
  | refl => exact .inl rfl
  | tail up s ih =>
    have last : Parent onList L _ _ := ⟨Chain.mem sub hq up, sub _ s.1, s.2, off _ s.1 _ s.2⟩
    rcases ih with rfl | up
    · exact .inr (.single last)
    · exact .inr (up.tail last)

theorem mem_of_split (e : L = done ++ r :: rest) : r ∈ L ∧ ∀ x ∈ done, x ∈ L := by
  rw [e]
  exact ⟨by simp, fun x hx => List.mem_append_left _ hx⟩

theorem not_mem_done (g : Grove onList L rank) (e : L = done ++ r :: rest) : r ∉ done := fun mem =>
  ((precedes_split g.nodup e).mpr mem).asymm g.nodup ((precedes_split g.nodup e).mpr mem)

theorem Walked.aside_mem (e : L = done ++ r :: rest) (w : Walked onList L done aside acc) : ∀ x ∈ aside, x ∈ L :=
  fun x hx => (mem_of_split e).2 x ((w.late x).mp hx).1

theorem Walked.off_list (w : Walked onList L done aside acc) : ∀ x ∈ aside, ∀ f, x.follows = some f → f ∉ onList := by
  intro x hx f hf
  obtain ⟨-, q, up, -⟩ := (w.late x).mp hx
  obtain ⟨p, hp⟩ : ∃ p, Parent onList L p x := by
    cases up with
    | single hp => exact ⟨q, hp⟩
    | tail _ hp => exact ⟨_, hp⟩
  rw [Option.some.inj (hf.symm.trans hp.2.2.1)]
  exact hp.2.2.2

/-- What a chain from the next record reaches is passed with it, and so are all that lead it. -/
theorem Walked.chain_passed (g : Grove onList L rank) (e : L = done ++ r :: rest) (w : Walked onList L done aside acc)
    (due : ¬Late onList L r) {x : Rec} (h : Chain aside r x) :
    x ∈ done ++ [r] ∧ ∀ q, Above onList L q x → q ∈ done ++ [r] := by
  induction h with
  | refl =>
    refine ⟨by simp, fun q up => List.mem_append_left _ ?_⟩
    by_contra out
    exact due ((late_iff g e).mpr ⟨q, up, out⟩)
  | tail up s ih =>
    refine ⟨List.mem_append_left _ ((w.late _).mp s.1).1, fun q above => ?_⟩
    have hp : Parent onList L _ _ :=
      ⟨Chain.mem (w.aside_mem e) (mem_of_split e).1 up, w.aside_mem e _ s.1, s.2, w.off_list _ s.1 _ s.2⟩
    rcases above.of_parent g hp with rfl | above
    · exact ih.1
    · exact ih.2 q above

/-- A passed record that the next one leads, all its leaders being passed, is reached from it. -/
theorem Walked.chain_of_above (g : Grove onList L rank) (e : L = done ++ r :: rest) (w : Walked onList L done aside acc)
    {x : Rec} (up : Above onList L r x) (hx : x ∈ done) (passed : ∀ q, Above onList L q x → q ∈ done ++ [r]) :
    Chain aside r x := by
  have waits : ∀ {z}, z ∈ done → Above onList L r z → z ∈ aside := fun hz above =>
    (w.late _).mpr ⟨hz, r, above, (precedes_split g.nodup e).mpr hz⟩
  induction up with
  | single hp => exact .single ⟨waits hx (.single hp), hp.2.2.1⟩
  | @tail y z up hp ih =>
    have ne : y ≠ r := by
      rintro rfl
      exact lt_irrefl _ (Above.rank_lt g up)
    have hy : y ∈ done := by simpa [ne] using passed y (.single hp)
    exact (ih hy fun q above => passed q (above.tail hp)).tail ⟨waits hx (up.tail hp), hp.2.2.1⟩

/-- The numbers that the next record brings. -/
theorem Walked.mem_block_iff (g : Grove onList L rank) (e : L = done ++ r :: rest) (w : Walked onList L done aside acc)
    {x : Rec} (hx : x ∈ L) : x.number ∈ block 25 aside r ↔ Chain aside r x := by
  have sub := w.aside_mem e
  have hr := (mem_of_split e).1
  constructor
  · intro mem
    obtain ⟨y, down, same⟩ := mem_block 25 mem
    rwa [← g.inj (Chain.mem sub hr down) hx same]
  · exact block_mem g sub 25 hr (by omega)

/-- A record whose leaders are all passed is placed, and with it those set aside for it. -/
theorem Walked.place (g : Grove onList L rank) (e : L = done ++ r :: rest) (w : Walked onList L done aside acc)
    (due : ¬Late onList L r) : Walked onList L (done ++ [r]) aside (acc ++ block 25 aside r) := by
  obtain ⟨hr, old⟩ := mem_of_split e
  have new := not_mem_done g e
  have sub := w.aside_mem e
  have inL : ∀ x ∈ done ++ [r], x ∈ L := fun x hx => by
    rcases List.mem_append.mp hx with h | h
    · exact old x h
    · exact List.mem_singleton.mp h ▸ hr
  refine ⟨fun x => ?_, w.once, fun n => ?_, ?_, ?_, ?_, ?_⟩
  case refine_1 =>
    rw [w.late]
    constructor
    · exact fun ⟨hx, l⟩ => ⟨List.mem_append_left _ hx, l⟩
    · rintro ⟨hx, l⟩
      rcases List.mem_append.mp hx with h | h
      · exact ⟨h, l⟩
      · exact absurd (List.mem_singleton.mp h ▸ l) due
  case refine_2 =>
    constructor
    · intro mem
      rcases List.mem_append.mp mem with mem | mem
      · obtain ⟨x, hx, en, passed⟩ := (w.placed n).mp mem
        exact ⟨x, List.mem_append_left _ hx, en, fun q up => List.mem_append_left _ (passed q up)⟩
      · obtain ⟨x, down, en⟩ := mem_block 25 mem
        obtain ⟨hx, passed⟩ := w.chain_passed g e due down
        exact ⟨x, hx, en, passed⟩
    · rintro ⟨x, hx, rfl, passed⟩
      by_cases of : x = r ∨ Above onList L r x
      · refine List.mem_append_right _ ((w.mem_block_iff g e (inL x hx)).mpr ?_)
        rcases of with rfl | up
        · exact .refl
        · have ne : x ≠ r := by
            rintro rfl
            exact lt_irrefl _ (up.rank_lt g)
          exact w.chain_of_above g e up (by simpa [ne] using hx) passed
      · push Not at of
        refine List.mem_append_left _ ((w.placed _).mpr ⟨x, by simpa [of.1] using hx, rfl, fun q up => ?_⟩)
        have ne : q ≠ r := by
          rintro rfl
          exact of.2 up
        simpa [ne] using passed q up
  case refine_3 =>
    refine List.nodup_append.mpr ⟨w.nodup, block_nodup g sub w.once 25 hr, fun n mem m mem' => ?_⟩
    rintro rfl
    obtain ⟨x, hx, en, passed⟩ := (w.placed _).mp mem
    obtain ⟨y, down, en'⟩ := mem_block 25 mem'
    obtain rfl := g.inj (old x hx) (Chain.mem sub hr down) (en.trans en'.symm)
    rcases down.above sub w.off_list hr with rfl | up
    · exact new hx
    · exact new (passed r up)
  case refine_4 =>
    intro q x hp mem
    rcases List.mem_append.mp mem with mem | mem
    · exact (w.led q x hp mem).append _
    · have down := (w.mem_block_iff g e hp.2.1).mp mem
      cases down with
      | refl =>
        have placed : q.number ∈ acc := by
          have passed := (w.chain_passed g e due .refl).2
          have drop : ∀ p, Above onList L p r → p ∈ done := fun p up => by
            have ne : p ≠ r := by
              rintro rfl
              exact lt_irrefl _ (up.rank_lt g)
            simpa [ne] using passed p up
          exact (w.placed _).mpr ⟨q, drop q (.single hp), rfl, fun p up => drop p (up.tail hp)⟩
        exact Precedes.of_mem placed _
      | @tail p _ up s =>
        obtain rfl := g.inj (Chain.mem sub hr up) hp.1 (Option.some.inj (s.2.symm.trans hp.2.2.1))
        obtain ⟨xs, zs, ys, eq, -⟩ := block_behind g sub s.1 25 hr (by omega) up s.2
        exact ⟨acc ++ (xs ++ p.number :: zs), ys, by rw [eq]; simp, by simp⟩
  case refine_5 =>
    intro x hx y hy nx ny p
    have px : ∀ {z}, z ∈ done → ¬Late onList L z → z.number ∈ acc := fun {z} hz nz => by
      obtain ⟨as, bs, split⟩ := List.append_of_mem hz
      have e' : L = as ++ z :: (bs ++ r :: rest) := by rw [e, split]; simp
      refine (w.placed _).mpr ⟨z, hz, rfl, fun q up => ?_⟩
      by_contra out
      exact nz ((late_iff g e').mpr ⟨q, up, fun h => out (split ▸ List.mem_append_left _ h)⟩)
    rcases List.mem_append.mp hy with hy | hy
    · have hx' : x ∈ done := by
        obtain ⟨as, bs, split⟩ := List.append_of_mem hy
        have e' : L = as ++ y :: (bs ++ r :: rest) := by rw [e, split]; simp
        exact split ▸ List.mem_append_left _ (p.mem_of_eq g.nodup e')
      exact (w.order x hx' y hy nx ny p).append _
    · rw [List.mem_singleton] at hy
      subst hy
      exact Precedes.of_mem (px ((precedes_split g.nodup e).mp p) nx) _
  case refine_6 =>
    intro q x hp late mem
    rcases List.mem_append.mp mem with mem | mem
    · obtain ⟨xs, zs, ys, rfl, between⟩ := w.behind q x hp late mem
      exact ⟨xs, zs, ys ++ block 25 aside r, by simp, between⟩
    · have down := (w.mem_block_iff g e hp.1).mp mem
      obtain ⟨hq, passed⟩ := w.chain_passed g e due down
      obtain ⟨top, above, later⟩ := late
      have htop : top ∈ done ++ [r] := by
        rcases above.of_parent g hp with rfl | above
        · exact hq
        · exact passed top above
      have hx : x ∈ done := by
        rcases List.mem_append.mp htop with h | h
        · obtain ⟨as, bs, split⟩ := List.append_of_mem h
          have e' : L = as ++ top :: (bs ++ r :: rest) := by rw [e, split]; simp
          exact split ▸ List.mem_append_left _ (later.mem_of_eq g.nodup e')
        · rw [List.mem_singleton] at h
          exact (precedes_split g.nodup e).mp (h ▸ later)
      obtain ⟨xs, zs, ys, eq, between⟩ :=
        block_behind g sub ((w.late x).mpr ⟨hx, top, above, later⟩) 25 hr (by omega) down hp.2.2.1
      refine ⟨acc ++ xs, zs, ys, by rw [eq]; simp, fun n hn => ?_⟩
      obtain ⟨p, hpA, en, c, hc, f, down'⟩ := between n hn
      have first : Parent onList L q c := ⟨hp.1, sub c hc, f, hp.2.2.2⟩
      refine ⟨p, en, ((w.late p).mp hpA).2, ?_⟩
      rcases down'.above sub w.off_list (sub c hc) with rfl | up
      · exact .single first
      · exact .head first up

/-- What the whole walk makes of the list. -/
theorem Walked.walk (g : Grove onList L rank) : ∀ (rest done aside : List Rec) (acc : List Nat), L = done ++ rest →
    Walked onList L done aside acc → ∃ aside', Walked onList L L aside' (walk onList rest aside acc) := by
  intro rest
  induction rest with
  | nil =>
    intro done aside acc e w
    rw [List.append_nil] at e
    exact ⟨aside, e ▸ w⟩
  | cons r rest ih =>
    intro done aside acc e w
    have e' : L = (done ++ [r]) ++ rest := by rw [e]; simp
    rw [walk_cons]
    by_cases late : Late onList L r
    · rw [if_neg (by rw [all_placed_iff g e w]; exact fun h => h late)]
      exact ih _ _ _ e' (w.wait g e late)
    · rw [if_pos ((all_placed_iff g e w).mpr late)]
      exact ih _ _ _ e' (w.place g e late)

end

end Sys2Proof.Machine
end

section
/-!
SUPPORT. The records that `eligibleRecs` finds are those of R130, the stable sort gives the order of R131, and the numbers that
`taken` gives are those of R130 and R131.
-/

namespace Sys2Proof.Machine

open Sys2Proof

theorem Precedes.of_sublist {α : Type} {l m : List α} {x y : α} (sub : l.Sublist m) (h : Precedes l x y) : Precedes m x y := by
  obtain ⟨xs, ys, rfl, hx⟩ := h
  obtain ⟨as, bs, rfl, has, hbs⟩ := List.append_sublist_iff.mp sub
  obtain ⟨cs, ds, rfl⟩ := List.append_of_mem (hbs.mem (List.mem_cons_self))
  exact ⟨as ++ cs, ds, by simp, List.mem_append_left _ (has.mem hx)⟩

theorem precedes_iff {α : Type} {l : List α} {x y : α} : Precedes l x y ↔ ∃ xs ys zs, l = xs ++ x :: ys ++ y :: zs := by
  constructor
  · rintro ⟨xs, zs, rfl, hx⟩
    obtain ⟨as, bs, rfl⟩ := List.append_of_mem hx
    exact ⟨as, bs, zs, rfl⟩
  · rintro ⟨xs, ys, zs, rfl⟩
    exact ⟨xs ++ x :: ys, zs, rfl, by simp⟩

/-- An initial part of a list that holds one element and, further on, another: it holds both, or it ends between them. -/
theorem take_behind {α : Type} {l as zs bs xs ys : List α} {x y : α} {k : Nat} (apart : l.Nodup)
    (whole : l = as ++ x :: zs ++ y :: bs) (cut : l.take k = xs ++ x :: ys) :
    (∃ rest, ys = zs ++ y :: rest) ∨ (l.take k).length = k ∧ ∃ more, zs = ys ++ more := by
  have split := List.take_append_drop k l
  rw [cut, List.append_assoc, List.cons_append] at split
  have whole' : l = as ++ x :: (zs ++ y :: bs) := by rw [whole]; simp
  have once : ∀ {us vs : List α}, l = us ++ x :: vs → x ∉ us ∧ x ∉ vs := fun {us vs} e => by
    rw [e, List.nodup_middle, List.nodup_cons, List.mem_append] at apart
    exact not_or.mp apart.1
  have same := List.append_cons_inj_of_notMem (once split.symm).1 (once split.symm).2 |>.mp (split.trans whole')
  obtain ⟨rfl, -, tail⟩ := same
  have full : (∃ z, z ∈ l.drop k) → (l.take k).length = k := fun ⟨z, hz⟩ => by
    have := List.length_pos_of_mem hz
    rw [List.length_drop] at this
    rw [List.length_take]
    omega
  rcases List.append_eq_append_iff.mp tail with ⟨more, rfl, drop⟩ | ⟨more, rfl, drop⟩
  · exact .inr ⟨full ⟨y, by simp [drop]⟩, more, rfl⟩
  · cases more with
    | nil => exact .inr ⟨full ⟨y, by simp [← show _ = l.drop k from drop]⟩, [], by simp⟩
    | cons z rest =>
      obtain ⟨rfl, -⟩ := List.cons.inj drop
      exact .inl ⟨rest, rfl⟩

/-! ### The stable sort -/

/-- The order of a stable sort: by the comparison, and by the place in the list where it does not tell. -/
def StableBefore {α : Type} (le : α → α → Bool) (l : List α) (x y : α) : Prop :=
  le x y = true ∧ (le y x = true → Precedes l x y)

section
variable {α : Type} {le : α → α → Bool} (total : ∀ x y, le x y = true ∨ le y x = true)
  (trans : ∀ {x y z}, le x y = true → le y z = true → le x z = true)
include total trans

theorem insertBy_pairwise {l : List α} {x : α} (acc : List α) (sorted : acc.Pairwise (StableBefore le l))
    (later : ∀ a ∈ acc, Precedes l a x) : (insertBy le x acc).Pairwise (StableBefore le l) := by
  induction acc with
  | nil => simp [insertBy]
  | cons y ys ih =>
    obtain ⟨first, sorted'⟩ := List.pairwise_cons.mp sorted
    unfold insertBy
    by_cases le_ : le y x = true
    · rw [if_pos le_, List.pairwise_cons]
      refine ⟨fun z hz => ?_, ih sorted' fun a ha => later a (List.mem_cons_of_mem _ ha)⟩
      rcases List.mem_cons.mp ((insertBy_perm le x ys).mem_iff.mp hz) with rfl | hz
      · exact ⟨le_, fun _ => later y (by simp)⟩
      · exact first z hz
    · rw [if_neg le_, List.pairwise_cons]
      have first_le := (total x y).resolve_right le_
      refine ⟨fun z hz => ?_, sorted⟩
      rcases List.mem_cons.mp hz with rfl | hz
      · exact ⟨first_le, fun h => absurd h le_⟩
      · have y_le := (first z hz).1
        exact ⟨trans first_le y_le, fun h => absurd (trans y_le h) le_⟩

theorem sortBy_pairwise (l : List α) : (sortBy le l).Pairwise (StableBefore le l) := by
  have sorted : ∀ (rest done acc : List α), l = done ++ rest → (∀ a ∈ acc, a ∈ done) → acc.Pairwise (StableBefore le l) →
      (rest.foldl (fun acc x => insertBy le x acc) acc).Pairwise (StableBefore le l) := by
    intro rest
    induction rest with
    | nil => exact fun _ _ _ _ h => h
    | cons x rest ih =>
      intro done acc e sub h
      refine ih (done ++ [x]) _ (by rw [e]; simp) (fun a ha => ?_) (insertBy_pairwise total trans acc h fun a ha => ?_)
      · rcases List.mem_cons.mp ((insertBy_perm le x acc).mem_iff.mp ha) with rfl | ha
        · simp
        · exact List.mem_append_left _ (sub a ha)
      · exact e ▸ Precedes.of_mem (sub a ha) rest
  exact sorted l [] [] rfl (by simp) .nil

end

theorem before_total (x y : Rec) : x.before y = true ∨ y.before x = true := by
  unfold Rec.before
  by_cases p : x.priority = y.priority
  · simp only [p, beq_self_eq_true, if_true, decide_eq_true_eq]
    omega
  · have p' : ¬y.priority = x.priority := Ne.symm p
    simp only [beq_iff_eq, p, p', if_false]
    cases hx : x.priority <;> cases hy : y.priority <;> simp_all

theorem before_trans {x y z : Rec} (h : x.before y = true) (h' : y.before z = true) : x.before z = true := by
  unfold Rec.before at *
  cases hx : x.priority <;> cases hy : y.priority <;> cases hz : z.priority <;> simp_all <;> omega

/-! ### The eligible records (R130) -/

section
variable {horizon : Int} {limit : Option Int} {onList : List Nat}

theorem eligibleRecs_concat (xs : List Rec) (r : Rec) : eligibleRecs horizon limit onList (xs ++ [r]) =
    if r.takeable horizon limit &&
        (r.follows.all fun f => onList.contains f || (eligibleRecs horizon limit onList xs).any fun q => q.number == f) then
      eligibleRecs horizon limit onList xs ++ [r]
    else eligibleRecs horizon limit onList xs := by
  unfold eligibleRecs
  rw [List.foldl_append]
  rfl

theorem eligibleRecs_mono (xs ys : List Rec) {r : Rec} (h : r ∈ eligibleRecs horizon limit onList xs) :
    r ∈ eligibleRecs horizon limit onList (xs ++ ys) := by
  induction ys using List.reverseRecOn with
  | nil => simpa using h
  | append_singleton ys y ih =>
    rw [← List.append_assoc, eligibleRecs_concat]
    split
    · exact List.mem_append_left _ ih
    · exact ih

end

theorem takeable_iff {s : State} {limit : Option Int} {r : Rec} (mem : r ∈ s.book.records) :
    r.takeable ((s.clock : Int) + s.items.channel.gatherWindow) limit = true ↔ Ready s limit r := by
  have angle : (r.required.needsOpening = true ∧ (limit.all fun a => !r.required.above a) = true) ↔
      ∃ a, r.required = .angle a ∧ 0 < a ∧ ∀ t, limit = some t → a ≤ t := by
    cases r.required <;> cases limit <;> simp [Required.needsOpening, Required.above]
  have window : (r.notBefore.all fun t => decide ((t : Int) ≤ (s.clock : Int) + s.items.channel.gatherWindow)) = true ↔
      ∀ t, r.notBefore = some t → (t : Int) ≤ s.clock + s.items.channel.gatherWindow := by
    cases r.notBefore <;> simp
  unfold Rec.takeable Ready
  rw [← angle, ← window]
  simp only [Bool.and_eq_true, beq_iff_eq, mem, true_and]
  constructor
  · rintro ⟨⟨⟨booked, needs⟩, window⟩, below⟩
    exact ⟨booked, ⟨needs, below⟩, window⟩
  · rintro ⟨booked, ⟨needs, below⟩, window⟩
    exact ⟨⟨⟨booked, needs⟩, window⟩, below⟩

theorem Eligible.ready {s : State} {limit : Option Int} {r : Rec} (h : Eligible s limit r) : Ready s limit r := by
  cases h with
  | free _ ready _ => exact ready
  | led _ _ ready _ _ => exact ready

namespace State

/-- A record that follows another of the book stands after it. -/
theorem FollowsEarlier.before {s : State} (numbered : s.BookNumbered) (earlier : s.FollowsEarlier) {q : Rec}
    (hq : q ∈ s.book.records) {xs ys : List Rec} {r : Rec} (e : s.book.records = xs ++ r :: ys) (live : r.live = true)
    (f : r.follows = some q.number) : q ∈ xs := by
  obtain ⟨p, hp, number, -, -⟩ := earlier xs r ys e live _ f
  have inBook : p ∈ s.book.records := e ▸ List.mem_append_left _ hp
  exact List.inj_on_of_nodup_map numbered.2.1 inBook hq number ▸ hp

/-- The eligible records, in book order. -/
def eligible (s : State) (limit : Option Int) : List Rec :=
  eligibleRecs ((s.clock : Int) + s.items.channel.gatherWindow) limit s.opening.group s.book.records

theorem live_of_booked {r : Rec} (h : r.state = .booked) : r.live = true := by
  simp [Rec.live, h]

theorem mem_eligible_iff {s : State} (numbered : s.BookNumbered) (earlier : s.FollowsEarlier) (limit : Option Int) (r : Rec) :
    r ∈ s.eligible limit ↔ Eligible s limit r := by
  constructor
  · have found : ∀ xs : List Rec, (∀ x ∈ xs, x ∈ s.book.records) → ∀ r ∈ eligibleRecs
        ((s.clock : Int) + s.items.channel.gatherWindow) limit s.opening.group xs, Eligible s limit r := by
      intro xs
      induction xs using List.reverseRecOn with
      | nil => intro _ r hr; exact absurd hr List.not_mem_nil
      | append_singleton xs x ih =>
        intro sub
        have old := ih fun y hy => sub y (List.mem_append_left _ hy)
        rw [eligibleRecs_concat]
        split
        next takes =>
          intro r hr
          rcases List.mem_append.mp hr with hr | hr
          · exact old r hr
          · rw [List.mem_singleton] at hr
            subst hr
            rw [Bool.and_eq_true] at takes
            have ready := (takeable_iff (sub r (by simp))).mp takes.1
            cases f : r.follows with
            | none => exact .free r ready (by simp [f])
            | some n =>
              have led := takes.2
              rw [f] at led
              simp only [Option.all_some, Bool.or_eq_true, List.contains_iff_mem, List.any_eq_true, beq_iff_eq] at led
              rcases led with on | ⟨q, hq, number⟩
              · exact .free r ready fun m e => Option.some.inj (f.symm.trans e) ▸ on
              · exact .led q r ready (old q hq) (number ▸ f)
        next => exact old
    exact found s.book.records (fun _ h => h) r
  · intro h
    have placed : ∀ xs ys, s.book.records = xs ++ r :: ys → r ∈ eligibleRecs
        ((s.clock : Int) + s.items.channel.gatherWindow) limit s.opening.group (xs ++ [r]) := by
      induction h with
      | free r ready on =>
        intro xs ys e
        have follows : (r.follows.all fun f => s.opening.group.contains f || (eligibleRecs
            ((s.clock : Int) + s.items.channel.gatherWindow) limit s.opening.group xs).any fun q => q.number == f) = true := by
          cases f : r.follows with
          | none => rfl
          | some n => simp [on n f]
        rw [eligibleRecs_concat, if_pos (by rw [(takeable_iff ready.1).mpr ready, follows]; rfl)]
        simp
      | led q r ready led f ih =>
        intro xs ys e
        have before := earlier.before numbered led.ready.1 e (live_of_booked ready.2.1) f
        obtain ⟨as, bs, rfl⟩ := List.append_of_mem before
        have hq := eligibleRecs_mono (as ++ [q]) bs (ih as (bs ++ r :: ys) (by rw [e]; simp))
        rw [List.append_assoc, List.singleton_append] at hq
        have follows : (r.follows.all fun f => s.opening.group.contains f || (eligibleRecs
            ((s.clock : Int) + s.items.channel.gatherWindow) limit s.opening.group (as ++ q :: bs)).any
              fun q => q.number == f) = true := by
          rw [f]
          simp only [Option.all_some, Bool.or_eq_true, List.any_eq_true, beq_iff_eq]
          exact .inr ⟨q, hq, rfl⟩
        rw [eligibleRecs_concat, if_pos (by rw [(takeable_iff ready.1).mpr ready, follows]; rfl)]
        simp
    obtain ⟨xs, ys, e⟩ := List.append_of_mem h.ready.1
    have whole := eligibleRecs_mono (xs ++ [r]) ys (placed xs ys e)
    rw [List.append_assoc, List.singleton_append, ← e] at whole
    exact whole

/-! ### Grouping order (R131) -/

/-- The eligible records, in grouping order. -/
def inOrder (s : State) (limit : Option Int) : List Rec := sortBy Rec.before (s.eligible limit)

theorem mem_inOrder_iff {s : State} (numbered : s.BookNumbered) (earlier : s.FollowsEarlier) {limit : Option Int} {r : Rec} :
    r ∈ s.inOrder limit ↔ Eligible s limit r :=
  (sortBy_perm _ _).mem_iff.trans (mem_eligible_iff numbered earlier limit r)

theorem eligible_sublist (s : State) (limit : Option Int) : (s.eligible limit).Sublist s.book.records :=
  (eligibleRecs_sublist _ _ _ _).trans List.filter_sublist

theorem inOrder_numbers {s : State} (numbered : s.BookNumbered) (limit : Option Int) :
    ((s.inOrder limit).map Rec.number).Nodup :=
  (((sortBy_perm _ _).map _).nodup_iff).mpr (numbered.2.1.sublist ((s.eligible_sublist limit).map _))

/-- The place of a record in the book. -/
def place (s : State) (r : Rec) : Nat := (s.book.records.map Rec.number).idxOf r.number

theorem place_of_split {s : State} (numbered : s.BookNumbered) {xs ys : List Rec} {r : Rec}
    (e : s.book.records = xs ++ r :: ys) : s.place r = xs.length := by
  obtain ⟨-, apart, -⟩ := numbered
  unfold place
  rw [e, List.map_append, List.map_cons] at apart ⊢
  have new : r.number ∉ xs.map Rec.number := fun mem => (List.nodup_append.mp apart).2.2 _ mem r.number (by simp) rfl
  rw [List.idxOf_append_of_notMem new]
  simp

/-- The records in grouping order are a list that the walk can work on. -/
theorem inOrder_grove {s : State} (numbered : s.BookNumbered) (earlier : s.FollowsEarlier) (limit : Option Int) :
    Grove s.opening.group (s.inOrder limit) s.place where
  apart := inOrder_numbers numbered limit
  led := by
    intro r hr n f off
    cases (mem_inOrder_iff numbered earlier).mp hr with
    | free _ _ on => exact absurd (on n f) off
    | led q _ _ taken f' =>
      exact ⟨q, (mem_inOrder_iff numbered earlier).mpr taken, (Option.some.inj (f.symm.trans f')).symm⟩
  earlier := by
    intro q hq r hr f
    have readyq := ((mem_inOrder_iff numbered earlier).mp hq).ready
    have readyr := ((mem_inOrder_iff numbered earlier).mp hr).ready
    obtain ⟨xs, ys, e⟩ := List.append_of_mem readyr.1
    obtain ⟨as, bs, rfl⟩ := List.append_of_mem (earlier.before numbered readyq.1 e (live_of_booked readyr.2.1) f)
    rw [place_of_split numbered e, place_of_split numbered (xs := as) (ys := bs ++ r :: ys) (by rw [e]; simp)]
    simp
  few := by
    intro r hr
    have ready := ((mem_inOrder_iff numbered earlier).mp hr).ready
    obtain ⟨xs, ys, e⟩ := List.append_of_mem ready.1
    have few := numbered.1
    rw [place_of_split numbered e]
    rw [e] at few
    simp at few
    omega

theorem groupsBefore_asymm {s : State} (numbered : s.BookNumbered) {x y : Rec} (h : GroupsBefore s x y) :
    ¬GroupsBefore s y x := by
  have apart : s.book.records.Nodup := numbered.2.1.of_map _
  unfold GroupsBefore at *
  simp only [← precedes_iff] at *
  rcases h with ⟨u, r⟩ | ⟨p, lt | ⟨eq, before⟩⟩
  · simp [u, r]
  · simp only [p]
    rintro (⟨u, r⟩ | ⟨-, gt | ⟨eq, -⟩⟩)
    · exact nomatch u.symm.trans r
    · omega
    · omega
  · simp only [p]
    rintro (⟨u, r⟩ | ⟨-, gt | ⟨-, before'⟩⟩)
    · exact nomatch u.symm.trans r
    · omega
    · exact before.asymm apart before'

/-- The list in grouping order is in the order of R131. -/
theorem inOrder_precedes {s : State} {limit : Option Int} {x y : Rec} (p : Precedes (s.inOrder limit) x y) :
    GroupsBefore s x y := by
  obtain ⟨le, stable⟩ := pairwise_iff_precedes (sortBy_pairwise before_total before_trans (s.eligible limit)) p
  have book : y.before x = true → ∃ xs ys zs, s.book.records = xs ++ x :: ys ++ y :: zs := fun h =>
    precedes_iff.mp ((stable h).of_sublist (s.eligible_sublist limit))
  unfold Rec.before at le book
  unfold GroupsBefore
  by_cases p : x.priority = y.priority
  · right
    simp only [p, beq_self_eq_true, if_true, decide_eq_true_eq] at le book
    refine ⟨p, ?_⟩
    rcases Nat.lt_or_eq_of_le le with lt | eq
    · exact .inl lt
    · exact .inr ⟨eq, book eq.ge⟩
  · left
    simp only [beq_iff_eq, p, if_false] at le
    refine ⟨le, ?_⟩
    cases hy : y.priority with
    | urgent => exact absurd (le.trans hy.symm) p
    | routine => rfl

theorem precedes_inOrder_iff {s : State} (numbered : s.BookNumbered) {limit : Option Int} {x y : Rec}
    (hx : x ∈ s.inOrder limit) (hy : y ∈ s.inOrder limit) : Precedes (s.inOrder limit) x y ↔ GroupsBefore s x y := by
  refine ⟨inOrder_precedes, fun before => ?_⟩
  have ne : x ≠ y := by
    rintro rfl
    exact groupsBefore_asymm numbered before before
  rcases Precedes.total hx hy ne with h | h
  · exact h
  · exact absurd (inOrder_precedes h) (groupsBefore_asymm numbered before)

theorem leads_iff {s : State} (numbered : s.BookNumbered) (earlier : s.FollowsEarlier) {limit : Option Int} {q r : Rec} :
    Leads s limit q r ↔ Above s.opening.group (s.inOrder limit) q r := by
  have mem := @mem_inOrder_iff s numbered earlier limit
  constructor
  · intro h
    induction h with
    | next q r lead eligible f off => exact .single ⟨mem.mpr lead, mem.mpr eligible, f, off⟩
    | far p q r _ _ up down => exact up.trans down
  · intro h
    induction h with
    | single p => exact .next _ _ (mem.mp p.1) (mem.mp p.2.1) p.2.2.1 p.2.2.2
    | tail _ p up => exact .far _ _ _ up (.next _ _ (mem.mp p.1) (mem.mp p.2.1) p.2.2.1 p.2.2.2)

theorem setAside_iff {s : State} (numbered : s.BookNumbered) (earlier : s.FollowsEarlier) {limit : Option Int} {r : Rec} :
    SetAside s limit r ↔ Late s.opening.group (s.inOrder limit) r := by
  unfold SetAside Late
  refine exists_congr fun q => ?_
  rw [leads_iff numbered earlier]
  exact and_congr_right fun up => (precedes_inOrder_iff numbered up.right_mem up.left_mem).symm

/-! ### The numbers taken (R130, R131) -/

/-- The numbers taken are the first of those that the walk with room for all places. -/
theorem taken_eq {s : State} (numbered : s.BookNumbered) (earlier : s.FollowsEarlier) (limit : Option Int) :
    ∃ aside acc, Walked s.opening.group (s.inOrder limit) (s.inOrder limit) aside acc ∧
      s.taken limit = acc.take (6 - s.opening.group.length) := by
  obtain ⟨aside, walked⟩ := Walked.walk (inOrder_grove numbered earlier limit) (s.inOrder limit) [] [] [] rfl walked_start
  have placed := placeAll_eq (6 - s.opening.group.length) s.opening.group (s.inOrder limit) [] [] walked.nodup
  rw [List.take_nil] at placed
  exact ⟨aside, _, walked, placed⟩

theorem taken_taken {s : State} (numbered : s.BookNumbered) (earlier : s.FollowsEarlier) {limit : Option Int}
    (room : s.opening.group.length < 6) (some_ : ∃ r, Eligible s limit r) : Taken s limit (s.taken limit) := by
  obtain ⟨aside, acc, w, e⟩ := taken_eq numbered earlier limit
  have mem := @mem_inOrder_iff s numbered earlier limit
  have leads := fun {q r} => @leads_iff s numbered earlier limit q r
  have late := fun {r} => @setAside_iff s numbered earlier limit r
  have all : ∀ {r}, Eligible s limit r → r.number ∈ acc := fun {r} h =>
    (w.placed _).mpr ⟨r, mem.mpr h, rfl, fun q up => up.left_mem⟩
  have len : (s.taken limit).length = min (6 - s.opening.group.length) acc.length := by rw [e, List.length_take]
  have whole : s.opening.group.length + (s.taken limit).length < 6 → s.taken limit = acc := fun lt => by
    rw [e, List.take_of_length_le (by omega)]
  have within : ∀ {n}, n ∈ s.taken limit → n ∈ acc := fun h => List.mem_of_mem_take (e ▸ h)
  have first : ∀ {m n}, Precedes acc m n → n ∈ s.taken limit → ∃ xs ys, s.taken limit = xs ++ n :: ys ∧ m ∈ xs :=
    fun p h => by
      rw [e] at h ⊢
      exact p.take w.nodup h
  refine ⟨?_, ?_, by omega, fun n hn => ?_, fun lt r h => whole lt ▸ all h, ?_, ?_, ?_⟩
  · obtain ⟨r, h⟩ := some_
    have pos := List.length_pos_of_mem (all h)
    intro none_
    rw [none_, List.length_nil] at len
    omega
  · rw [e]
    exact w.nodup.sublist (List.take_sublist _ _)
  · obtain ⟨x, hx, en, -⟩ := (w.placed n).mp (within hn)
    exact ⟨x, mem.mp hx, en⟩
  · intro q r up hr
    exact first (w.led_above (leads.mp up) (within hr)) hr
  · intro q r hq hr nq nr before hn
    exact first (w.order q (mem.mpr hq) r (mem.mpr hr) (fun h => nq (late.mpr h)) (fun h => nr (late.mpr h))
      ((precedes_inOrder_iff numbered (mem.mpr hq) (mem.mpr hr)).mpr before)) hn
  · intro q r xs ys aside up f split
    have parent : Parent s.opening.group (s.inOrder limit) q r := by
      have up := leads.mp up
      obtain ⟨p, hp⟩ : ∃ p, Parent s.opening.group (s.inOrder limit) p r := by
        cases up with
        | single hp => exact ⟨q, hp⟩
        | tail _ hp => exact ⟨_, hp⟩
      refine ⟨up.left_mem, hp.2.1, f, ?_⟩
      rw [Option.some.inj (f.symm.trans hp.2.2.1)]
      exact hp.2.2.2
    obtain ⟨as, zs, bs, whole, between⟩ := w.behind q r parent (late.mp aside) (within (split ▸ by simp))
    have named : ∀ n ∈ zs, ∃ p, p.number = n ∧ SetAside s limit p ∧ Leads s limit q p := fun n hn =>
      have ⟨p, en, l, above⟩ := between n hn
      ⟨p, en, late.mpr l, leads.mpr above⟩
    rcases take_behind w.nodup whole (e ▸ split) with ⟨rest, rfl⟩ | ⟨full, more, rfl⟩
    · exact ⟨zs, .inr ⟨rest, rfl⟩, fun h => absurd h (by simp), named⟩
    · rw [← e] at full
      exact ⟨ys, .inl rfl, fun _ => by omega, fun n hn => named n (List.mem_append_left _ hn)⟩

end State

end Sys2Proof.Machine
end

section
/-!
SUPPORT. The examination for joins does what R139 says.
-/

namespace Sys2Proof.Machine.State

open Sys2Proof

theorem taken_eq_nil {s : State} (numbered : s.BookNumbered) (earlier : s.FollowsEarlier) {limit : Option Int}
    (h : s.opening.group.length < 6 → ¬∃ r, Eligible s limit r) : s.taken limit = [] := by
  obtain ⟨aside, acc, w, e⟩ := taken_eq numbered earlier limit
  rw [e]
  by_cases room : s.opening.group.length < 6
  · have none_ : acc = [] := List.eq_nil_iff_forall_not_mem.mpr fun n hn => by
      obtain ⟨x, hx, -⟩ := (w.placed n).mp hn
      exact h room ⟨x, (mem_inOrder_iff numbered earlier).mp hx⟩
    rw [none_, List.take_nil]
  · rw [Nat.sub_eq_zero_of_le (Nat.le_of_not_lt room), List.take_zero]

theorem groupThem_eq (s : State) (ns : List Nat) : s.groupThem ns = { s with
    book := { s.book with
      records := s.book.records.map fun r => if r.number ∈ ns then { r with state := .grouped, changed := true } else r },
    opening := { s.opening with group := s.opening.group ++ ns } } := by
  have book : (s.groupThem ns).book = { s.book with
      records := s.book.records.map fun r => if r.number ∈ ns then { r with state := .grouped, changed := true } else r } := by
    rw [← groupThem_records]
    exact congrArg (Book.mk _) (groupThem_counter s ns)
  rw [groupThem_frame, book]

theorem joinPhase_iff (s : State) : s.joinPhase = true ↔
    s.opening.phase = .pending ∨ s.opening.phase = .closingRoad ∨ s.opening.phase = .unlocking ∨ s.opening.phase = .raising ∨
      s.opening.phase = .heldOpen := by
  unfold joinPhase
  cases s.opening.phase <;> simp

theorem examineJoins_joins {s : State} (numbered : s.BookNumbered) (earlier : s.FollowsEarlier) : Joins s s.examineJoins := by
  have asked : (s.role != .follow && s.joinPhase && !s.opening.closeRequested) = true ↔ s.role ≠ .follow ∧
      (s.opening.phase = .pending ∨ s.opening.phase = .closingRoad ∨ s.opening.phase = .unlocking ∨
        s.opening.phase = .raising ∨ s.opening.phase = .heldOpen) ∧ s.opening.closeRequested = false := by
    simp only [Bool.and_eq_true, joinPhase_iff, bne_iff_ne, Bool.not_eq_true', and_assoc]
  unfold Joins
  dsimp only
  generalize limit : (if s.opening.frozen = true then s.opening.target else none) = bound
  constructor
  · intro not_
    unfold examineJoins
    rw [limit]
    by_cases h : (s.role != .follow && s.joinPhase && !s.opening.closeRequested) = true
    · obtain ⟨role, phase, close⟩ := asked.mp h
      rw [if_pos h, taken_eq_nil numbered earlier fun room some_ => not_ ⟨role, phase, close, room, some_⟩]
      rfl
    · rw [if_neg h]
  · rintro ⟨role, phase, close, room, some_⟩
    have takes := taken_taken numbered earlier room some_
    have is : s.examineJoins =
        ((s.groupThem (s.taken bound)).recomputeTarget.modOpening fun o => { o with linger := .stopped }) := by
      unfold examineJoins
      rw [if_pos (asked.mpr ⟨role, phase, close⟩), limit]
      dsimp only
      rw [if_neg (by rw [List.isEmpty_iff]; exact takes.1)]
    have target := recomputeTarget_target (s.groupThem (s.taken bound))
    have opening := groupThem_opening s (s.taken bound)
    have open_ : (s.groupThem (s.taken bound)).targetOpen = true ↔ TargetOpen s := by
      rw [targetOpen_iff, groupThem_frame]
      exact and_iff_right role
    have result : s.examineJoins.opening.target = (s.groupThem (s.taken bound)).recomputeTarget.opening.target := by rw [is]; rfl
    refine ⟨s.taken bound, takes, ?_, fun shut => ?_, fun still => ?_⟩
    · rw [result, is, recomputeTarget_frame, groupThem_eq]
      rfl
    · rw [result, target, if_neg (mt open_.mp shut), opening]
    · rw [result, target, if_pos (open_.mpr still)]
      refine ⟨_, rfl, TargetIs.congr (targetFor_is _) ?_ ?_ ?_⟩ <;> rw [is, recomputeTarget_frame] <;> rfl

end Sys2Proof.Machine.State
end

section
/-!
PROOFS. The span clock with its window, the flash clock, and the five lines with their faults (R5, R33, R58, R93, R130, R139).
-/

namespace Sys2Proof.Machine

open Sys2Proof

namespace State

/-! ### What a round leaves of its report (R168, R173) -/

theorem permitStage_faults (s : State) : s.permitStage.faults = s.faults := by rw [permitStage_frame]

theorem angleStage_faults (s : State) : s.angleStage.faults = s.faults := by rw [angleStage_frame]

theorem tryCommand_faults (s : State) : s.tryCommand.faults = s.faults := by
  have frame := tryCommand_frame s
  unfold SameButCommand at frame
  rw [frame]

theorem seatLockStage_faults (s : State) : s.seatLockStage.faults = s.faults := by rw [seatLockStage_frame]

theorem outputs_faults (s : State) : s.outputs.faults = s.faults :=
  (haltCore_eq_iff.mp (show s.aspectStage.lampStage.haltCore = s.haltCore by simp)).1

/-- What follows the report in a round leaves the fault unit. -/
theorem round_faults (s : State) : s.round.faults = s.reportAll.faults := by
  have late : s.react.faults = s.reportAll.permitStage.angleStage.endSuspension.tryCommand.seatLockStage.faults :=
    (haltCore_eq_iff.mp (by simp [react])).1
  have suspension : ∀ t : State, t.endSuspension.faults = t.faults := fun t => (haltCore_eq_iff.mp (endSuspension_haltCore t)).1
  unfold round
  rw [outputs_faults, late, seatLockStage_faults, tryCommand_faults, suspension, angleStage_faults, permitStage_faults]

/-- A HALT latch found or set by a report halts the span (R173). -/
theorem reportAll_halts {s : State} {f : FaultId} (cls : f.cls = .halt) (latched : s.reportAll.latched f = true) :
    s.reportAll.faults.halted = true := by
  have latched : ({ s with faults := { s.faults with recs := s.reportedRecs } } : State).latched f = true := by
    rw [State.latched, reportAll_fault] at latched
    rw [State.latched, ← latched]
    exact congrArg FaultRec.latch (by cases f <;> rfl)
  unfold reportAll
  dsimp only
  split
  next halted => exact halted
  next =>
    split
    · exact enterHalt_halted _ _
    next none_ => exact absurd latched (by simpa using List.find?_eq_none.mp none_ f (mem_haltFaults cls))

/-- A fault whose condition depends on what the reactions leave shows it once an event has settled (R168). -/
theorem settle_cond {s : State} {f : FaultId} {c : Bool} (mask : (s.fault f).mask = false)
    (cause : ∀ t : State, t.kept = s.kept → t.cause f = c) : (s.settle.fault f).cond = c := by
  have kept : (rounds 7 s).kept = s.kept := rounds_kept 7 s
  have fault : s.settle.fault f = (rounds 7 s).reported f := by
    rw [settle_round, State.fault, round_faults, ← State.fault, reportAll_fault]
  rw [fault, reported, cause _ kept, fault_mask_of_kept (congrArg Kept.masks kept) f, mask]
  simp

/-- A HALT fault whose cause stands when an event has made its own change is latched, and the span is halted (R168, R173). -/
theorem settle_halts_of_cause {s : State} {f : FaultId} (right : s.FaultsRight) (cls : f.cls = .halt)
    (cause : s.cause f = true) : s.settle.latched f = true ∧ s.settle.faults.halted = true := by
  have latched := round_latched_of_cause right (right.unmasked (by simp [cls])) cause
  refine ⟨(rounds_haltStays 7 s.round).latched f latched, ((rounds_haltStays 7 s.round).entry ?_).1⟩
  rw [round_faults]
  refine reportAll_halts cls ?_
  rw [State.latched, State.fault, round_faults] at latched
  exact latched

end State

theorem exec_clocks (s : State) : exec .spanClockTick s = .next (
    let now := (((s.wake.clock + 1) % 4294967296 : Nat) : Int) + s.wake.items.channel.gatherWindow
    let v : State := { s.wake with clock := (s.wake.clock + 1) % 4294967296, horizon := now }
    if s.wake.entersWindow now then v.examineJoins else v).settle ∧
    exec .flashClockTick s = .next ({ s.wake with flashOn := !s.wake.flashOn }).settle := ⟨rfl, rfl⟩

theorem exec_lines (s : State) (on : Bool) :
    exec (.driveReadyChange on) s = .next (s.wake.modLines fun l => { l with driveReady := on }).settle ∧
    exec (.driveFaultChange on) s = .next (s.wake.modLines fun l => { l with driveFault := on }).settle ∧
    exec (.emergencyStopChange on) s = .next (s.wake.modLines fun l => { l with emergencyStop := on }).settle ∧
    exec (.openLimitChange on) s = .next (s.wake.modLines fun l => { l with openLimit := on }).settle ∧
    exec (.keyChange on) s = .next (s.wake.modLines fun l => { l with key := some on }).settle :=
  ⟨rfl, rfl, rfl, rfl, rfl⟩

namespace State

/-- The lines stand still in every reaction. -/
theorem settle_lines_cond {s : State} {F : Lines → Lines} {f : FaultId} {c : Bool} (right : s.FaultsRight)
    (cls : f.cls ≠ .warning) (cause : ∀ t : State, t.lines = F s.lines → t.cause f = c) :
    ((s.wake.modLines F).settle.fault f).cond = c := by
  have mask : ((s.wake.modLines F).fault f).mask = false := (wake_mask s f).trans (right.unmasked cls)
  exact settle_cond mask fun t kept => cause t ((congrArg Kept.lines kept).trans (congrArg F s.wake_lines))

theorem settle_modLines_kept (s : State) (F : Lines → Lines) :
    (s.wake.modLines F).settle.kept = { s.kept with lines := F s.lines } := by
  rw [settle_kept, ← s.wake_kept, ← s.wake_lines]
  rfl

theorem wake_modLines_faultsRight {s : State} (right : s.FaultsRight) (F : Lines → Lines) : (s.wake.modLines F).FaultsRight :=
  (faultsRight_promise.wake right).congr rfl

end State

/-- The window test of a clock step. -/
theorem State.entersWindow_iff (s : State) (now : Int) : s.entersWindow now = true ↔
    ∃ r ∈ s.book.records, r.state = .booked ∧ ∃ t, r.notBefore = some t ∧ s.horizon < t ∧ (t : Int) ≤ now := by
  unfold State.entersWindow
  simp only [List.any_eq_true, Bool.and_eq_true, beq_iff_eq]
  refine exists_congr fun r => and_congr_right fun _ => and_congr_right fun _ => ?_
  cases r.notBefore <;> simp
  omega

/-- Settles O17: the clock and the window at each step, and each line with the fault that follows it. -/
theorem clocksAndLines : Obligations.ClocksAndLines := by
  refine ⟨fun s low => ?_, fun s => ⟨_, (exec_clocks s).2, ?_⟩, fun s on => ?_⟩
  · intro now reach v enters
    have clock : (s.wake.clock + 1) % 4294967296 = now := by
      show _ = if s.clock = 4294967295 then 0 else s.clock + 1
      rw [State.wake_clock]
      split <;> omega
    have run : exec .spanClockTick s =
        .next (if s.wake.entersWindow reach then v.examineJoins else v).settle := by
      rw [(exec_clocks s).1, clock, State.wake_items]
    have window : s.wake.entersWindow reach = true ↔ enters := by
      rw [State.entersWindow_iff, State.wake_horizon]
    refine ⟨_, run, fun out => if_neg (mt window.mp out), fun inside ⟨numbered, earlier, _⟩ => ?_⟩
    rw [if_pos (window.mpr inside)]
    exact State.examineJoins_joins numbered earlier
  · rw [State.settle_kept, ← s.wake_kept, ← s.wake_flashOn]
    rfl
  · obtain ⟨ready, fault, stop, limit, key⟩ := exec_lines s on
    refine ⟨⟨_, ready, s.settle_modLines_kept _, fun right => ⟨?_, fun off => ?_⟩⟩,
      ⟨_, fault, s.settle_modLines_kept _, fun right => ⟨?_, fun active => ?_⟩⟩,
      ⟨_, stop, s.settle_modLines_kept _, fun right => ⟨?_, fun active => ?_⟩⟩,
      ⟨_, limit, s.settle_modLines_kept _, fun right active up => ?_⟩, ⟨_, key, s.settle_modLines_kept _⟩⟩
    · exact State.settle_lines_cond right (by decide) fun t lines => congrArg (fun l : Lines => !l.driveReady) lines
    · subst off
      exact State.settle_latched_of_cause (State.wake_modLines_faultsRight right _)
        ((s.wake_mask _).trans (right.unmasked (by decide))) rfl
    · exact State.settle_lines_cond right (by decide) fun t lines => congrArg Lines.driveFault lines
    · subst active
      exact State.settle_halts_of_cause (State.wake_modLines_faultsRight right _) rfl rfl
    · exact State.settle_lines_cond right (by decide) fun t lines => congrArg Lines.emergencyStop lines
    · subst active
      exact State.settle_halts_of_cause (State.wake_modLines_faultsRight right _) rfl rfl
    · subst active
      refine State.settle_halts_of_cause (State.wake_modLines_faultsRight right _) rfl (Bool.or_eq_true_iff.mpr (.inr ?_))
      have speed : (s.wake.modLines fun l => { l with openLimit := true }).speed = s.speed := s.wake_speed
      rw [speed]
      simpa using up

end Sys2Proof.Machine
end

section
/-!
PROOFS. BOOK: its refusals, the place in the book, and the joins (R4, R7, R8, R139).
-/

namespace Sys2Proof.Machine

open Sys2Proof

namespace State

theorem wake_numbers (s : State) : s.wake.book.records.map (·.number) = s.book.records.map (·.number) := s.asked_numbers

theorem wake_bookNumbered {s : State} (h : s.BookNumbered) : s.wake.BookNumbered := by
  obtain ⟨few, apart, range, low, high⟩ := h
  have length : s.wake.book.records.length = s.book.records.length := by
    simpa only [List.length_map] using congrArg List.length s.wake_numbers
  have counter : s.wake.book.counter = s.book.counter := congrArg Kept.counter s.wake_kept
  refine ⟨length.trans_le few, s.wake_numbers ▸ apart, fun r hr => ?_, counter ▸ low, counter ▸ high⟩
  have mem : r.number ∈ s.book.records.map (·.number) := s.wake_numbers ▸ List.mem_map_of_mem hr
  obtain ⟨q, hq, same⟩ := List.mem_map.mp mem
  exact same ▸ range q hq

theorem asked_bookNumbered {s : State} (h : s.BookNumbered) : s.asked.BookNumbered := wake_bookNumbered h

/-! ### The checks of R7 -/

/-- The direction that a BOOK of good codes names. -/
def bookedDir (dir : Nat) : Dir := if dir = 0 then .inbound else .outbound

/-- The priority that a BOOK of good codes names. -/
def bookedPriority (priority : Nat) : Priority := if priority = 0 then .routine else .urgent

theorem ofCode?_bookedDir {dir : Nat} (h : dir ≤ 1) : Dir.ofCode? dir = some (bookedDir dir) := by
  interval_cases dir <;> rfl

theorem ofCode?_bookedPriority {priority : Nat} (h : priority ≤ 1) : Priority.ofCode? priority = some (bookedPriority priority) := by
  interval_cases priority <;> rfl

theorem dir_ofCode?_none {dir : Nat} (h : 1 < dir) : Dir.ofCode? dir = none := by
  obtain ⟨k, rfl⟩ : ∃ k, dir = k + 2 := ⟨dir - 2, by omega⟩
  rfl

theorem priority_ofCode?_none {priority : Nat} (h : 1 < priority) : Priority.ofCode? priority = none := by
  obtain ⟨k, rfl⟩ : ∃ k, priority = k + 2 := ⟨priority - 2, by omega⟩
  rfl

theorem bookedDir_eq_iff {dir : Nat} (h : dir ≤ 1) (d : Dir) : d = bookedDir dir ↔ d.code = dir := by
  interval_cases dir <;> cases d <;> simp [bookedDir, Dir.code]

section
variable {s : State} {vessel dir : Nat} {draft : Int} {priority : Nat} {nb : NotBeforeParam} {follows : Nat}

theorem judgeBooking_unformed (lead : s.role ≠ .follow) (configured : (s.fault .unconfigured).cond = false)
    (bad : ¬(100 ≤ draft ∧ draft ≤ 6000 ∧ nb.flag ≤ 1 ∧ dir ≤ 1 ∧ priority ≤ 1)) :
    s.judgeBooking vessel dir draft priority nb follows = .error .badValue := by
  unfold judgeBooking
  rw [if_neg (by simpa using lead), if_neg (by simp [configured])]
  split
  next d p inRange isDir isPriority =>
    refine absurd ?_ bad
    have low : dir ≤ 1 := by
      by_contra h
      rw [dir_ofCode?_none (by omega)] at isDir
      cases isDir
    have low' : priority ≤ 1 := by
      by_contra h
      rw [priority_ofCode?_none (by omega)] at isPriority
      cases isPriority
    simp only [draftInRange, Bool.and_eq_true, decide_eq_true_eq] at inRange
    obtain ⟨⟨least, most⟩, flag⟩ := inRange
    exact ⟨least, most, flag, low, low'⟩
  next => rfl

/-- The checks of R7 after those of the codes. -/
theorem judgeBooking_formed (lead : s.role ≠ .follow) (configured : (s.fault .unconfigured).cond = false)
    (formed : 100 ≤ draft ∧ draft ≤ 6000 ∧ nb.flag ≤ 1 ∧ dir ≤ 1 ∧ priority ≤ 1) :
    s.judgeBooking vessel dir draft priority nb follows =
      if follows != 0 && !(s.findRec follows).any (fun r => r.live && r.dir == bookedDir dir) then .error .badValue
      else if s.book.records.any fun r => r.live && r.vessel == vessel then .error .duplicateVessel
      else if s.requiredFor draft == .unachievable then .error .clearanceExceeded
      else if decide (24 ≤ s.book.records.length) && s.book.records.all Rec.live then .error .bookFull
      else
        .ok { vessel := vessel, dir := bookedDir dir, draft := draft, priority := bookedPriority priority,
              notBefore := if nb.flag = 1 then some nb.value else none,
              follows := if follows = 0 then none else some follows, required := s.requiredFor draft } := by
  obtain ⟨least, most, flag, low, low'⟩ := formed
  unfold judgeBooking
  rw [if_neg (by simpa using lead), if_neg (by simp [configured]), ofCode?_bookedDir low, ofCode?_bookedPriority low',
    show (draftInRange draft && decide (nb.flag ≤ 1)) = true by simp [draftInRange, least, most, flag]]

theorem notLed_iff (numbered : s.BookNumbered) (low : dir ≤ 1) :
    (follows != 0 && !(s.findRec follows).any (fun r => r.live && r.dir == bookedDir dir)) = true ↔
      ¬(follows = 0 ∨ ∃ r ∈ s.book.records, r.number = follows ∧ r.live = true ∧ r.dir.code = dir) := by
  have found : (s.findRec follows).any (fun r => r.live && r.dir == bookedDir dir) = true ↔
      ∃ r ∈ s.book.records, r.number = follows ∧ r.live = true ∧ r.dir.code = dir := by
    rw [Option.any_eq_true]
    constructor
    · rintro ⟨r, at_n, fits⟩
      obtain ⟨hr, number⟩ := findRec_mem at_n
      simp only [Bool.and_eq_true, beq_iff_eq] at fits
      exact ⟨r, hr, number, fits.1, (bookedDir_eq_iff low _).mp fits.2⟩
    · rintro ⟨r, hr, rfl, live, code⟩
      exact ⟨r, findRec_of_mem numbered.2.1 hr, by simp [live, (bookedDir_eq_iff low _).mpr code]⟩
  rw [← found]
  simp

end

/-- The promises about the book once a booking is placed. -/
theorem examined_booking {s : State} {vessel dir : Nat} {draft : Int} {priority : Nat} {nb : NotBeforeParam} {follows : Nat}
    {b : Booking} (may : s.judgeBooking vessel dir draft priority nb follows = .ok b) (numbered : s.BookNumbered)
    (earlier : s.FollowsEarlier) : Joins (s.placeBooking b) (s.placeBooking b).examineJoins :=
  have keeps := placeBooking_bookKeeps (bookable_of_ok may)
  examineJoins_joins (keeps.numbered numbered) (keeps.follows numbered earlier)

theorem groupThem_kept (s : State) (ns : List Nat) : (s.groupThem ns).kept = s.kept := by
  rw [groupThem_eq]
  have keys : (s.book.records.map fun r => if r.number ∈ ns then { r with state := .grouped, changed := true } else r).map
      Rec.key = s.book.records.map Rec.key := by
    rw [List.map_map]
    refine List.map_congr_left fun r _ => ?_
    simp only [Function.comp_apply]
    split <;> rfl
  unfold kept
  simp only [keys]

/-- An examination for joins changes no record but its state and its changed flag. -/
theorem examineJoins_kept (s : State) : s.examineJoins.kept = s.kept := by
  unfold examineJoins
  generalize (if s.opening.frozen = true then s.opening.target else none) = bound
  split
  · dsimp only
    split
    · rfl
    · rw [modOpening_kept _ _ rfl rfl, recomputeTarget_kept, groupThem_kept]
  · rfl

/-- An examination for joins leaves every record, or makes it GROUPED and changed. -/
theorem examineJoins_changed {s : State} {r : Rec} (hr : r ∈ s.book.records) (changed : r.changed = true) :
    ∃ q ∈ s.examineJoins.book.records, q.number = r.number ∧ q.changed = true := by
  unfold examineJoins
  generalize (if s.opening.frozen = true then s.opening.target else none) = bound
  split
  · dsimp only
    split
    · exact ⟨r, hr, rfl, changed⟩
    · generalize s.taken bound = ns
      refine ⟨if r.number ∈ ns then { r with state := .grouped, changed := true } else r, ?_, ?_⟩
      · rw [modOpening_book, recomputeTarget_frame]
        exact groupThem_records s ns ▸ List.mem_map_of_mem hr
      · split
        · exact ⟨rfl, rfl⟩
        · exact ⟨rfl, changed⟩
  · exact ⟨r, hr, rfl, changed⟩

end State

/-- Settles O44: the checks in their order, the number and the place in the book, and the examination of the placed state. -/
theorem bookPlaced : Obligations.BookPlaced := by
  intro s vessel dir draft priority nb follows numbered role w rs req c formed led known full
  have lead : w.role ≠ .follow := by rw [State.asked_role]; exact role
  have numbered' : w.BookNumbered := State.asked_bookNumbered numbered
  have refused : ∀ {r}, w.judgeBooking vessel dir draft priority nb follows = .error r → exec c s = .next (w.respond r []) :=
    fun judged => by
      rw [exec_book, judged]
      exact congrArg Host.Outcome.next (State.answer_refuse _ _)
  refine ⟨fun bad => refused ?_, fun configured => ?_⟩
  · unfold State.judgeBooking
    rw [if_neg (by simpa using lead), if_pos bad]
  have judge := fun formed => State.judgeBooking_formed (s := w) (vessel := vessel) (dir := dir) (draft := draft)
    (priority := priority) (nb := nb) (follows := follows) lead configured formed
  have notLed : formed → ((follows != 0 && !(w.findRec follows).any (fun r => r.live && r.dir == State.bookedDir dir)) = true ↔
      ¬led) := fun ⟨_, _, _, low, _⟩ => State.notLed_iff numbered' low
  have twice : (rs.any fun r => r.live && r.vessel == vessel) = true ↔ known := by simp [known]
  have beyond : (req == .unachievable) = true ↔ req = .unachievable := beq_iff_eq
  have packed : (decide (24 ≤ rs.length) && rs.all Rec.live) = true ↔ full := by
    have few : rs.length ≤ 24 := numbered'.1
    rw [Bool.and_eq_true, decide_eq_true_eq, List.all_eq_true]
    exact and_congr_left fun _ => ⟨fun h => le_antisymm few h, fun h => h.ge⟩
  refine ⟨fun bad => refused ?_, fun formed led known => refused ?_, fun formed led known over_ => refused ?_,
    fun formed led known over_ full => refused ?_, fun formed_ led_ known_ over_ full_ => ?_⟩
  · by_cases ok : formed
    · rw [judge ok, if_pos ((notLed ok).mpr fun led => bad ⟨ok, led⟩)]
    · exact State.judgeBooking_unformed lead configured ok
  · rw [judge formed, if_neg (mt (notLed formed).mp (not_not.mpr led)), if_pos (twice.mpr known)]
  · rw [judge formed, if_neg (mt (notLed formed).mp (not_not.mpr led)), if_neg (mt twice.mp known), if_pos (beyond.mpr over_)]
  · rw [judge formed, if_neg (mt (notLed formed).mp (not_not.mpr led)), if_neg (mt twice.mp known), if_neg (mt beyond.mp over_),
      if_pos (packed.mpr full)]
  · have judged := judge formed_
    rw [if_neg (mt (notLed formed_).mp (not_not.mpr led_)), if_neg (mt twice.mp known_), if_neg (mt beyond.mp over_),
      if_neg (mt packed.mp full_)] at judged
    obtain ⟨k, number, before, free⟩ := State.bookingNumber_spec numbered'
    obtain ⟨less, most⟩ := makeRoom_spec rs numbered'.1 full_ numbered'.2.1
    have counter : w.book.counter = s.book.counter := congrArg Kept.counter s.asked_kept
    rw [counter] at number before
    have range : State.bookingNumber w ≤ 65535 := (State.bookingNumber_isNumber numbered').2
    have next : nextNumber w.bookingNumber = if w.bookingNumber = 65535 then 1 else w.bookingNumber + 1 := by
      unfold nextNumber
      split <;> split <;> omega
    obtain ⟨b, carried⟩ : ∃ b : Booking, w.judgeBooking vessel dir draft priority nb follows = .ok b ∧
        b = ⟨vessel, State.bookedDir dir, draft, State.bookedPriority priority,
          if nb.flag = 1 then some nb.value else none, if follows = 0 then none else some follows, req⟩ := ⟨_, judged, rfl⟩
    obtain ⟨judged, named⟩ := carried
    refine ⟨(w.placeBooking b).examineJoins, w.bookingNumber, k, makeRoom rs, ?_, number, before, free, less, most, ?_⟩
    · rw [exec_book, judged]
      subst named
      exact congrArg Host.Outcome.next (State.answer_accept _ _ _)
    · intro placed
      have place : w.placeBooking b = { w with book :=
          { records := makeRoom rs ++ [placed],
            counter := if w.bookingNumber = 65535 then 1 else w.bookingNumber + 1 } } := by
        subst named
        rw [← next]
        rfl
      refine ⟨?_, ?_, fun earlier => ?_⟩
      · rw [place]
        exact State.examineJoins_changed (r := placed) (List.mem_append_right _ List.mem_cons_self) rfl
      · rw [State.examineJoins_kept, place]
        have keys : (makeRoom rs ++ [placed]).map Rec.key = (makeRoom rs).map Rec.key ++ [placed.key] := List.map_append
        have kept := s.asked_kept
        rw [← keys]
        exact congrArg (fun k : Kept => { k with
          counter := if w.bookingNumber = 65535 then 1 else w.bookingNumber + 1,
          keys := (makeRoom rs ++ [placed]).map Rec.key }) kept
      · have joins := State.examined_booking judged numbered' earlier
        rwa [place] at joins ⊢

end Sys2Proof.Machine
end

section
/-!
PROOFS. The five ways a record closes, and what its closing brings to the opening (R11, R16, R18, R118, R122, R123).
-/

namespace Sys2Proof.Machine

open Sys2Proof

namespace State

/-! ### A closing (R18) -/

theorem findRec_of_map {s t : State} {f : Rec → Rec} (records : t.book.records = s.book.records.map f)
    (number : ∀ r, (f r).number = r.number) (n : Nat) : t.findRec n = (s.findRec n).map f := by
  unfold findRec
  rw [records, List.find?_map]
  congr 1
  exact congrArg (List.find? · _) (funext fun r => by simp [number])

/-- The target of one state is that of another with the same list and settings, whose records have the same required
angles. -/
theorem TargetIs.of_map {s t : State} {target : Int} {f : Rec → Rec} (h : TargetIs s target)
    (list : t.opening.group = s.opening.group) (records : t.book.records = s.book.records.map f)
    (number : ∀ r, (f r).number = r.number) (required : ∀ r, (f r).required = r.required)
    (settings : t.settings = s.settings) : TargetIs t target := by
  have grouped : ∀ r, Grouped t r ↔ ∃ q, Grouped s q ∧ f q = r := fun r => by
    unfold Grouped
    simp only [list, findRec_of_map records number, Option.map_eq_some_iff]
    constructor
    · rintro ⟨n, hn, q, found, is⟩; exact ⟨q, ⟨n, hn, found⟩, is⟩
    · rintro ⟨q, ⟨n, hn, found⟩, is⟩; exact ⟨n, hn, q, found, is⟩
  have low : t.minOpen = s.minOpen := by unfold minOpen items; rw [settings]
  have high : t.fullOpen = s.fullOpen := by unfold fullOpen items; rw [settings]
  have margin : t.angleMargin = s.angleMargin := by unfold angleMargin items; rw [settings]
  unfold TargetIs at *
  rw [low, high, margin]
  rcases h with ⟨none_, is⟩ | ⟨⟨q, hq⟩, top, base, each, at_, is⟩
  · exact .inl ⟨fun r hr => have ⟨q, hq, _⟩ := (grouped r).mp hr; none_ q hq, is⟩
  · refine .inr ⟨⟨f q, (grouped _).mpr ⟨q, hq, rfl⟩⟩, top, base, fun r a hr angle => ?_, ?_, is⟩
    · obtain ⟨q, hq, rfl⟩ := (grouped r).mp hr
      exact each q a hq ((required q).symm.trans angle)
    · exact at_.imp id fun ⟨q, hq, angle⟩ => ⟨f q, (grouped _).mpr ⟨q, hq, rfl⟩, (required q).trans angle⟩

/-- What leaving the list does to the opening record is the same once the records have changed but for their numbers and
required angles. -/
theorem GroupLeft.of_map {v m m' : State} {f : Rec → Rec} (h : GroupLeft v m) (opening : m'.opening = m.opening)
    (records : m'.book.records = m.book.records.map f) (number : ∀ r, (f r).number = r.number)
    (required : ∀ r, (f r).required = r.required) (settings : m'.settings = m.settings) : GroupLeft v m' := by
  unfold GroupLeft at *
  dsimp only at *
  rw [opening]
  split
  next ended => rwa [if_pos ended] at h
  next stays =>
    rw [if_neg stays] at h
    obtain ⟨is, shut, still⟩ := h
    refine ⟨is, shut, fun open_ => ?_⟩
    obtain ⟨target, some_, is⟩ := still open_
    exact ⟨target, some_, TargetIs.of_map is (congrArg Opening.group opening) records number required settings⟩

/-- A change of the records that leaves the opening record, the clock of LINGER and the role tells `GroupLeft` nothing. -/
theorem closed_groupLeft {s : State} (lead : s.role ≠ .follow) {n : Nat} (on : n ∈ s.opening.group) (st : RecState) :
    GroupLeft s (s.closed n st) := by
  have left : GroupLeft s ((s.modRec n fun r => { r with state := st, closedAt := some s.clock, changed := true }).leaveGroup n) :=
    leaveGroup_groupLeft (s := s.modRec n fun r => { r with state := st, closedAt := some s.clock, changed := true }) lead on
  exact GroupLeft.of_map (f := fun r => if r.live && r.follows == some n then { r with follows := none, changed := true } else r)
    left rfl rfl (fun r => by split <;> rfl) (fun r => by split <;> rfl) rfl

theorem closed_frame (s : State) (n : Nat) (st : RecState) :
    s.closed n st = { s with book := (s.closed n st).book, opening := (s.closed n st).opening } := by
  unfold closed
  rw [leaveGroup_frame]
  rfl

theorem closed_book (s : State) (n : Nat) (st : RecState) :
    (s.closed n st).book = { s.book with records := s.book.records.map (Rec.afterClose n st s.clock) } := by
  rw [← closed_records]
  unfold closed freeFollowers
  rw [leaveGroup_book]
  rfl

theorem afterClose_eq {st : RecState} (h : st.closes) (n clock : Nat) (q : Rec) : q.afterClose n st clock =
    if q.number = n then { q with state := st, closedAt := some clock, changed := true }
    else if q.live = true ∧ q.follows = some n then { q with follows := none, changed := true } else q := by
  by_cases same : q.number = n
  · rw [if_pos same, afterClose_same h n clock same]
  · rw [if_neg same, afterClose_other st clock same]

theorem closed_opening_of_off {s : State} {n : Nat} (off : n ∉ s.opening.group) (st : RecState) :
    (s.closed n st).opening = s.opening := by
  have still : ∀ t : State, n ∉ t.opening.group → t.leaveGroup n = t := fun t h => by simp [leaveGroup, h]
  unfold closed
  rw [still _ (by exact off)]
  rfl

theorem closed_keys {s : State} {n : Nat} {st : RecState} (h : st.closes) :
    (s.closed n st).book.records.map Rec.key = s.closedKeys n := by
  rw [closed_records, List.map_map]
  refine List.map_congr_left fun q _ => ?_
  simp only [Function.comp_apply, afterClose_eq h]
  split
  · rfl
  · split <;> rfl

/-- The examination for joins takes no closed record in. -/
theorem examineJoins_closed {s : State} (numbered : s.BookNumbered) {r : Rec} (hr : r ∈ s.book.records)
    (booked : r.state ≠ .booked) (off : r.number ∉ s.opening.group) :
    r ∈ s.examineJoins.book.records ∧ r.number ∉ s.examineJoins.opening.group := by
  unfold examineJoins
  generalize (if s.opening.frozen = true then s.opening.target else none) = bound
  split
  · dsimp only
    split
    · exact ⟨hr, off⟩
    · have out : r.number ∉ s.taken bound := fun mem => by
        obtain ⟨q, hq, same, state⟩ := (taken_placing s bound).ofRec _ mem
        exact booked (List.inj_on_of_nodup_map numbered.2.1 hq hr same ▸ state)
      generalize s.taken bound = ns at out
      rw [modOpening_book, modOpening_opening, recomputeTarget_frame, groupThem_eq]
      exact ⟨List.mem_map.mpr ⟨r, hr, if_neg out⟩, by simp [off, out]⟩
  · exact ⟨hr, off⟩

/-- A closing in a LEAD or SOLE part, as R18 says it. -/
theorem closeRec_effect {s : State} (lead : s.role ≠ .follow) (numbered : s.BookNumbered) {fin : RecState} (closes : fin.closes)
    {r : Rec} (hr : r ∈ s.book.records) : ∃ m u : State, s.closeRec r.number fin = u ∧
      m = { s with
        book := { s.book with
          records := s.book.records.map fun q =>
            if q.number = r.number then { q with state := fin, closedAt := some s.clock, changed := true }
            else if q.live = true ∧ q.follows = some r.number then { q with follows := none, changed := true }
            else q },
        opening := m.opening } ∧
      (r.number ∉ s.opening.group → m.opening = s.opening) ∧
      (r.number ∈ s.opening.group →
        m.opening.group = s.opening.group.filter (fun n => n != r.number) ∧ GroupLeft s m) ∧
      (s.FollowsEarlier → Joins m u) ∧
      u = { s with book := u.book, opening := u.opening } ∧
      u.book.records.map Rec.key = s.closedKeys r.number ∧ u.book.counter = s.book.counter ∧
      (∃ q ∈ u.book.records, q.number = r.number ∧ q.state = fin ∧ q.changed = true) ∧ r.number ∉ u.opening.group := by
  have keeps := closed_bookKeeps s r.number closes
  have book := closed_book s r.number fin
  have records : s.book.records.map (Rec.afterClose r.number fin s.clock) = s.book.records.map fun q =>
      if q.number = r.number then { q with state := fin, closedAt := some s.clock, changed := true }
      else if q.live = true ∧ q.follows = some r.number then { q with follows := none, changed := true }
      else q := List.map_congr_left fun q _ => afterClose_eq closes _ _ q
  have group := closed_group s r.number fin
  have self : { r with state := fin, closedAt := some s.clock, changed := true } ∈ (s.closed r.number fin).book.records := by
    rw [book, records]
    exact List.mem_map.mpr ⟨r, hr, if_pos rfl⟩
  have dead : fin ≠ .booked := by rcases closes with rfl | rfl | rfl <;> decide
  have stays := examineJoins_closed (keeps.numbered numbered) self dead (by rw [group]; simp)
  have kept := examineJoins_kept (s.closed r.number fin)
  refine ⟨s.closed r.number fin, s.closeRec r.number fin, rfl, ?_, fun off => closed_opening_of_off off fin,
    fun on => ⟨group, closed_groupLeft lead on fin⟩, fun earlier => ?_, closeRec_frame s _ fin, ?_, ?_,
    ⟨_, stays.1, rfl, rfl, rfl⟩, stays.2⟩
  · rw [← records, ← book]
    exact closed_frame s _ fin
  · rw [closeRec_eq]
    exact examineJoins_joins (keeps.numbered numbered) (keeps.follows numbered earlier)
  · rw [closeRec_eq, ← closed_keys closes]
    exact congrArg Kept.keys kept
  · rw [closeRec_eq]
    exact (congrArg Kept.counter kept).trans (show (s.closed r.number fin).book.counter = _ by rw [book])

/-- The signals after a call end (R119, R122). -/
theorem callEnd_signals (s : State) (d : Dir) : (s.callEnd d).signals = s.callEnded d := by
  cases d <;> rfl

theorem callEnd_eq (s : State) (d : Dir) : s.callEnd d = { s with signals := s.callEnded d } := by
  rw [callEnd_frame, callEnd_signals]

theorem calledRec_eq {s : State} (numbered : s.BookNumbered) {r : Rec} (hr : r ∈ s.book.records) (called : r.state = .called)
    (named : s.signals.call.called = some r.number) : s.calledRec = some r := by
  unfold calledRec
  rw [named]
  dsimp only
  rw [findRec_of_mem numbered.2.1 hr]
  simp [Option.filter, called]

theorem passingRec_eq {s : State} (numbered : s.BookNumbered) {r : Rec} (hr : r ∈ s.book.records) (passing : r.state = .passing)
    (named : s.signals.call.passing = some r.number) : s.passingRec = some r := by
  unfold passingRec
  rw [named]
  dsimp only
  rw [findRec_of_mem numbered.2.1 hr]
  simp [Option.filter, passing]

end State

theorem exec_callTimeExpiry (s : State) : exec .callTimeExpiry s =
    .next (if s.wake.signals.call.callTimer.isRunning then
      match s.wake.calledRec with
      | some r => (s.wake.callEnd r.dir).closeRec r.number .lapsed
      | none => s.wake
    else s.wake).settle := rfl

theorem exec_beamClear (s : State) (b : Beam) : exec (.beamClear b) s =
    .next (if s.wake.role != .follow && s.wake.beam b == some true then (s.wake.setBeam b false).completePassage
      else s.wake).settle := rfl

/-- A beam clears at the end of a passage (R118). -/
theorem exec_beamClear_completes {s : State} (numbered : s.BookNumbered) (lead : s.role ≠ .follow) {r : Rec} {b : Beam}
    (hr : r ∈ s.wake.book.records) (passing : r.state = .passing) (named : s.wake.signals.call.passing = some r.number)
    (seen : s.wake.signals.call.exitSeen = true) (broken : s.wake.beam b = some true)
    (clear : (s.wake.setBeam b false).signals.downstream = some false ∧ (s.wake.setBeam b false).signals.upstream = some false) :
    exec (.beamClear b) s = .next (((s.wake.setBeam b false).callEnd r.dir).closeRec r.number .passed).settle := by
  have book : (s.wake.setBeam b false).book = s.wake.book := by cases b <;> rfl
  have call : (s.wake.setBeam b false).signals.call = s.wake.signals.call := by cases b <;> rfl
  have is : (s.wake.setBeam b false).passingRec = some r := by
    refine State.passingRec_eq ?_ (book ▸ hr) passing (call ▸ named)
    have numbered := State.wake_bookNumbered numbered
    unfold State.BookNumbered at *
    rw [book]
    exact numbered
  have own : (s.wake.role != .follow && s.wake.beam b == some true) = true := by simp [lead, broken]
  rw [exec_beamClear, if_pos own]
  unfold State.completePassage
  rw [is]
  dsimp only
  rw [if_pos (by rw [call, seen, clear.1, clear.2]; rfl)]

/-- The refusals of CANCEL and MARK_PASSED. -/
theorem cancel_markPassed_refused {s : State} (lead : s.role ≠ .follow) (n : Nat) :
    ((∀ r ∈ s.asked.book.records, r.number ≠ n) →
      exec (.cancel .harbour n) s = .next (s.asked.respond .notFound []) ∧
        exec (.markPassed .operator n) s = .next (s.asked.respond .notFound [])) ∧
    ∀ r, s.asked.findRec n = some r →
      (r.state = .passing → exec (.cancel .harbour n) s = .next (s.asked.respond .inPassage [])) ∧
      (r.live = false → exec (.cancel .harbour n) s = .next (s.asked.respond .wrongState [])) ∧
      (r.state ≠ .passing → exec (.markPassed .operator n) s = .next (s.asked.respond .wrongState [])) := by
  have role : s.asked.role ≠ .follow := by rw [State.asked_role]; exact lead
  refine ⟨fun absent => ?_, fun r found => ?_⟩
  · rw [exec_cancel, exec_markPassed, State.onRecord_of_absent role absent, State.onRecord_of_absent role absent]
    exact ⟨congrArg Host.Outcome.next (State.answer_refuse _ _), congrArg Host.Outcome.next (State.answer_refuse _ _)⟩
  · have on : ∀ f : Rec → Answer, s.asked.onRecord n f = f r := fun f => by
      unfold State.onRecord
      rw [if_neg (by simpa using role), found]
    rw [exec_cancel, exec_markPassed, on, on]
    refine ⟨fun passing => ?_, fun dead => ?_, fun other => ?_⟩
    · rw [passing]
      exact congrArg Host.Outcome.next (State.answer_refuse _ _)
    · have closed : r.state = .passed ∨ r.state = .cancelled ∨ r.state = .lapsed := by
        unfold Rec.live at dead
        cases is : r.state <;> simp [is] at dead ⊢
      rcases closed with is | is | is <;> rw [is] <;> exact congrArg Host.Outcome.next (State.answer_refuse _ _)
    · rw [if_neg (by simpa using other)]
      exact congrArg Host.Outcome.next (State.answer_refuse _ _)

/-- Settles O46: each of the five events runs the one closing on the state it finds, with the call ended where a call was. -/
theorem recordCloses : Obligations.RecordCloses := by
  refine ⟨fun s n lead => cancel_markPassed_refused lead n, ?_⟩
  intro s c r fin numbered lead w x asks ended hr ways base ends
  have numbered' : s.wake.BookNumbered := State.wake_bookNumbered numbered
  have role : w.role ≠ .follow := by rw [s.wake_role]; exact lead
  have clock : w.clock = s.clock := s.wake_clock
  have counter : w.book.counter = s.book.counter := congrArg Kept.counter s.wake_kept
  have closes : fin.closes := by
    rcases ways with ⟨-, rfl, -⟩ | ⟨-, rfl, -⟩ | ⟨-, rfl, -⟩ | ⟨-, rfl, -⟩ | ⟨-, rfl, -⟩
    exacts [.inr (.inl rfl), .inl rfl, .inr (.inr rfl), .inl rfl, .inl rfl]
  let lamps : Signals := { ends with
    downstream := if c = .beamClear .downstream then some false else x.downstream
    upstream := if c = .beamClear .upstream then some false else x.upstream }
  have baseIs : base = w ∨ base = w.clearPrepare := by
    by_cases h : asks
    · exact .inr (if_pos h)
    · exact .inl (if_neg h)
  -- It is enough to name the state that the closing runs on.
  suffices runs : ∃ v : State, v = { base with signals := lamps } ∧
      (asks → exec c s = .next ((v.closeRec r.number fin).settle.respond .ok [])) ∧
      (¬asks → exec c s = .next (v.closeRec r.number fin).settle) by
    obtain ⟨v, is, asked, own⟩ := runs
    clear_value base
    have effect : v.role ≠ .follow → v.BookNumbered → r ∈ v.book.records → _ := fun a b h =>
      State.closeRec_effect a b closes h
    rcases baseIs with rfl | rfl
    all_goals
      obtain ⟨m, u, closing, shape, off, on, joins, frame, keys, count, self, out⟩ := effect (is ▸ role) (is ▸ numbered') (is ▸ hr)
      subst is
      rw [closing] at asked own
      have shown : m.signals = lamps := by rw [shape]
      rw [← clock, ← counter]
      exact ⟨m, u, asked, own, shape, off, on, joins, shown ▸ frame, keys, count, self, out⟩
  -- The beams stand as they did where the event is not a clear of theirs.
  have still : c ≠ .beamClear .downstream → c ≠ .beamClear .upstream → lamps = ends := fun down up => by
    have sides : ends.downstream = x.downstream ∧ ends.upstream = x.upstream := by
      by_cases e : ended
      · rw [show ends = w.callEnded r.dir from if_pos e]
        exact ⟨rfl, rfl⟩
      · rw [show ends = x from if_neg e]
        exact ⟨rfl, rfl⟩
    show ({ ends with
      downstream := if c = .beamClear .downstream then some false else x.downstream
      upstream := if c = .beamClear .upstream then some false else x.upstream } : Signals) = ends
    rw [if_neg down, if_neg up, ← sides.1, ← sides.2]
  have on : ∀ f : Rec → Answer, s.asked.onRecord r.number f = f r :=
    State.onRecord_of_mem (s := s.asked) role numbered'.2.1 hr
  rcases ways with ⟨rfl, rfl, state⟩ | ⟨rfl, rfl, state⟩ | ⟨rfl, rfl, state, named, runs⟩ |
    ⟨rfl, rfl, state, named, seen, down, up⟩ | ⟨rfl, rfl, state, named, seen, down, up⟩
  · have lampsIs : lamps = ends := still nofun nofun
    have baseIs : base = s.asked := if_pos (.inl rfl)
    have asking : asks := .inl rfl
    rw [lampsIs, baseIs]
    rcases state with state | state | state
    · refine ⟨s.asked, ?_, fun _ => ?_, absurd asking⟩
      · rw [show ends = x from if_neg (by simp [ended, state])]
        rfl
      · rw [exec_cancel, on, state]
        exact congrArg Host.Outcome.next (State.answer_ok _ _)
    · refine ⟨s.asked, ?_, fun _ => ?_, absurd asking⟩
      · rw [show ends = x from if_neg (by simp [ended, state])]
        rfl
      · rw [exec_cancel, on, state]
        exact congrArg Host.Outcome.next (State.answer_ok _ _)
    · refine ⟨s.asked.callEnd r.dir, ?_, fun _ => ?_, absurd asking⟩
      · rw [show ends = w.callEnded r.dir from if_pos (by simp [ended, state])]
        exact s.asked.callEnd_eq r.dir
      · rw [exec_cancel, on, state]
        exact congrArg Host.Outcome.next (State.answer_ok _ _)
  · have lampsIs : lamps = ends := still nofun nofun
    have baseIs : base = s.asked := if_pos (.inr rfl)
    have asking : asks := .inr rfl
    rw [lampsIs, baseIs]
    refine ⟨s.asked.callEnd r.dir, ?_, fun _ => ?_, absurd asking⟩
    · rw [show ends = w.callEnded r.dir from if_pos (by simp [ended, state])]
      exact s.asked.callEnd_eq r.dir
    · rw [exec_markPassed, on, if_pos (by simp [state])]
      exact congrArg Host.Outcome.next (State.answer_ok _ _)
  · have lampsIs : lamps = ends := still nofun nofun
    have asking : ¬asks := by rintro (h | h) <;> cases h
    have baseIs : base = w := if_neg asking
    rw [lampsIs, baseIs]
    refine ⟨w.callEnd r.dir, ?_, fun h => absurd h asking, fun _ => ?_⟩
    · rw [show ends = w.callEnded r.dir from if_pos (by simp [ended, state])]
      exact w.callEnd_eq r.dir
    · rw [exec_callTimeExpiry, if_pos runs, State.calledRec_eq numbered' hr state named]
  · have asking : ¬asks := by rintro (h | h) <;> cases h
    have baseIs : base = w := if_neg asking
    have endsIs : ends = w.callEnded r.dir := if_pos (by simp [ended, state])
    refine ⟨(w.setBeam .downstream false).callEnd r.dir, ?_, fun h => absurd h asking, fun _ =>
      exec_beamClear_completes numbered lead hr state named seen down ⟨rfl, up⟩⟩
    rw [State.callEnd_eq, baseIs]
    show _ = ({ w with signals := { ends with
      downstream := if Instr.beamClear .downstream = .beamClear .downstream then some false else x.downstream
      upstream := if Instr.beamClear .downstream = .beamClear .upstream then some false else x.upstream } } : State)
    rw [endsIs, if_pos rfl, if_neg nofun]
    rfl
  · have asking : ¬asks := by rintro (h | h) <;> cases h
    have baseIs : base = w := if_neg asking
    have endsIs : ends = w.callEnded r.dir := if_pos (by simp [ended, state])
    refine ⟨(w.setBeam .upstream false).callEnd r.dir, ?_, fun h => absurd h asking, fun _ =>
      exec_beamClear_completes numbered lead hr state named seen up ⟨down, rfl⟩⟩
    rw [State.callEnd_eq, baseIs]
    show _ = ({ w with signals := { ends with
      downstream := if Instr.beamClear .upstream = .beamClear .downstream then some false else x.downstream
      upstream := if Instr.beamClear .upstream = .beamClear .upstream then some false else x.upstream } } : State)
    rw [endsIs, if_neg nofun, if_pos rfl]
    rfl

end Sys2Proof.Machine
end

section
/-!
SUPPORT. What the test of records of the list does (R140): step by step, and together.
-/

namespace Sys2Proof.Machine.State

open Sys2Proof

/-! ### What leaving the list makes of the opening record (R129, R138, R141) -/

/-- What leaving the list has made of the opening record, with a target before the freeze that is not yet said. -/
def LeftBy (v t : State) : Prop :=
  let o := v.opening
  if (o.group ≠ [] ∧ t.opening.group = []) ∧ o.phase = .pending then
    t.opening = { o with
      phase := .idle, group := [], target := none, runDir := none, resumePoint := none, frozen := false,
      suspended := false, closeRequested := false, linger := .stopped, command := none }
  else
    t.opening = { o with
      group := t.opening.group, target := t.opening.target,
      linger := if (o.group ≠ [] ∧ t.opening.group = []) ∧ o.phase = .heldOpen then
          (if v.items.channel.linger = 0 then .expired else .running (v.items.channel.linger * 1000).toNat)
        else o.linger } ∧
    (¬TargetOpen v → t.opening.target = o.target)

theorem LeftBy.refl (v : State) : LeftBy v v := by
  have not_ : ¬(v.opening.group ≠ [] ∧ v.opening.group = []) := fun ⟨some_, none_⟩ => some_ none_
  unfold LeftBy
  dsimp only
  rw [if_neg fun h => not_ h.1, if_neg fun h => not_ h.1]
  exact ⟨rfl, fun _ => rfl⟩

theorem LeftBy.congr {v t u : State} (h : LeftBy v t) (same : u.opening = t.opening) : LeftBy v u := by
  unfold LeftBy at *
  rwa [same]

/-- While the list holds a record, leaving it has changed the list and the target alone. -/
theorem LeftBy.some_left {v t : State} (h : LeftBy v t) (some_ : t.opening.group ≠ []) :
    t.opening = { v.opening with group := t.opening.group, target := t.opening.target } ∧
      (¬TargetOpen v → t.opening.target = v.opening.target) := by
  unfold LeftBy at h
  dsimp only at h
  rw [if_neg fun h => some_ h.1.2, if_neg fun h => some_ h.1.2] at h
  exact h

/-- One more leaves. -/
theorem LeftBy.leave {v t : State} (h : LeftBy v t) (settings : t.settings = v.settings) {n : Nat}
    (was : n ∈ v.opening.group) (on : n ∈ t.opening.group) : LeftBy v (t.leaveGroup n) := by
  obtain ⟨shape, shut⟩ := h.some_left (List.ne_nil_of_mem on)
  have some_ : v.opening.group ≠ [] := List.ne_nil_of_mem was
  have phase : t.opening.phase = v.opening.phase := by rw [shape]
  have frozen : t.opening.frozen = v.opening.frozen := by rw [shape]
  have linger : t.items = v.items := by unfold items; rw [settings]
  have group : (t.leaveGroup n).opening.group = t.opening.group.filter (· != n) := leaveGroup_group t n
  have opening := leaveGroup_opening on rfl
  generalize t.opening.group.filter (· != n) = g at group opening
  rw [phase, linger] at opening
  unfold LeftBy
  dsimp only
  rw [group]
  simp only [some_, ne_eq, not_false_eq_true, true_and]
  split
  next ended =>
    rw [if_pos ended] at opening
    rw [opening, shape]
  next stays =>
    rw [if_neg stays] at opening
    refine ⟨?_, fun closed => ?_⟩
    · have target : (t.leaveGroup n).opening.target = t.targetOn g := by rw [opening]
      rw [target, opening, shape]
      rfl
    · have target : (t.leaveGroup n).opening.target = t.targetOn g := by rw [opening]
      rw [target, targetOn_spec, if_neg, shut closed]
      rw [targetOpen_iff]
      unfold TargetOpen at *
      rw [phase, frozen]
      exact fun h => closed h.2

/-- At the end the target is recomputed. -/
theorem LeftBy.recomputed {v t : State} (h : LeftBy v t) (lead : v.role ≠ .follow) (role : t.role = v.role) :
    GroupLeft v t.recomputeTarget := by
  have target := recomputeTarget_target t
  have group : t.recomputeTarget.opening.group = t.opening.group := by rw [recomputeTarget_frame]
  unfold GroupLeft
  unfold LeftBy at h
  dsimp only at *
  rw [group]
  simp only [decide_eq_true_eq]
  split
  next ended =>
    rw [if_pos ended] at h
    have shut : t.targetOpen = false := by
      unfold targetOpen
      rw [h]
      simp
    rw [← h]
    unfold State.recomputeTarget
    rw [if_neg (by simp [shut])]
  next stays =>
    rw [if_neg stays] at h
    obtain ⟨shape, shut⟩ := h
    have same : t.targetOpen = true ↔ TargetOpen v := by
      rw [targetOpen_iff]
      unfold TargetOpen
      rw [shape, role]
      exact and_iff_right lead
    refine ⟨?_, fun closed => ?_, fun open_ => ?_⟩
    · rw [recomputeTarget_frame]
      dsimp only
      rw [shape]
    · rw [target, if_neg (mt same.mp closed)]
      exact shut closed
    · refine ⟨_, by rw [target, if_pos (same.mpr open_)], TargetIs.congr (targetFor_is t) group ?_ ?_⟩
      · rw [recomputeTarget_frame]
      · rw [recomputeTarget_frame]

/-! ### One record tested (R140) -/

/-- A record's required angle is above the target. -/
def exceeds (s : State) (r : Rec) : Bool := s.opening.target.any fun t => r.required.above t

/-- A record of the list that its test takes off it (R140). -/
def returns (s : State) (r : Rec) : Bool :=
  (r.state == .grouped || r.state == .called) && (!r.required.needsOpening || (s.opening.frozen && s.exceeds r))

/-- A record under way that the target no longer clears (R140). -/
def short (s : State) (r : Rec) : Bool := r.state == .passing && s.exceeds r

theorem testGrouped_of_found {s : State} {n : Nat} {r : Rec} (found : s.findRec n = some r) : s.testGrouped n =
    if s.returns r then s.returnToBooked n else if s.short r then s.raise .clearanceShort else s := by
  unfold testGrouped
  rw [found]
  dsimp only
  unfold returns short exceeds
  cases state : r.state <;> simp

end Sys2Proof.Machine.State
end

section
/-!
SUPPORT. The records of the list tested together, and a re-evaluation (R19, R30, R140).
-/

namespace Sys2Proof.Machine.State

open Sys2Proof

/-- A record of the list is BOOKED again: its record, the list and, where it was CALLED, its call end. -/
theorem returnToBooked_effect {v t : State} {r : Rec} (left : LeftBy v t) (settings : t.settings = v.settings)
    (found : t.findRec r.number = some r) (state : r.state = .grouped ∨ r.state = .called)
    (was : r.number ∈ v.opening.group) (on : r.number ∈ t.opening.group) :
    (t.returnToBooked r.number).book = (t.setRecState r.number .booked).book ∧
      (t.returnToBooked r.number).opening.group = t.opening.group.filter (· != r.number) ∧
      LeftBy v (t.returnToBooked r.number) ∧
      (t.returnToBooked r.number).signals = if r.state = .called then t.callEnded r.dir else t.signals := by
  unfold returnToBooked
  rw [found]
  dsimp only
  rcases state with state | state
  · rw [state]
    refine ⟨?_, ?_, ?_, ?_⟩
    · rw [leaveGroup_book]
    · rw [leaveGroup_group]
      rfl
    · exact (left.congr rfl : LeftBy v (t.setRecState r.number .booked)).leave settings was on
    · rw [leaveGroup_frame]
      rfl
  · rw [state]
    refine ⟨?_, ?_, ?_, ?_⟩
    · rw [leaveGroup_book, revoke, callEnd_frame]
      exact setRecState_twice t r.number .grouped .booked
    · rw [leaveGroup_group, revoke_frame]
      rfl
    · have opening : (t.revoke r).opening = t.opening := by rw [revoke_frame]
      have kept : (t.revoke r).settings = t.settings := by rw [revoke_frame]
      exact (left.congr opening : LeftBy v ((t.revoke r).setRecState r.number .booked)).leave (kept.trans settings) was
        (opening ▸ on)
    · dsimp only
      rw [leaveGroup_frame, if_pos rfl]
      exact callEnd_signals _ r.dir

/-- What the test of the numbers `done` has made of a state. -/
structure TestedBy (v t : State) (done : List Nat) : Prop where
  frame : t = { v with book := { v.book with records := t.book.records }, opening := t.opening, signals := t.signals,
                       faults := { v.faults with recs := t.faults.recs } }
  records : t.book.records = v.book.records.map fun r =>
    if r.number ∈ done ∧ v.returns r = true then { r with state := .booked, changed := true } else r
  list : ∀ n, n ∈ t.opening.group ↔ n ∈ v.opening.group ∧ ∀ r ∈ v.book.records, r.number = n → ¬(n ∈ done ∧ v.returns r = true)
  sub : t.opening.group.Sublist v.opening.group
  left : LeftBy v t
  ended : ∀ r ∈ v.book.records, r.state = .called → r.number ∈ done → v.returns r = true → t.signals = v.callEnded r.dir
  still : (∀ r ∈ v.book.records, r.state = .called → r.number ∈ done → v.returns r ≠ true) → t.signals = v.signals
  faults : ∀ f, t.fault f =
    if f = .clearanceShort ∧ (v.fault f).mask = false ∧ ∃ r ∈ v.book.records, r.number ∈ done ∧ v.short r = true then
      { v.fault f with latch := true }
    else v.fault f

theorem TestedBy.start (v : State) : TestedBy v v [] where
  frame := rfl
  records := by simp
  list := by simp
  sub := List.Sublist.refl _
  left := .refl v
  ended := by simp
  still _ := rfl
  faults := by simp

/-- Two records under way are one (R121). -/
theorem OneCall.eq {s : State} (one : s.OneCall) {x y : Rec} (hx : x ∈ s.book.records) (hy : y ∈ s.book.records)
    (cx : x.state = .called) (cy : y.state = .called) : x = y := by
  by_contra ne
  have under : ∀ {r : Rec}, r.state = .called → (r.state == .called || r.state == .passing) = true := fun h => by simp [h]
  unfold OneCall at one
  rw [List.countP_eq_length_filter] at one
  have two : [x, y].length ≤ (s.book.records.filter fun r => r.state == .called || r.state == .passing).length := by
    refine List.Subperm.length_le (List.subperm_of_subset (by simp [ne]) ?_)
    intro z hz
    simp only [List.mem_cons, List.not_mem_nil, or_false] at hz
    rcases hz with rfl | rfl
    · exact List.mem_filter.mpr ⟨hx, under cx⟩
    · exact List.mem_filter.mpr ⟨hy, under cy⟩
  simp at two
  omega

/-- Outside the HALT class a raise sets the latch of its own fault, where that is not masked, and no other (R168, R171). -/
theorem raise_fault {g : FaultId} (cls : g.cls ≠ .halt) (s : State) (f : FaultId) : (s.raise g).fault f =
    if f = g ∧ (s.fault f).mask = false then { s.fault f with latch := true } else s.fault f := by
  by_cases same : f = g
  · subst same
    cases mask : (s.fault f).mask with
    | true => rw [raise_masked s _ mask, if_neg (by simp)]
    | false =>
      rw [if_pos ⟨rfl, rfl⟩]
      unfold raise
      rw [if_neg (by simp [mask])]
      dsimp only
      rw [if_neg (by simp [cls])]
      exact (setFault_fault s _ _ _).trans (if_pos rfl)
  · rw [if_neg fun h => same h.1]
    exact raise_other s _ f fun h => same (FaultId.index_injective h).symm

theorem raise_clearanceShort_fault (s : State) (f : FaultId) : (s.raise .clearanceShort).fault f =
    if f = .clearanceShort ∧ (s.fault f).mask = false then { s.fault f with latch := true } else s.fault f :=
  raise_fault (by simp [FaultId.cls]) s f

/-- The next record is tested. -/
theorem TestedBy.step {v t : State} {done : List Nat} (h : TestedBy v t done) (sound : v.OpeningSound) {n : Nat}
    (on : n ∈ v.opening.group) (new : n ∉ done) : TestedBy v (t.testGrouped n) (done ++ [n]) := by
  obtain ⟨numbered, -, one, ⟨-, -, held, listed⟩, placed⟩ := sound
  obtain ⟨r, hr, rfl⟩ := held n on
  have same_rec : ∀ {q}, q ∈ v.book.records → q.number = r.number → q = r := fun hq e =>
    List.inj_on_of_nodup_map numbered.2.1 hq hr e
  have apart : v.book.records.Nodup := numbered.2.1.of_map _
  have found : t.findRec r.number = some r := by
    rw [findRec_of_map h.records (fun q => by split <;> rfl), findRec_of_mem numbered.2.1 hr, Option.map_some,
      if_neg fun ⟨mem, _⟩ => new mem]
  have listed_t : r.number ∈ t.opening.group := (h.list _).mpr ⟨on, fun _ _ _ ⟨mem, _⟩ => new mem⟩
  obtain ⟨shape, shut⟩ := h.left.some_left (List.ne_nil_of_mem listed_t)
  have settings : t.settings = v.settings := by rw [h.frame]
  have frozen : t.opening.frozen = v.opening.frozen := by rw [shape]
  have exceeds_of : ¬TargetOpen v → t.exceeds r = v.exceeds r := fun closed => by unfold exceeds; rw [shut closed]
  have returns : t.returns r = v.returns r := by
    unfold State.returns
    rw [frozen]
    cases f : v.opening.frozen with
    | false => rfl
    | true => rw [exceeds_of fun o => by simp [o.1] at f]
  have short : t.short r = v.short r := by
    unfold State.short
    by_cases passing : r.state = .passing
    · obtain ⟨-, -, -, -, -, phases⟩ := placed
      rw [exceeds_of]
      rintro ⟨-, phase⟩
      rcases phases r hr (.inr passing) with p | p <;> rw [p] at phase <;> simp at phase
    · rw [beq_false_of_ne passing, Bool.false_and, Bool.false_and]
  have back_iff : ∀ {q}, q ∈ v.book.records → (q.number ∈ done ++ [r.number] ∧ v.returns q = true ↔
      (q.number ∈ done ∧ v.returns q = true) ∨ q = r ∧ v.returns r = true) := fun {q} hq => by
    rw [List.mem_append, List.mem_singleton]
    constructor
    · rintro ⟨mem | e, back⟩
      · exact .inl ⟨mem, back⟩
      · obtain rfl := same_rec hq e
        exact .inr ⟨rfl, back⟩
    · rintro (⟨mem, back⟩ | ⟨rfl, back⟩)
      · exact ⟨.inl mem, back⟩
      · exact ⟨.inr rfl, back⟩
  have short_iff : (∃ q ∈ v.book.records, q.number ∈ done ++ [r.number] ∧ v.short q = true) ↔
      (∃ q ∈ v.book.records, q.number ∈ done ∧ v.short q = true) ∨ v.short r = true := by
    constructor
    · rintro ⟨q, hq, mem, s⟩
      rcases List.mem_append.mp mem with mem | e
      · exact .inl ⟨q, hq, mem, s⟩
      · exact .inr (same_rec hq (List.mem_singleton.mp e) ▸ s)
    · rintro (⟨q, hq, mem, s⟩ | s)
      · exact ⟨q, hq, List.mem_append_left _ mem, s⟩
      · exact ⟨r, hr, by simp, s⟩
  rw [testGrouped_of_found found, returns, short]
  split
  next back =>
    have state : r.state = .grouped ∨ r.state = .called := by
      unfold State.returns at back
      simp only [Bool.and_eq_true, Bool.or_eq_true, beq_iff_eq] at back
      exact back.1
    have not_short : v.short r ≠ true := by
      unfold State.short
      rcases state with state | state <;> simp [state]
    obtain ⟨book, group, left, signals⟩ := returnToBooked_effect h.left settings found state on listed_t
    have frame := returnToBooked_frame t r.number
    have records : (t.returnToBooked r.number).book.records = v.book.records.map fun q =>
        if q.number ∈ done ++ [r.number] ∧ v.returns q = true then { q with state := .booked, changed := true } else q := by
      rw [book, setRecState_records, h.records, List.map_map]
      refine List.map_congr_left fun q hq => ?_
      simp only [Function.comp_apply, back_iff hq]
      by_cases e : q = r
      · subst e
        simp [back, new]
      · have other : q.number ≠ r.number := fun same => e (same_rec hq same)
        by_cases done_ : q.number ∈ done ∧ v.returns q = true
        · simp [done_, other]
        · simp [done_, other, e]
    refine ⟨?_, records, fun n => ?_, ?_, left, fun q hq called mem back' => ?_, fun none_ => ?_, fun f => ?_⟩
    · have counter : (t.returnToBooked r.number).book.counter = v.book.counter :=
        (congrArg Book.counter book).trans (show t.book.counter = v.book.counter by rw [h.frame])
      have whole : (t.returnToBooked r.number).book =
          { v.book with records := (t.returnToBooked r.number).book.records } := congrArg (Book.mk _) counter
      rw [← whole]
      generalize t.returnToBooked r.number = u at frame
      rw [frame, h.frame]
    · rw [group, List.mem_filter, h.list, bne_iff_ne]
      constructor
      · rintro ⟨⟨mem, out⟩, ne⟩
        exact ⟨mem, fun q hq e both => ((back_iff hq).mp (e ▸ both)).elim (e ▸ out q hq e) fun ⟨same, _⟩ => ne (e ▸ same ▸ rfl)⟩
      · rintro ⟨mem, out⟩
        refine ⟨⟨mem, fun q hq e ⟨inDone, b⟩ => out q hq e ⟨List.mem_append_left _ inDone, b⟩⟩, ?_⟩
        rintro rfl
        exact out r hr rfl ⟨by simp, back⟩
    · rw [group]
      exact List.filter_sublist.trans h.sub
    · rw [signals]
      rcases (back_iff hq).mp ⟨mem, back'⟩ with ⟨inDone, b⟩ | ⟨rfl, -⟩
      · rw [if_neg fun c => new (one.eq hr hq c called ▸ inDone)]
        exact h.ended q hq called inDone b
      · rw [if_pos called]
        have quiet : t.signals = v.signals :=
          h.still fun p hp c inDone _ => new (one.eq hr hp called c ▸ inDone)
        unfold callEnded items
        rw [quiet, settings]
    · rw [signals, if_neg fun c => none_ r hr c (by simp) back]
      exact h.still fun q hq c inDone b => none_ q hq c (List.mem_append_left _ inDone) b
    · have same : (t.returnToBooked r.number).fault f = t.fault f := by rw [frame]; rfl
      have cond := short_iff.trans (or_iff_left not_short)
      simp only [cond]
      exact same.trans (h.faults f)
  next stays =>
    have back_iff : ∀ {q}, q ∈ v.book.records → (q.number ∈ done ++ [r.number] ∧ v.returns q = true ↔
        q.number ∈ done ∧ v.returns q = true) := fun hq => (back_iff hq).trans (or_iff_left fun ⟨_, back⟩ => stays back)
    have records : t.book.records = v.book.records.map fun q =>
        if q.number ∈ done ++ [r.number] ∧ v.returns q = true then { q with state := .booked, changed := true } else q := by
      rw [h.records]
      exact List.map_congr_left fun q hq => by simp only [back_iff hq]
    have build : ∀ u : State, u = { t with faults := { t.faults with recs := u.faults.recs } } → (∀ f, u.fault f =
        if f = .clearanceShort ∧ (v.fault f).mask = false ∧
            ∃ q ∈ v.book.records, q.number ∈ done ++ [r.number] ∧ v.short q = true then
          { v.fault f with latch := true }
        else v.fault f) → TestedBy v u (done ++ [r.number]) := by
      intro u frame faults
      have book : u.book = t.book := by rw [frame]
      have opening : u.opening = t.opening := by rw [frame]
      have signals : u.signals = t.signals := by rw [frame]
      refine ⟨?_, book ▸ records, fun n => ?_, opening ▸ h.sub, h.left.congr opening, fun q hq c mem b => ?_, fun none_ => ?_, faults⟩
      · generalize u.faults.recs = recs at frame
        subst frame
        rw [h.frame]
      · rw [opening, h.list]
        refine and_congr_right fun _ => forall₂_congr fun q hq => forall_congr' fun e => ?_
        subst e
        rw [back_iff hq]
      · rw [signals]
        exact h.ended q hq c ((back_iff hq).mp ⟨mem, b⟩).1 b
      · rw [signals]
        exact h.still fun q hq c inDone b => none_ q hq c (List.mem_append_left _ inDone) b
    split
    next isShort =>
      refine build _ (raise_frame t _ (by decide)) fun f => ?_
      have cond := short_iff.trans (iff_true_intro (.inr isShort))
      simp only [cond, and_true]
      have mask : (t.fault f).mask = (v.fault f).mask := by
        rw [h.faults f]
        split <;> rfl
      rw [raise_clearanceShort_fault, mask, h.faults f]
      by_cases both : f = .clearanceShort ∧ (v.fault f).mask = false
      · rw [if_pos both, if_pos both]
        split <;> rfl
      · rw [if_neg both, if_neg both, if_neg fun h => both ⟨h.1, h.2.1⟩]
    next notShort =>
      refine build t rfl fun f => ?_
      have cond := short_iff.trans (or_iff_left notShort)
      simp only [cond]
      exact h.faults f

/-- The test of numbers of the list, none twice. -/
theorem testedBy_foldl {v : State} (sound : v.OpeningSound) (ns : List Nat) (apart : ns.Nodup)
    (on : ∀ n ∈ ns, n ∈ v.opening.group) : TestedBy v (ns.foldl testGrouped v) ns := by
  induction ns using List.reverseRecOn with
  | nil => exact .start v
  | append_singleton ns n ih =>
    rw [List.foldl_append]
    rw [List.nodup_append] at apart
    exact (ih apart.1 fun m hm => on m (List.mem_append_left _ hm)).step sound (on n (by simp))
      fun mem => apart.2.2 n mem n (by simp) rfl

end Sys2Proof.Machine.State
end

section
/-!
SUPPORT. The test of the records of the list is that of R140, and a re-evaluation that of R30.
-/

namespace Sys2Proof.Machine.State

open Sys2Proof

theorem exceeds_iff (v : State) (r : Rec) : v.exceeds r = true ↔
    ∃ target, v.opening.target = some target ∧ (r.required = .unachievable ∨ ∃ a, r.required = .angle a ∧ target < a) := by
  unfold exceeds
  rw [Option.any_eq_true]
  refine exists_congr fun target => and_congr_right fun _ => ?_
  cases r.required <;> simp [Required.above]

theorem returns_iff (v : State) (r : Rec) : v.returns r = true ↔ (r.state = .grouped ∨ r.state = .called) ∧
    (r.required = .unachievable ∨ (∃ a, r.required = .angle a ∧ a ≤ 0) ∨ v.opening.frozen = true ∧
      ∃ target, v.opening.target = some target ∧
        (r.required = .unachievable ∨ ∃ a, r.required = .angle a ∧ target < a)) := by
  have needs : r.required.needsOpening = false ↔ r.required = .unachievable ∨ ∃ a, r.required = .angle a ∧ a ≤ 0 := by
    cases r.required <;> simp [Required.needsOpening]
  unfold returns
  rw [Bool.and_eq_true, Bool.or_eq_true, Bool.or_eq_true, Bool.and_eq_true, exceeds_iff, Bool.not_eq_true', needs, or_assoc,
    beq_iff_eq, beq_iff_eq]

theorem short_iff (v : State) (r : Rec) : v.short r = true ↔ r.state = .passing ∧
    ∃ target, v.opening.target = some target ∧
      (r.required = .unachievable ∨ ∃ a, r.required = .angle a ∧ target < a) := by
  unfold short
  rw [Bool.and_eq_true, exceeds_iff, beq_iff_eq]

/-- The records of a sound state that stand on the list are tested as R140 says. -/
theorem testGroup_tested {v : State} (sound : v.OpeningSound) (lead : v.role ≠ .follow) {ns : List Nat} {on : Rec → Prop}
    (apart : ns.Nodup) (listed : ∀ n ∈ ns, n ∈ v.opening.group)
    (onIff : ∀ r ∈ v.book.records, r.number ∈ v.opening.group → (on r ↔ r.number ∈ ns)) : Tested v (v.testGroup ns) on := by
  have by_ := testedBy_foldl sound ns apart listed
  obtain ⟨-, -, -, ⟨-, -, -, states⟩, -⟩ := sound
  have target := recomputeTarget_frame (ns.foldl testGrouped v)
  have back : ∀ r ∈ v.book.records, (on r ∧ (r.state = .grouped ∨ r.state = .called) ∧
      (r.required = .unachievable ∨ (∃ a, r.required = .angle a ∧ a ≤ 0) ∨ v.opening.frozen = true ∧
        ∃ target, v.opening.target = some target ∧
          (r.required = .unachievable ∨ ∃ a, r.required = .angle a ∧ target < a)) ↔
      r.number ∈ ns ∧ v.returns r = true) := fun r hr => by
    rw [returns_iff]
    constructor
    · rintro ⟨o, state, rest⟩
      exact ⟨(onIff r hr ((states r hr).mpr (state.imp id .inl))).mp o, state, rest⟩
    · rintro ⟨mem, state, rest⟩
      exact ⟨(onIff r hr (listed _ mem)).mpr mem, state, rest⟩
  have late : (∃ r ∈ v.book.records, on r ∧ r.state = .passing ∧ ∃ target, v.opening.target = some target ∧
      (r.required = .unachievable ∨ ∃ a, r.required = .angle a ∧ target < a)) ↔
      ∃ r ∈ v.book.records, r.number ∈ ns ∧ v.short r = true := by
    refine exists_congr fun r => and_congr_right fun hr => ?_
    rw [short_iff]
    constructor
    · rintro ⟨o, state, rest⟩
      exact ⟨(onIff r hr ((states r hr).mpr (.inr (.inr state)))).mp o, state, rest⟩
    · rintro ⟨mem, state, rest⟩
      exact ⟨(onIff r hr (listed _ mem)).mpr mem, state, rest⟩
  have records : (v.testGroup ns).book.records = (ns.foldl testGrouped v).book.records := by rw [testGroup, target]
  have group : (v.testGroup ns).opening.group = (ns.foldl testGrouped v).opening.group := by rw [testGroup, target]
  have signals : (v.testGroup ns).signals = (ns.foldl testGrouped v).signals := by rw [testGroup, target]
  have faults : ∀ f, (v.testGroup ns).fault f = (ns.foldl testGrouped v).fault f := fun f => by rw [testGroup, target]; rfl
  refine ⟨?_, ?_, group ▸ by_.sub, fun n => ?_, ?_, fun r hr called returned => ?_, fun none_ => ?_, fun f => ?_⟩
  · have frame := by_.frame
    unfold testGroup
    generalize ns.foldl testGrouped v = t at frame target
    rw [target]
    generalize t.recomputeTarget.opening.target = x
    rw [frame]
  · rw [records, by_.records, List.forall₂_map_right_iff, List.forall₂_same]
    intro r hr
    dsimp only
    rw [back r hr]
    exact ⟨fun h => if_pos h, fun h => if_neg h⟩
  · rw [group, by_.list]
    refine and_congr_right fun _ => forall₂_congr fun r hr => forall_congr' fun e => ?_
    subst e
    exact (not_congr (back r hr)).symm
  · exact by_.left.recomputed lead (by rw [by_.frame])
  · obtain ⟨mem, b⟩ := (back r hr).mp returned
    rw [signals]
    exact by_.ended r hr called mem b
  · rw [signals]
    exact by_.still fun r hr c mem b => none_ r hr c ((back r hr).mpr ⟨mem, b⟩)
  · rw [faults, by_.faults]
    dsimp only
    rw [late]
    exact ⟨fun h => if_pos h, fun h => if_neg h⟩

/-! ### A re-evaluation (R19, R30) -/

theorem rewriteAngles_eq (v : State) : v.rewriteAngles = { v with book := { v.book with records := v.reangled } } := by
  have records : v.rewriteAngles.book.records = v.reangled := by
    refine List.map_congr_left fun r _ => ?_
    have decides : ∀ a b : Required, (a != b) = decide (a ≠ b) := fun a b => by
      rw [bne, beq_eq_decide, decide_not]
    dsimp only
    rw [decides]
    rfl
  rw [← records]
  rfl

/-- Records that change but for their states stand where they did in the opening. -/
theorem GroupPlaced.of_states {s t : State} (placed : s.GroupPlaced) (role : t.role = s.role) (opening : t.opening = s.opening)
    (states : ∀ r ∈ t.book.records, ∃ q ∈ s.book.records, r.state = q.state) : t.GroupPlaced := by
  unfold GroupPlaced at *
  rw [opening, role]
  obtain ⟨empty, linger, idle, close, suspended, phases⟩ := placed
  refine ⟨empty, linger, idle, fun c r hr => ?_, suspended, fun r hr is => ?_⟩
  · obtain ⟨q, hq, same⟩ := states r hr
    rw [same]
    exact close c q hq
  · obtain ⟨q, hq, same⟩ := states r hr
    rw [same] at is
    exact phases q hq is

theorem rewriteAngles_openingSound {v : State} (sound : v.OpeningSound) : v.rewriteAngles.OpeningSound := by
  obtain ⟨numbered, earlier, one, exact_, placed⟩ := sound
  have keeps := rewriteAngles_bookKeeps v
  refine ⟨keeps.numbered numbered, keeps.follows numbered earlier, keeps.calls numbered one, keeps.group numbered exact_,
    placed.of_states rfl rfl fun r hr => ?_⟩
  obtain ⟨q, hq, rfl⟩ := List.mem_map.mp hr
  refine ⟨q, hq, ?_⟩
  dsimp only
  split <;> rfl

theorem reevaluate_reevaluated {v : State} (sound : v.OpeningSound) (lead : v.role ≠ .follow) : Reevaluated v v.reevaluate := by
  have sound' := rewriteAngles_openingSound sound
  have keeps := testGroup_bookKeeps v.rewriteAngles v.rewriteAngles.opening.group
  refine ⟨v.rewriteAngles.testGroup v.rewriteAngles.opening.group, ?_, ?_⟩
  · rw [← rewriteAngles_eq]
    obtain ⟨-, -, -, ⟨-, apart, -⟩, -⟩ := id sound'
    exact testGroup_tested sound' lead apart (fun _ h => h) fun r _ mem => iff_of_true trivial mem
  · exact examineJoins_joins (keeps.numbered sound'.1) (keeps.follows sound'.1 sound'.2.1)

theorem testGrouped_kept (s : State) (n : Nat) : (s.testGrouped n).kept = s.kept := by
  cases found : s.findRec n with
  | none =>
    unfold testGrouped
    rw [found]
  | some r =>
    rw [testGrouped_of_found found]
    split
    · exact returnToBooked_kept s n
    · split
      · exact raise_kept s _
      · rfl

theorem testGroup_kept (s : State) (ns : List Nat) : (s.testGroup ns).kept = s.kept :=
  (recomputeTarget_kept _).trans (foldl_frame testGrouped (fun s t => t.kept = s.kept) (fun _ => rfl)
    (fun _ _ _ h h' => h'.trans h) testGrouped_kept ns s)

theorem reevaluate_kept (v : State) : v.reevaluate.kept = { v.kept with keys := v.levelKeys v.effectiveWater } := by
  have keys : v.rewriteAngles.kept = { v.kept with keys := v.levelKeys v.effectiveWater } := by
    have each : v.rewriteAngles.book.records.map Rec.key = v.levelKeys v.effectiveWater := by
      rw [rewriteAngles, List.map_map]
      refine List.map_congr_left fun r _ => ?_
      simp only [Function.comp_apply]
      split <;> rfl
    rw [← each]
    rfl
  exact ((examineJoins_kept _).trans (testGroup_kept _ _)).trans keys

end Sys2Proof.Machine.State
end

section
/-!
PROOFS. A level that is set and a level that goes stale (R26 to R28, R30).
-/

namespace Sys2Proof.Machine

open Sys2Proof

namespace State

/-- A state once the water record has been written, and what a change of the effective level brings (R27, R28, R30). -/
def afterWater (t : State) (water : Water) : State :=
  let u := { t with water := water }
  if u.effectiveWater = t.effectiveWater then u else u.reevaluate

theorem afterWater_brings (t : State) (water : Water) {level : Int}
    (is : ({ t with water := water } : State).effectiveWater = level) (lead : t.role ≠ .follow) :
    (level = t.effectiveWater → t.afterWater water = { t with water := water }) ∧
      (level ≠ t.effectiveWater → t.OpeningSound → Reevaluated { t with water := water } (t.afterWater water)) := by
  unfold afterWater
  dsimp only
  rw [is]
  refine ⟨fun same => if_pos same, fun other sound => ?_⟩
  rw [if_neg other]
  exact reevaluate_reevaluated sound lead

theorem afterWater_kept (t : State) (water : Water) {level : Int}
    (is : ({ t with water := water } : State).effectiveWater = level) : (t.afterWater water).kept =
      { t.kept with keys := if level = t.effectiveWater then t.kept.keys else t.levelKeys level, water := water } := by
  unfold afterWater
  dsimp only
  rw [is]
  split
  · rfl
  · rw [reevaluate_kept, is]
    rfl

/-- What a level that is set writes. -/
def freshWater (t : State) (level : Int) : Water :=
  { source := .fresh, level := some level, time := some t.clock, life := some t.items.clearance.waterStale.toNat }

theorem waterAnswer_eq {t : State} (lead : t.role ≠ .follow) (level : Int) : t.waterAnswer level =
    if level < -500 ∨ 1500 < level then .refuse .badValue
    else .accept (t.afterWater (t.freshWater level)) fun v => be16 v.effectiveWater := by
  have range : (level < -500 || level > 1500) = true ↔ level < -500 ∨ 1500 < level := by simp
  unfold waterAnswer
  rw [if_neg (by simpa using lead)]
  by_cases bad : level < -500 ∨ 1500 < level
  · rw [if_pos (range.mpr bad), if_pos bad]
  · rw [if_neg (mt range.mp bad), if_neg bad]
    rfl

end State

theorem exec_waterStaleExpiry (s : State) : exec .waterStaleExpiry s =
    .next (if s.wake.waterExpires then s.wake.afterWater { s.wake.water with source := .stale } else s.wake).settle := rfl

/-- Settles O49: both events write the water record, and what follows is the one re-evaluation. -/
theorem waterTaken : Obligations.WaterTaken := by
  intro s lead keysAt brings
  have role : s.asked.role ≠ .follow := by rw [State.asked_role]; exact lead
  have role' : s.wake.role ≠ .follow := role
  have was : s.asked.effectiveWater = s.effectiveWater := s.wake_effectiveWater
  have was' : s.wake.effectiveWater = s.effectiveWater := was
  refine ⟨fun st level who => ⟨fun bad => ?_, fun low high => ?_⟩, fun given life fresh time is => ⟨fun young => ?_, fun due => ?_⟩,
    fun other => ?_⟩
  · rw [exec_setWater s who, State.waterAnswer_eq role, if_pos bad]
    exact congrArg Host.Outcome.next (State.answer_refuse _ _)
  · have clock : s.asked.clock = s.clock := s.wake_clock
    have items : s.asked.items = s.items := s.wake_items
    have water : s.asked.freshWater level =
        ⟨.fresh, some level, some s.clock, some s.items.clearance.waterStale.toNat⟩ := by
      unfold State.freshWater
      rw [clock, items]
    have now : ({ s.asked with water := s.asked.freshWater level } : State).effectiveWater = level := rfl
    have kept := State.afterWater_kept s.asked (s.asked.freshWater level) now
    obtain ⟨same, differs⟩ := State.afterWater_brings s.asked (s.asked.freshWater level) now role
    refine ⟨s.asked.afterWater (s.asked.freshWater level), ?_, ?_⟩
    · have settled : (s.asked.afterWater (s.asked.freshWater level)).settle.effectiveWater = level := by
        have water : (s.asked.afterWater (s.asked.freshWater level)).settle.water = s.asked.freshWater level := by
          rw [← State.kept_water, State.settle_kept, kept]
        unfold State.effectiveWater
        rw [water]
        rfl
      rw [exec_setWater s who, State.waterAnswer_eq role, if_neg (by omega)]
      refine congrArg Host.Outcome.next ((State.answer_accept _ _ _).trans ?_)
      rw [settled]
    · intro fresh
      have isFresh : fresh = s.asked.freshWater level := water.symm
      clear_value fresh
      subst isFresh
      refine ⟨?_, fun e => same (e.trans was.symm), fun ne sound => differs (fun e => ne (e.trans was)) sound⟩
      rw [kept, was, State.asked_kept]
      rfl
  · have old : s.wake.waterExpires = false := by
      unfold State.waterExpires State.waterAge
      rw [s.wake_water, s.wake_clock, time, is]
      simp [young]
    rw [exec_waterStaleExpiry, old]
    rfl
  · have expires : s.wake.waterExpires = true := by
      unfold State.waterExpires State.waterAge
      rw [s.wake_water, s.wake_clock, fresh, time, is]
      simpa using due
    have now : ({ s.wake with water := { s.water with source := .stale } } : State).effectiveWater =
        s.items.clearance.waterHigh := congrArg (fun x : Items => x.clearance.waterHigh) s.wake_items
    have kept := State.afterWater_kept s.wake { s.water with source := .stale } now
    obtain ⟨same, differs⟩ := State.afterWater_brings s.wake { s.water with source := .stale } now role'
    refine ⟨s.wake.afterWater { s.water with source := .stale }, ?_, ?_,
      ⟨fun e => same (e.trans was'.symm), fun ne sound => differs (fun e => ne (e.trans was')) sound⟩, fun right mask => ?_⟩
    · rw [exec_waterStaleExpiry, if_pos expires, s.wake_water]
    · rw [kept, was', State.wake_kept]
    · have water : (s.wake.afterWater { s.water with source := .stale }).water = { s.water with source := .stale } :=
        congrArg Kept.water kept
      have masks : (s.wake.afterWater { s.water with source := .stale }).kept.masks = s.kept.masks := by
        rw [kept, State.wake_kept]
      have unmasked : ((s.wake.afterWater { s.water with source := .stale }).fault .waterStale).mask = false :=
        (State.fault_mask_of_kept masks _).trans mask
      refine ⟨State.settle_latched_of_cause ?_ unmasked ?_, State.settle_cond unmasked fun t same => ?_⟩
      · have right : s.wake.FaultsRight := State.faultsRight_promise.wake right
        unfold State.afterWater
        dsimp only
        split
        · exact right.congr rfl
        · exact (State.Path.reevaluate (full := True) _).faultsRight (right.congr rfl)
      · show ((s.wake.afterWater _).water.source == .stale) = true
        rw [water]
        rfl
      · have water : t.water = { s.water with source := .stale } := (congrArg Kept.water same).trans water
        show (t.water.source == .stale) = true
        rw [water]
        rfl
  · have old : s.wake.waterExpires = false := by
      unfold State.waterExpires
      rw [s.wake_water, beq_false_of_ne other]
      rfl
    rw [exec_waterStaleExpiry, old]
    rfl

end Sys2Proof.Machine
end

section
/-!
SUPPORT. The checks of AMEND, and what a single test brings to a record (R9, R10, R139, R140).
-/

namespace Sys2Proof.Machine

open Sys2Proof

/-- The changes that check 2 of R9 lets pass. -/
def AmendChange.Formed (c : AmendChange) : Prop :=
  (∀ d, c.draft = some d → 100 ≤ d ∧ d ≤ 6000) ∧ (∀ p, c.priority = some p → p ≤ 1) ∧
    ¬(c.notBefore ≠ none ∧ c.dropNotBefore = true) ∧ ¬(c.follows ≠ none ∧ c.dropFollows = true)

theorem priority_ofCode?_isSome (p : Nat) : (Priority.ofCode? p).isSome = true ↔ p ≤ 1 := by
  by_cases h : p ≤ 1
  · rw [State.ofCode?_bookedPriority h]
    simp [h]
  · rw [State.priority_ofCode?_none (by omega)]
    simpa using h

theorem amend_unformed_iff (c : AmendChange) :
    (!c.draft.all draftInRange || !c.priority.all (fun p => (Priority.ofCode? p).isSome) || contradicts c) = true ↔
      ¬AmendChange.Formed c := by
  have draft : c.draft.all draftInRange = true ↔ ∀ d, c.draft = some d → 100 ≤ d ∧ d ≤ 6000 := by
    cases c.draft <;> simp [draftInRange]
  have priority : c.priority.all (fun p => (Priority.ofCode? p).isSome) = true ↔ ∀ p, c.priority = some p → p ≤ 1 := by
    cases c.priority <;> simp [priority_ofCode?_isSome]
  have both : contradicts c = false ↔
      ¬(c.notBefore ≠ none ∧ c.dropNotBefore = true) ∧ ¬(c.follows ≠ none ∧ c.dropFollows = true) := by
    unfold contradicts
    cases c.notBefore <;> cases c.follows <;> cases c.dropNotBefore <;> cases c.dropFollows <;> simp
  have formed : AmendChange.Formed c ↔ (c.draft.all draftInRange = true ∧
      c.priority.all (fun p => (Priority.ofCode? p).isSome) = true ∧ contradicts c = false) := by
    unfold AmendChange.Formed
    rw [draft, priority, both]
  rw [formed]
  cases c.draft.all draftInRange <;> cases c.priority.all _ <;> cases contradicts c <;> simp

namespace State

/-- The required angle that an AMEND leaves (R9, check 7). -/
def amendRequired (s : State) (c : AmendChange) (r : Rec) : Required :=
  match c.draft with | some d => s.requiredFor d | none => r.required

theorem judgeAmend_unformed {s : State} (lead : s.role ≠ .follow) {c : AmendChange} (bad : ¬AmendChange.Formed c) (n : Nat) :
    s.judgeAmend n c = .error .badValue := by
  unfold judgeAmend
  rw [if_neg (by simpa using lead), if_pos ((amend_unformed_iff c).mpr bad)]

theorem judgeAmend_absent {s : State} (lead : s.role ≠ .follow) {c : AmendChange} (formed : AmendChange.Formed c) {n : Nat}
    (absent : s.findRec n = none) : s.judgeAmend n c = .error .notFound := by
  unfold judgeAmend
  rw [if_neg (by simpa using lead), if_neg (mt (amend_unformed_iff c).mp (not_not.mpr formed)), absent]

/-- The checks of R9 on the record found. -/
theorem judgeAmend_found {s : State} (lead : s.role ≠ .follow) {c : AmendChange} (formed : AmendChange.Formed c) {n : Nat}
    {r : Rec} (found : s.findRec n = some r) : s.judgeAmend n c =
      if !r.live then .error .wrongState
      else if r.state == .called || r.state == .passing then .error .inPassage
      else if !c.follows.all (fun f => (s.earlierThan n).any fun q => q.number == f && q.live && q.dir == r.dir) then
        .error .badValue
      else if c.draft.isSome && s.amendRequired c r == .unachievable then .error .clearanceExceeded
      else .ok (r, s.amendRequired c r) := by
  unfold judgeAmend
  rw [if_neg (by simpa using lead), if_neg (mt (amend_unformed_iff c).mp (not_not.mpr formed)), found]
  rfl

theorem amendLed_iff (c : AmendChange) (xs : List Rec) (r : Rec) :
    (!c.follows.all fun f => xs.any fun q => q.number == f && q.live && q.dir == r.dir) = true ↔
      ¬∀ f, c.follows = some f → ∃ q ∈ xs, q.number = f ∧ q.live = true ∧ q.dir = r.dir := by
  cases c.follows <;> simp [and_assoc]

/-! ### What an accepted AMEND writes -/

/-- A number that is taken names a record that may be taken as far as its own fields go. -/
theorem taken_takeable {s : State} {limit : Option Int} {n : Nat} (h : n ∈ s.taken limit) :
    ∃ r ∈ s.book.records, r.number = n ∧ r.takeable ((s.clock : Int) + s.items.channel.gatherWindow) limit = true := by
  have placing : Placing (6 - s.opening.group.length) (fun n => ∃ r ∈ s.book.records, r.number = n ∧
      r.takeable ((s.clock : Int) + s.items.channel.gatherWindow) limit = true) (s.taken limit) := by
    refine placeAll_placing _ (fun r hr => ?_) nofun ⟨.nil, by simp, nofun⟩
    have takes := (eligibleRecs_sublist _ _ _ _).mem ((sortBy_perm _ _).mem_iff.mp hr)
    obtain ⟨mem, takeable⟩ := List.mem_filter.mp takes
    exact ⟨r, mem, rfl, takeable⟩
  exact placing.ofRec n h

/-- A record stays as it is at an examination for joins where it may not be taken. -/
theorem examineJoins_left {s : State} (numbered : s.BookNumbered) {r : Rec} (hr : r ∈ s.book.records)
    (out : s.joinPhase = true →
      r.takeable ((s.clock : Int) + s.items.channel.gatherWindow) (if s.opening.frozen = true then s.opening.target else none) ≠
        true) : r ∈ s.examineJoins.book.records := by
  unfold examineJoins
  generalize (if s.opening.frozen = true then s.opening.target else none) = bound at out
  split
  next asked =>
    simp only [Bool.and_eq_true] at asked
    dsimp only
    split
    · exact hr
    · have off : r.number ∉ s.taken bound := fun mem => by
        obtain ⟨q, hq, same, takes⟩ := taken_takeable mem
        exact out asked.1.2 (List.inj_on_of_nodup_map numbered.2.1 hq hr same ▸ takes)
      generalize s.taken bound = ns at off
      rw [modOpening_book, recomputeTarget_frame, groupThem_eq]
      exact List.mem_map.mpr ⟨r, hr, if_neg off⟩
  next => exact hr

/-- A return leaves the list as R129 says, also where the number was not on it. -/
theorem returnToBooked_leftBy {v : State} {r : Rec} (found : v.findRec r.number = some r)
    (state : r.state = .grouped ∨ r.state = .called) : LeftBy v (v.returnToBooked r.number) := by
  by_cases on : r.number ∈ v.opening.group
  · exact (returnToBooked_effect (.refl v) rfl found state on on).2.2.1
  · refine LeftBy.congr (.refl v) ?_
    rcases returnToBooked_opening v r.number with same | ⟨t, opening, left⟩
    · exact same
    · rw [left]
      unfold leaveGroup
      rw [if_neg (by rw [opening]; simpa using on), opening]

/-- A record that its test returned may not join again at the same event. -/
theorem returned_not_takeable {v : State} {r : Rec} (left : LeftBy v (v.returnToBooked r.number)) (back : v.returns r = true)
    (phase : (v.returnToBooked r.number).recomputeTarget.joinPhase = true) (horizon : Int) :
    ({ r with state := .booked, changed := true } : Rec).takeable horizon
      (if (v.returnToBooked r.number).recomputeTarget.opening.frozen = true then
        (v.returnToBooked r.number).recomputeTarget.opening.target else none) ≠ true := by
  generalize v.returnToBooked r.number = t at left phase
  intro takes
  unfold Rec.takeable at takes
  rw [Bool.and_eq_true, Bool.and_eq_true, Bool.and_eq_true] at takes
  obtain ⟨⟨⟨-, needs⟩, -⟩, below⟩ := takes
  unfold State.returns at back
  simp only [needs, Bool.not_true, Bool.false_or, Bool.and_eq_true] at back
  obtain ⟨-, frozen, above⟩ := back
  have closed : ¬TargetOpen v := fun o => by simp [o.1] at frozen
  unfold LeftBy at left
  dsimp only at left
  split at left
  next =>
    have idle : t.recomputeTarget.opening.phase = .idle := by rw [recomputeTarget_frame, left]
    unfold joinPhase at phase
    rw [idle] at phase
    cases phase
  next =>
    obtain ⟨shape, same⟩ := left
    have shut : t.targetOpen = false := by
      unfold targetOpen
      rw [shape, frozen]
      simp
    have still : t.recomputeTarget = t := by
      unfold recomputeTarget
      rw [if_neg (by simp [shut])]
    have stays : t.opening.frozen = true := by rw [shape]; exact frozen
    rw [still, if_pos stays, same closed] at below
    unfold exceeds at above
    cases target : v.opening.target with
    | none =>
      rw [target] at above
      cases above
    | some a =>
      rw [target] at above below
      simp only [Option.any_some] at above
      simp [above] at below

/-- A GROUPED record that is tested alone stays, or is BOOKED again, and does not join at the same event. -/
theorem testOne_left {v : State} (numbered : v.BookNumbered) {r : Rec} (hr : r ∈ v.book.records) (grouped : r.state = .grouped) :
    ∃ q ∈ (v.testGroup [r.number]).examineJoins.book.records,
      q = r ∨ q = { r with state := .booked, changed := true } := by
  have found := findRec_of_mem numbered.2.1 hr
  have one : v.testGroup [r.number] = (v.testGrouped r.number).recomputeTarget := rfl
  have numbered' := (testGroup_bookKeeps v [r.number]).numbered numbered
  rw [one] at numbered' ⊢
  rw [testGrouped_of_found found] at numbered' ⊢
  by_cases back : v.returns r = true
  · rw [if_pos back] at numbered' ⊢
    have left := returnToBooked_leftBy found (.inl grouped)
    refine ⟨_, examineJoins_left numbered' (r := { r with state := .booked, changed := true }) ?_ fun phase =>
      returned_not_takeable left back phase _, .inr rfl⟩
    rw [recomputeTarget_frame]
    have book : (v.returnToBooked r.number).book = (v.setRecState r.number .booked).book := by
      unfold returnToBooked
      rw [found]
      dsimp only
      rw [grouped]
      dsimp only
      rw [leaveGroup_book]
    rw [book, setRecState_records]
    exact List.mem_map.mpr ⟨r, hr, by simp⟩
  · have not_short : v.short r ≠ true := by simp [State.short, grouped]
    rw [if_neg back, if_neg not_short] at numbered' ⊢
    refine ⟨r, examineJoins_left numbered' (by rw [recomputeTarget_frame]; exact hr) fun _ => ?_, .inl rfl⟩
    simp [Rec.takeable, grouped]

end State

end Sys2Proof.Machine
end

section
/-!
PROOFS. AMEND: its refusals, what it writes, and what it brings to the opening (R9, R10, R139, R140).
-/

namespace Sys2Proof.Machine

open Sys2Proof

/-- The record that an AMEND asks for (R10). -/
def Rec.asAmended (r : Rec) (c : AmendChange) (req : Required) : Rec :=
  { r with
    draft := c.draft.getD r.draft
    required := req
    priority := match c.priority with | some 0 => .routine | some _ => .urgent | none => r.priority
    notBefore := if c.dropNotBefore then none else if c.notBefore = none then r.notBefore else c.notBefore
    follows := if c.dropFollows then none else if c.follows = none then r.follows else c.follows }

namespace State

theorem amended_eq {s : State} {c : AmendChange} (formed : AmendChange.Formed c) (r : Rec) :
    amended c (s.amendRequired c r) r = r.asAmended c (s.amendRequired c r) := by
  obtain ⟨-, low, -⟩ := formed
  have required : (if c.draft.isSome = true then s.amendRequired c r else r.required) = s.amendRequired c r := by
    unfold amendRequired
    cases c.draft <;> rfl
  have priority : (c.priority.bind Priority.ofCode?).getD r.priority =
      match c.priority with | some 0 => .routine | some _ => .urgent | none => r.priority := by
    cases p : c.priority with
    | none => rfl
    | some p' =>
      have := low p' p
      interval_cases p' <;> rfl
  have kept : ∀ a b : Option Nat, (if a.isSome = true then a else b) = if a = none then b else a := fun a b => by
    cases a <;> rfl
  unfold amended Rec.asAmended
  rw [required, priority, kept, kept]

theorem amendOf_eq {s : State} {c : AmendChange} (formed : AmendChange.Formed c) (r : Rec) :
    amendOf c (s.amendRequired c r) r = { r.asAmended c (s.amendRequired c r) with
      changed := r.changed || decide (r.asAmended c (s.amendRequired c r) ≠ r) } := by
  have decides : ∀ a b : Rec, (a != b) = decide (a ≠ b) := fun a b => by rw [bne, beq_eq_decide, decide_not]
  unfold amendOf
  rw [amended_eq formed, decides]

theorem carriesNone_iff (c : AmendChange) : carriesNone c = true ↔
    c = { draft := none, priority := none, notBefore := none, dropNotBefore := false, follows := none, dropFollows := false } := by
  obtain ⟨draft, priority, notBefore, dropNotBefore, follows, dropFollows⟩ := c
  unfold carriesNone
  simp [and_assoc]

/-- The state that an AMEND writes. -/
theorem amendRec_eq {s : State} (apart : (s.book.records.map (·.number)).Nodup) {xs ys : List Rec} {r : Rec}
    (split : s.book.records = xs ++ r :: ys) (c : AmendChange) (req : Required) : s.amendRec r.number c req =
      { s with book := { s.book with records := xs ++ amendOf c req r :: ys } } := by
  rw [split] at apart
  have others : ∀ q, q ∈ xs ∨ q ∈ ys → (if q.number == r.number then amendOf c req q else q) = q := fun q hq => by
    have ne : q.number ≠ r.number := number_ne_of_nodup apart q (List.mem_append.mpr hq)
    rw [if_neg (by simpa using ne)]
  have records : (s.amendRec r.number c req).book.records = xs ++ amendOf c req r :: ys := by
    rw [amendRec_records, split, List.map_append, List.map_cons, if_pos (by simp),
      List.map_congr_left fun q hq => others q (.inl hq), List.map_congr_left fun q hq => others q (.inr hq)]
    simp
  rw [← records]
  rfl

/-- An AMEND of a sound opening leaves it sound. -/
theorem amendRec_openingSound {s : State} {n : Nat} {c : AmendChange} {r : Rec} {req : Required}
    (may : s.Amendable n c r req) (sound : s.OpeningSound) : (s.amendRec n c req).OpeningSound := by
  obtain ⟨numbered, earlier, one, exact_, placed⟩ := sound
  have keeps := amendRec_bookKeeps may
  refine ⟨keeps.numbered numbered, keeps.follows numbered earlier, keeps.calls numbered one, keeps.group numbered exact_,
    placed.of_states rfl rfl fun q hq => ?_⟩
  rw [amendRec_records] at hq
  obtain ⟨p, hp, rfl⟩ := List.mem_map.mp hq
  exact ⟨p, hp, by split <;> rfl⟩

theorem afterAmend_kept (s : State) (n : Nat) (c : AmendChange) (old : RecState) : (s.afterAmend n c old).kept = s.kept := by
  unfold afterAmend
  split
  · rfl
  · split
    · exact examineJoins_kept s
    · split
      · exact (examineJoins_kept _).trans (testGroup_kept _ _)
      · rfl

/-- An examination for joins leaves a record, or makes it GROUPED and changed. -/
theorem examineJoins_rec {s : State} {r : Rec} (hr : r ∈ s.book.records) : ∃ q ∈ s.examineJoins.book.records,
    q = r ∨ q = { r with state := .grouped, changed := true } := by
  unfold examineJoins
  generalize (if s.opening.frozen = true then s.opening.target else none) = bound
  split
  · dsimp only
    split
    · exact ⟨r, hr, .inl rfl⟩
    · generalize s.taken bound = ns
      rw [modOpening_book, recomputeTarget_frame, groupThem_eq]
      refine ⟨_, List.mem_map_of_mem hr, ?_⟩
      split
      · exact .inr rfl
      · exact .inl rfl
  · exact ⟨r, hr, .inl rfl⟩

/-- The record of an accepted AMEND once its part in the opening is done. -/
theorem afterAmend_rec {s : State} (numbered : s.BookNumbered) {r : Rec} (hr : r ∈ s.book.records) (c : AmendChange)
    (state : r.state = .booked ∨ r.state = .grouped) : ∃ q ∈ (s.afterAmend r.number c r.state).book.records,
    q = r ∨ q = { r with state := q.state, changed := true } ∧ q.state ≠ r.state := by
  unfold afterAmend
  split
  · exact ⟨r, hr, .inl rfl⟩
  · rcases state with state | state
    · rw [if_pos (by simp [state])]
      obtain ⟨q, hq, same | grouped⟩ := examineJoins_rec hr
      · exact ⟨q, hq, .inl same⟩
      · refine ⟨q, hq, .inr ⟨?_, ?_⟩⟩
        · rw [grouped]
        · rw [grouped, state]
          exact nofun
    · rw [if_neg (by simp [state])]
      split
      · obtain ⟨q, hq, same | back⟩ := testOne_left numbered hr state
        · exact ⟨q, hq, .inl same⟩
        · refine ⟨q, hq, .inr ⟨?_, ?_⟩⟩
          · rw [back]
          · rw [back, state]
            exact nofun
      · exact ⟨r, hr, .inl rfl⟩

end State

/-- Records of one state and one changed flag are told apart by their keys. -/
theorem Rec.key_eq_iff {x y : Rec} (state : x.state = y.state) (changed : x.changed = y.changed) : x.key = y.key ↔ x = y := by
  refine ⟨fun e => ?_, fun e => congrArg Rec.key e⟩
  obtain ⟨⟩ := x
  obtain ⟨⟩ := y
  simp only [Rec.key, Rec.mk.injEq] at e state changed ⊢
  simp_all

/-- The changed flag of an amended record tells that a field differs. -/
theorem Rec.asAmended_changed (r q : Rec) (c : AmendChange) (req : Required)
    (is : q = { r.asAmended c req with changed := r.changed || decide (r.asAmended c req ≠ r) } ∨
      q = { r.asAmended c req with state := q.state, changed := true } ∧ q.state ≠ r.state) :
    q.changed = true ↔ r.changed = true ∨ q.key ≠ r.key ∨ q.state ≠ r.state := by
  rcases is with is | ⟨is, moved⟩
  · have key : q.key = (r.asAmended c req).key := by rw [is]; rfl
    have state : q.state = r.state := by rw [is]; rfl
    have changed : q.changed = (r.changed || decide (r.asAmended c req ≠ r)) := by rw [is]
    rw [changed, Bool.or_eq_true, decide_eq_true_eq, key, Ne, Ne, Rec.key_eq_iff (x := r.asAmended c req) (y := r) rfl rfl]
    simp [state]
  · rw [is]
    simp [moved]

/-- Settles O45: the checks in their order, the record written, and the joins or the test that its state asks for. -/
theorem amendWritten : Obligations.AmendWritten := by
  intro s n c numbered lead w rs i formed nothing
  have role : w.role ≠ .follow := by rw [State.asked_role]; exact lead
  have numbered' : w.BookNumbered := State.asked_bookNumbered numbered
  have refused : ∀ {res}, w.judgeAmend n c = .error res → exec i s = .next (w.respond res []) := fun judged => by
    rw [exec_amend, judged]
    exact congrArg Host.Outcome.next (State.answer_refuse _ _)
  refine ⟨fun bad => refused (State.judgeAmend_unformed role bad n), fun ok absent => refused (State.judgeAmend_absent role ok ?_),
    fun xs r ys ok split at_n => ?_⟩
  · exact List.find?_eq_none.mpr fun r hr => by simpa using absent r hr
  subst at_n
  intro led req short
  have hr : r ∈ w.book.records := by rw [show w.book.records = _ from split]; simp
  have found : w.findRec r.number = some r := State.findRec_of_mem numbered'.2.1 hr
  have judge := State.judgeAmend_found role ok found
  have ledIff : (!c.follows.all fun f => (w.earlierThan r.number).any fun q => q.number == f && q.live && q.dir == r.dir) = true ↔
      ¬led := by
    rw [State.earlierThan_eq numbered'.2.1 split]
    exact State.amendLed_iff c xs r
  have shortIff : (c.draft.isSome && w.amendRequired c r == .unachievable) = true ↔ short := by
    rw [Bool.and_eq_true, beq_iff_eq, Option.isSome_iff_ne_none]
    exact Iff.rfl
  have idle : r.state = .booked ∨ r.state = .grouped →
      ¬(!r.live) = true ∧ ¬(r.state == .called || r.state == .passing) = true := by
    rintro (state | state) <;> simp [Rec.live, state]
  refine ⟨fun dead => refused ?_, fun under => refused ?_, fun state bad => refused ?_, fun state ok' isShort => refused ?_,
    fun state ok' notShort => ?_⟩
  · rw [judge, if_pos (by simp [dead])]
  · rw [judge, if_neg (by rcases under with u | u <;> simp [Rec.live, u]), if_pos (by rcases under with u | u <;> simp [u])]
  · rw [judge, if_neg (idle state).1, if_neg (idle state).2, if_pos (ledIff.mpr bad)]
  · rw [judge, if_neg (idle state).1, if_neg (idle state).2, if_neg (mt ledIff.mp (not_not.mpr ok')), if_pos (shortIff.mpr isShort)]
  · rw [if_neg (idle state).1, if_neg (idle state).2, if_neg (mt ledIff.mp (not_not.mpr ok')),
      if_neg (mt shortIff.mp notShort)] at judge
    have may : w.Amendable r.number c r req := State.amendable_of_ok judge
    refine ⟨(w.amendRec r.number c req).afterAmend r.number c r.state, ?_, ?_⟩
    · rw [exec_amend, judge]
      exact congrArg Host.Outcome.next (State.answer_accept _ _ _)
    · have writes := State.amendRec_eq numbered'.2.1 split c req
      have writtenIs : State.amendOf c req r = { r.asAmended c req with
          changed := r.changed || decide (r.asAmended c req ≠ r) } := State.amendOf_eq (s := w) ok r
      have mem : State.amendOf c req r ∈ (w.amendRec r.number c req).book.records := by rw [writes]; simp
      have keeps := State.amendRec_bookKeeps may
      have numberedV := keeps.numbered numbered'
      refine ⟨?_, fun none_ => ?_, ?_, fun booked earlier some_ => ?_, fun grouped undrafted => ?_, fun grouped drafted sound => ?_⟩
      · obtain ⟨q, hq, is⟩ := State.afterAmend_rec numberedV mem c state
        refine ⟨q, hq, ?_, Rec.asAmended_changed r q c req ?_⟩
        · rcases is with is | ⟨is, -⟩ <;> rw [is] <;> rfl
        · rw [writtenIs] at is
          exact is
      · have carries : carriesNone c = true := (State.carriesNone_iff c).mpr none_
        have same : State.amendOf c req r = r := by
          rw [writtenIs]
          have still : r.asAmended c req = r := by subst none_; rfl
          rw [still]
          simp
        unfold State.afterAmend
        rw [if_pos carries, writes, same, ← split]
      · rw [State.afterAmend_kept, writes]
        have keys : (xs ++ State.amendOf c req r :: ys).map Rec.key = xs.map Rec.key ++ (State.amendOf c req r).key :: ys.map Rec.key := by
          rw [List.map_append, List.map_cons]
        have key : (State.amendOf c req r).key = (r.asAmended c req).key := by rw [writtenIs]; rfl
        rw [key] at keys
        refine Eq.trans ?_ (congrArg (fun k : Kept => { k with
          keys := xs.map Rec.key ++ (r.asAmended c req).key :: ys.map Rec.key }) s.asked_kept)
        rw [← keys]
        rfl
      · have shape := writes.trans (congrArg (fun q : Rec => ({ w with
          book := { w.book with records := xs ++ q :: ys } } : State)) writtenIs)
        have joins := State.examineJoins_joins numberedV (keeps.follows numbered' earlier)
        have runs : (w.amendRec r.number c req).afterAmend r.number c r.state = (w.amendRec r.number c req).examineJoins := by
          unfold State.afterAmend
          rw [if_neg (mt (State.carriesNone_iff c).mp some_), if_pos (by simp [booked])]
        rw [runs]
        rw [shape] at joins ⊢
        exact joins
      · have shape := writes.trans (congrArg (fun q : Rec => ({ w with
          book := { w.book with records := xs ++ q :: ys } } : State)) writtenIs)
        unfold State.afterAmend
        rw [if_neg (show ¬(r.state == .booked) = true by simp [grouped]), if_neg (show ¬c.draft.isSome = true by simp [undrafted]),
          ite_self]
        exact shape
      · have shape := writes.trans (congrArg (fun q : Rec => ({ w with
          book := { w.book with records := xs ++ q :: ys } } : State)) writtenIs)
        have carries : ¬carriesNone c = true := fun none_ => drafted (by rw [(State.carriesNone_iff c).mp none_])
        have runs : (w.amendRec r.number c req).afterAmend r.number c r.state =
            ((w.amendRec r.number c req).testGroup [r.number]).examineJoins := by
          unfold State.afterAmend
          rw [if_neg carries, if_neg (by simp [grouped]), if_pos (Option.isSome_iff_ne_none.mpr drafted)]
        have soundV := State.amendRec_openingSound may sound
        have more := State.testGroup_bookKeeps (w.amendRec r.number c req) [r.number]
        have joins := State.examineJoins_joins (more.numbered numberedV) (more.follows numberedV soundV.2.1)
        have listed : r.number ∈ (w.amendRec r.number c req).opening.group := by
          obtain ⟨-, -, -, ⟨-, -, -, states⟩, -⟩ := sound
          exact (states r hr).mpr (.inl grouped)
        have tested := State.testGroup_tested (on := fun q => q.number = r.number) soundV role (List.nodup_singleton r.number)
          (fun n hn => List.mem_singleton.mp hn ▸ listed) fun q _ _ => List.mem_singleton.symm
        rw [runs]
        refine ⟨_, ?_, joins⟩
        rw [shape] at tested ⊢
        exact tested

end Sys2Proof.Machine
end

section
/-!
SUPPORT. The items of the settings: what a written item reads, and the checks of the owning blocks (R24, R25, R67, R70, R92, R181).
-/

namespace Sys2Proof.Machine

open Sys2Proof

/-! ### A written item (R181) -/

theorem Masks.put_at_self {m : Masks} {f : FaultId} {b : Bool} (h : Item.mask f ∈ allItems) : (m.put f b).at f = b := by
  cases f
  case lampOut | signalLampOut | waterStale | storeFail | clearanceDelay | unannouncedVessel | clearanceShort | pairMismatch |
      partnerStale => rfl
  all_goals exact absurd h (by decide)

theorem Three.put_at_self {α : Type} (x : Three α) (i : Fin 3) (v : α) : (x.put i v).at i = v := by
  fin_cases i <;> rfl

/-- A number in range reads as it was written. -/
theorem Items.get_put_num (x : Items) {i : Item} {n : Int} (known : i ∈ allItems) (low : i.range.1 ≤ n) (high : n ≤ i.range.2)
    (table : i ≠ .table) (bands : i ≠ .bands) : (x.put i (.num n)).get i = some (.num n) := by
  cases i
  case table => exact absurd rfl table
  case bands => exact absurd rfl bands
  case gateKind g =>
    obtain ⟨ap, ix⟩ := g
    have code : ((GateKind.ofCode? n).getD .unused).code = n := by
      simp only [Item.range] at low high
      interval_cases n <;> rfl
    have read : ∀ k : Six GateKind, ((k.put ix ((GateKind.ofCode? n).getD .unused)).at ix).code = n := fun k => by
      rw [Six.put_at, if_pos rfl]
      exact code
    cases ap <;> exact congrArg (fun c : Int => some (SettingValue.num c)) (read _)
  case zoneUse ap ix =>
    have code : boolCode (!(n == 0)) = n := by
      simp only [Item.range] at low high
      interval_cases n <;> rfl
    have read : ∀ u : Three Bool, boolCode (!(u.put ix (n == 0)).at ix) = n := fun u => by
      rw [Three.put_at_self]
      exact code
    cases ap <;> exact congrArg (fun c : Int => some (SettingValue.num c)) (read _)
  case mask f =>
    have code : boolCode (n == 1) = n := by
      simp only [Item.range] at low high
      interval_cases n <;> rfl
    have read : boolCode ((x.masks.put f (n == 1)).at f) = n := by
      rw [Masks.put_at_self known]
      exact code
    exact congrArg (fun c : Int => some (SettingValue.num c)) read
  all_goals rfl

/-- A band reads as it was carried, its class being 0 or 1. -/
theorem Band.raw_ofRaw {b : RawBand} (h : b.cls ≤ 1) : (Band.ofRaw b).raw = b := by
  obtain ⟨upper, up, down, cls⟩ := b
  have code : (if (cls == 0) = true then 0 else 1) = cls := by
    simp only at h
    interval_cases cls <;> rfl
  unfold Band.ofRaw Band.raw
  dsimp only
  rw [code]

theorem Items.get_put_bands (x : Items) {bs : List RawBand} (h : ∀ b ∈ bs, b.cls ≤ 1) :
    (x.put .bands (.bands bs)).get .bands = some (.bands bs) := by
  have each : (bs.map Band.ofRaw).map Band.raw = bs := by
    rw [List.map_map]
    exact (List.map_congr_left fun b hb => Band.raw_ofRaw (h b hb)).trans (List.map_id bs)
  exact congrArg (fun l => some (SettingValue.bands l)) each

/-! ### The checks of the owning blocks (R24, R25, R67, R70, R92) -/

/-- An item of the road's own use: the kind of a gate or the use of a detector. -/
def Item.OnRoad (i : Item) : Prop := (∃ g, i = .gateKind g) ∨ ∃ x j, i = .zoneUse x j

/-- The values that the owning blocks take. -/
def State.Takes (s : State) (i : Item) (value : SettingValue) : Prop :=
  match value with
  | .table table => i = .table ∧ TableFits s.fullOpen table
  | .bands bands => i = .bands ∧ BandsFit s.fullOpen bands
  | .num n =>
    i.range.1 ≤ n ∧ n ≤ i.range.2 ∧ i ≠ .table ∧ i ≠ .bands ∧
      (i = .fullOpen → s.minOpen ≤ n ∧ ∀ t p, s.items.clearance.table = some t → t.getLast? = some p → p.1 ≤ n) ∧
      (i = .minOpen → n ≤ s.fullOpen) ∧ (i = .skewSlow → n < s.skewHalt) ∧ (i = .skewHalt → s.skewSlow < n) ∧
      (∀ g, i = .gateKind g → s.role = .sole ∨ g.ap = .a ∨ n = 3) ∧
      (∀ x j, i = .zoneUse x j → s.role = .sole ∨ x = .a ∨ n = 1)

namespace State

theorem badB_iff (s : State) (x : Ap) (v unused : Int) : s.badB x v unused = true ↔
    ¬(s.role = .sole ∨ x = .a ∨ v = unused) := by
  unfold badB twin
  cases x <;> simp

/-- The check of a number in its range, beside the road's own. -/
theorem valueRefusal_num {s : State} {i : Item} {n : Int} (low : i.range.1 ≤ n) (high : n ≤ i.range.2)
    (table : i ≠ .table) (bands : i ≠ .bands) : s.valueRefusal i (.num n) =
      match i with
      | .fullOpen =>
        if decide (s.minOpen ≤ n) && (s.items.clearance.table.all fun t => t.getLast?.all fun p => decide (p.1 ≤ n)) then none
        else some .badValue
      | .minOpen => if decide (n ≤ s.fullOpen) then none else some .badValue
      | .skewSlow => if decide (n < s.skewHalt) then none else some .badValue
      | .skewHalt => if decide (s.skewSlow < n) then none else some .badValue
      | .gateKind g => if s.badB g.ap n 3 then some .badValue else if s.roadAtRest then none else some .notAtRest
      | .zoneUse x _ => if s.badB x n 1 then some .badValue else if s.roadAtRest then none else some .notAtRest
      | _ => none := by
  have ranged : i.inRange n = true := by simp [Item.inRange, low, high]
  cases i
  case table => exact absurd rfl table
  case bands => exact absurd rfl bands
  all_goals
    unfold valueRefusal
    dsimp only
    rw [ranged]
    rfl

/-- A number in range is taken where the block's own check passes, and on the road's own items at rest alone. -/
theorem valueRefusal_takes_num {s : State} {i : Item} {n : Int} (low : i.range.1 ≤ n) (high : n ≤ i.range.2)
    (table : i ≠ .table) (bands : i ≠ .bands) :
    (¬s.Takes i (.num n) → s.valueRefusal i (.num n) = some .badValue) ∧
    (s.Takes i (.num n) → i.OnRoad → s.roadAtRest = false → s.valueRefusal i (.num n) = some .notAtRest) ∧
    (s.Takes i (.num n) → (i.OnRoad → s.roadAtRest = true) → s.valueRefusal i (.num n) = none) := by
  rw [valueRefusal_num low high table bands]
  cases i
  case table => exact absurd rfl table
  case bands => exact absurd rfl bands
  case fullOpen =>
    have ok : s.Takes .fullOpen (.num n) ↔ (decide (s.minOpen ≤ n) &&
        (s.items.clearance.table.all fun t => t.getLast?.all fun p => decide (p.1 ≤ n))) = true := by
      simp only [Takes, low, high, Option.all_eq_true, Bool.and_eq_true, decide_eq_true_eq]
      simp
      grind
    simp only [ok, Item.OnRoad]
    grind
  case minOpen =>
    have ok : s.Takes .minOpen (.num n) ↔ decide (n ≤ s.fullOpen) = true := by simp [Takes, low, high]
    simp only [ok, Item.OnRoad]
    grind
  case skewSlow =>
    have ok : s.Takes .skewSlow (.num n) ↔ decide (n < s.skewHalt) = true := by simp [Takes, low, high]
    simp only [ok, Item.OnRoad]
    grind
  case skewHalt =>
    have ok : s.Takes .skewHalt (.num n) ↔ decide (s.skewSlow < n) = true := by simp [Takes, low, high]
    simp only [ok, Item.OnRoad]
    grind
  case gateKind g =>
    have ok : s.Takes (.gateKind g) (.num n) ↔ ¬s.badB g.ap n 3 = true := by
      simp [Takes, low, high, badB_iff]
      tauto
    simp only [ok, Item.OnRoad]
    grind
  case zoneUse x j =>
    have ok : s.Takes (.zoneUse x j) (.num n) ↔ ¬s.badB x n 1 = true := by
      simp [Takes, low, high, badB_iff]
      tauto
    simp only [ok, Item.OnRoad]
    grind
  all_goals
    refine ⟨fun no => absurd ?_ no, fun _ on => ?_, fun _ _ => rfl⟩
    · simp [Takes, low, high]
    · simp [Item.OnRoad] at on

/-- The owning blocks' checks (R24, R25, R67, R70, R92). -/
theorem valueRefusal_takes (s : State) (i : Item) (value : SettingValue) :
    (¬s.Takes i value → s.valueRefusal i value = some .badValue) ∧
    (s.Takes i value → i.OnRoad → s.roadAtRest = false → s.valueRefusal i value = some .notAtRest) ∧
    (s.Takes i value → (i.OnRoad → s.roadAtRest = true) → s.valueRefusal i value = none) := by
  cases value with
  | table t =>
    by_cases is : i = .table
    · subst is
      have ok : s.Takes .table (.table t) ↔ tableOK s.fullOpen t = true := by simp [Takes, tableOK_iff]
      have eq : s.valueRefusal .table (.table t) = if tableOK s.fullOpen t then none else some .badValue := rfl
      simp only [ok, eq, Item.OnRoad]
      grind
    · have no : ¬s.Takes i (.table t) := fun h => is h.1
      exact ⟨fun _ => by cases i <;> first | rfl | exact absurd rfl is, fun h => absurd h no, fun h => absurd h no⟩
  | bands bs =>
    by_cases is : i = .bands
    · subst is
      have ok : s.Takes .bands (.bands bs) ↔ bandsOK s.fullOpen bs = true := by simp [Takes, bandsOK_iff]
      have eq : s.valueRefusal .bands (.bands bs) = if bandsOK s.fullOpen bs then none else some .badValue := rfl
      simp only [ok, eq, Item.OnRoad]
      grind
    · have no : ¬s.Takes i (.bands bs) := fun h => is h.1
      exact ⟨fun _ => by cases i <;> first | rfl | exact absurd rfl is, fun h => absurd h no, fun h => absurd h no⟩
  | num n =>
    by_cases shape : i = .table ∨ i = .bands
    · have no : ¬s.Takes i (.num n) := fun ⟨_, _, table, bands, _⟩ => shape.elim table bands
      refine ⟨fun _ => ?_, fun h => absurd h no, fun h => absurd h no⟩
      rcases shape with rfl | rfl <;> rfl
    · obtain ⟨table, bands⟩ := not_or.mp shape
      by_cases ranged : i.range.1 ≤ n ∧ n ≤ i.range.2
      · exact valueRefusal_takes_num ranged.1 ranged.2 table bands
      · have no : ¬s.Takes i (.num n) := fun ⟨low, high, _⟩ => ranged ⟨low, high⟩
        have out : i.inRange n = false := by
          rw [Item.inRange, ← Bool.not_eq_true, Bool.and_eq_true, decide_eq_true_eq, decide_eq_true_eq]
          exact ranged
        refine ⟨fun _ => ?_, fun h => absurd h no, fun h => absurd h no⟩
        cases i
        case table => exact absurd rfl table
        case bands => exact absurd rfl bands
        all_goals
          unfold valueRefusal
          dsimp only
          rw [out]
          rfl

theorem roadAtRest_iff (s : State) : s.roadAtRest = true ↔
    (s.opening.phase = .idle ∧ (s.role = .follow → s.link.paired = true)) ∧
      ∀ x, s.usesAp x = true → (s.ap x).closure = .openRoad ∨ (s.ap x).closure = .closed ∨ (s.ap x).closure = .restart := by
  simp only [roadAtRest, Bool.and_eq_true, phaseIdle_iff, allUsedAps_iff, Bool.or_eq_true, beq_iff_eq, or_assoc]

theorem atRest_iff (s : State) : s.atRest = true ↔
    (s.opening.phase = .idle ∧ (s.role = .follow → s.link.paired = true)) ∧ s.motion.state = .seatedLocked := by
  simp only [atRest, Bool.and_eq_true, phaseIdle_iff, beq_iff_eq]

end State

theorem Item.restOnly_eq (i : Item) :
    i.restOnly = decide (i.block = .geometry ∨ i.block = .clearance ∨ i.block = .envelope) := by
  unfold Item.restOnly
  cases i.block <;> rfl

end Sys2Proof.Machine
end

section
/-!
SUPPORT. What the owning blocks do with a written item (R184): the working copy and the settle interval, the seat presets (R51), the
required angles (R30), and the gates and detectors (R92).
-/

namespace Sys2Proof.Machine

open Sys2Proof

namespace State

/-- The state with an item written, before the owning block acts (R184, R185). -/
def written (s : State) (i : Item) (value : SettingValue) : State :=
  { s with
      settings := { s.settings with working := s.items.put i value },
      opening := if i.restOnly then { s.opening with settle := .running 2000 } else s.opening }

theorem writeItem_eq (s : State) (i : Item) (value : SettingValue) :
    s.writeItem i value = s.afterWrite i (s.written i value) := by
  unfold writeItem written
  cases i.restOnly <;> rfl

/-! ### What every write leaves (R184) -/

theorem presetWhere_kept (s : State) (f : Track → Bool) : (s.presetWhere f).kept = { s.kept with pos := (s.presetWhere f).pos } := by
  cases value : s.items.geometry.seatCount with
  | none => rw [presetWhere_blank s f value]; rfl
  | some v =>
    have compared : s.presetWhere f = s.presetBoth f v ∨ s.presetWhere f = (s.presetBoth f v).compareTracks := by
      simp only [presetWhere, value]
      split
      exacts [.inr rfl, .inl rfl]
    obtain ⟨-, -, -, -, -, -, kept⟩ := compared_track compared .p
    rw [kept, presetBoth_kept]

/-- The preset of a changed SEAT_COUNT, channel by channel (R51, R52). -/
theorem presetUnreferenced_counter {s : State} {v : Int} (value : s.items.geometry.seatCount = some v) (ch : Channel) :
    (s.presetUnreferenced.track ch).counter =
      if (s.track ch).ref ≠ .referenced ∧ (s.track ch).sensorFault = false then v else (s.track ch).counter := by
  let f : Track → Bool := fun t => t.ref != .referenced
  have compared : s.presetUnreferenced = s.presetBoth f v ∨ s.presetUnreferenced = (s.presetBoth f v).compareTracks := by
    simp only [presetUnreferenced, presetWhere, value]
    split
    exacts [.inr rfl, .inl rfl]
  have each : (s.presetBoth f v).track ch = s.presetTrack f v ch := by
    cases ch <;> simp [track, presetBoth_pos]
  rw [(compared_track compared ch).1, each, presetTrack]
  simp only [f, bne_iff_ne, Bool.and_eq_true, Bool.not_eq_true']
  split
  exacts [rfl, rfl]

theorem setAp_settingsSettle (s : State) (x : Ap) (a : Approach) :
    (s.setAp x a).settings = s.settings ∧ (s.setAp x a).opening.settle = s.opening.settle := by
  cases x <;> exact ⟨rfl, rfl⟩

/-- What the owning block does leaves the settings and the settle interval (R184). -/
theorem afterWrite_settings (s : State) (i : Item) (t : State) :
    (s.afterWrite i t).settings = t.settings ∧ (s.afterWrite i t).opening.settle = t.opening.settle := by
  have read {u : State} (keys : List Rec) (pos : Position) (h : u.kept = { t.kept with keys := keys, pos := pos }) :
      u.settings = t.settings ∧ u.opening.settle = t.opening.settle :=
    ⟨congrArg Kept.settings h, congrArg Kept.settle h⟩
  have angles := read _ _ t.reevaluate_kept
  cases i
  case seatCount =>
    unfold afterWrite
    dsimp only
    split
    · exact read _ _ (t.presetWhere_kept _)
    · exact ⟨rfl, rfl⟩
  case table | clearanceMargin => exact angles
  case waterHigh =>
    unfold afterWrite
    dsimp only
    split
    exacts [⟨rfl, rfl⟩, angles]
  case gateKind g =>
    have frame := t.onGate_sameButAps g fun _ _ k y => y.rekind ((s.kinds g.ap).at g.ix) k
    have kept := frame.kept
    exact ⟨congrArg Kept.settings kept, congrArg Kept.settle kept⟩
  case zoneUse x j =>
    unfold afterWrite
    dsimp only
    split
    exacts [⟨rfl, rfl⟩, t.setAp_settingsSettle x _]
  all_goals exact ⟨rfl, rfl⟩

/-! ### The required angles (R19, R30) -/

theorem written_openingSound {s : State} (sound : s.OpeningSound) (i : Item) (value : SettingValue) :
    (s.written i value).OpeningSound := by
  unfold written
  cases i.restOnly <;> exact sound

theorem written_effectiveWater_num (s : State) (n : Int) : (s.written .waterHigh (.num n)).effectiveWater =
    if s.water.source = .fresh ∧ s.water.level ≠ none then s.effectiveWater else n := by
  unfold effectiveWater
  cases source : s.water.source with
  | fresh => cases level : s.water.level <;> simp [written, source, level, items, Items.put, SettingValue.int]
  | none | stale => simp [written, source, items, Items.put, SettingValue.int]

/-- A level in use, or an unchanged WATER_HIGH, leaves the effective level (R27). -/
theorem written_effectiveWater_iff (s : State) (n : Int) :
    (s.written .waterHigh (.num n)).effectiveWater = s.effectiveWater ↔
      s.water.source = .fresh ∧ s.water.level ≠ none ∨ n = s.items.clearance.waterHigh := by
  rw [written_effectiveWater_num]
  split
  next inUse => simp [inUse]
  next stale =>
    have high : s.effectiveWater = s.items.clearance.waterHigh := by
      unfold effectiveWater
      cases source : s.water.source with
      | fresh => cases level : s.water.level <;> simp_all
      | none | stale => rfl
    rw [high]
    exact (or_iff_right stale).symm

/-! ### The gates (R92) -/

theorem unusedKinds_at (j : Fin 6) : unusedKinds.at j = .unused := by
  fin_cases j <;> rfl

theorem kinds_written (s : State) (g : GateId) (n : Int) : ((s.written (.gateKind g) (.num n)).kinds g.ap).at g.ix =
    if s.usesAp g.ap = true then (GateKind.ofCode? n).getD .unused else .unused := by
  obtain ⟨x, j⟩ := g
  have uses : (s.written (.gateKind ⟨x, j⟩) (.num n)).usesAp x = s.usesAp x := rfl
  rw [kinds, uses]
  split
  · cases x <;> exact (Six.put_at ..).trans (if_pos rfl)
  · exact unusedKinds_at j

theorem gateUsed_usesAp {s : State} {g : GateId} (h : s.gateUsed g = true) : s.usesAp g.ap = true := by
  by_contra off
  simp [gateUsed, kinds, off, unusedKinds_at] at h

theorem kind_written_unused {n : Int} (low : 0 ≤ n) (high : n ≤ 3) : (GateKind.ofCode? n).getD .unused = .unused ↔ n = 3 := by
  interval_cases n <;> decide

end State

end Sys2Proof.Machine
end

section
/-!
PROOFS. WRITE_SETTING (O55): the refusals in their order, the value read back, and what the owning block does with it.
-/

namespace Sys2Proof.Machine

open Sys2Proof

namespace State

/-! ### What an accepted write does, item by item -/

theorem writeItem_settings (s : State) (i : Item) (value : SettingValue) :
    (s.writeItem i value).settings = (s.written i value).settings ∧
      (s.writeItem i value).opening.settle = (s.written i value).opening.settle := by
  rw [writeItem_eq]
  exact afterWrite_settings ..

theorem writeItem_items (s : State) (i : Item) (value : SettingValue) : (s.writeItem i value).items = s.items.put i value :=
  congrArg Settings.working (s.writeItem_settings i value).1

theorem writeItem_get {s : State} {i : Item} {value : SettingValue} (known : i ∈ allItems) (takes : s.Takes i value) :
    (s.writeItem i value).items.get i = some value := by
  rw [writeItem_items]
  cases value with
  | num n =>
    obtain ⟨low, high, table, bands, -⟩ := takes
    exact s.items.get_put_num known low high table bands
  | table t =>
    obtain ⟨rfl, -⟩ := takes
    rfl
  | bands bs =>
    obtain ⟨rfl, -, -, each, -⟩ := takes
    refine s.items.get_put_bands fun b hb => ?_
    obtain ⟨-, -, -, -, -, -, cls⟩ := each b hb
    exact cls

/-- A write of an item that no block acts on. -/
theorem writeItem_plain {s : State} {i : Item} (value : SettingValue) (seat : i ≠ .seatCount) (table : i ≠ .table)
    (margin : i ≠ .clearanceMargin) (high : i ≠ .waterHigh) (credits : i ≠ .roadCredits) (window : i ≠ .gatherWindow)
    (road : ¬i.OnRoad) : s.writeItem i value = s.written i value := by
  rw [writeItem_eq]
  cases i
  case seatCount => exact absurd rfl seat
  case table => exact absurd rfl table
  case clearanceMargin => exact absurd rfl margin
  case waterHigh => exact absurd rfl high
  case roadCredits => exact absurd rfl credits
  case gatherWindow => exact absurd rfl window
  case gateKind g => exact absurd (.inl ⟨g, rfl⟩) road
  case zoneUse x j => exact absurd (.inr ⟨x, j, rfl⟩) road
  all_goals rfl

/-- A write of the table or of the clearance margin brings a re-evaluation at the level as it stands (R30). -/
theorem writeItem_angles {s : State} {i : Item} (value : SettingValue) (is : i = .table ∨ i = .clearanceMargin) :
    s.writeItem i value = (s.written i value).reevaluate ∧ (s.written i value).effectiveWater = s.effectiveWater := by
  rw [writeItem_eq]
  rcases is with rfl | rfl
  · refine ⟨rfl, ?_⟩
    have same : (s.items.put .table value).clearance.waterHigh = s.items.clearance.waterHigh := by cases value <;> rfl
    unfold effectiveWater
    exact (congrArg (fun h : Int => match s.water.source with | .fresh => s.water.level.getD h | _ => h) same)
  · exact ⟨rfl, rfl⟩

/-- A written SEAT_COUNT presets the channels that are not REFERENCED on a seated leaf (R51). -/
theorem writeItem_seatCount (s : State) (n : Int) :
    (s.pos.seat ≠ some true → s.writeItem .seatCount (.num n) = s.written .seatCount (.num n)) ∧
    (s.pos.seat = some true → ∀ ch, ((s.writeItem .seatCount (.num n)).track ch).counter =
      if (s.track ch).ref ≠ .referenced ∧ (s.track ch).sensorFault = false then n else (s.track ch).counter) := by
  have act : s.writeItem .seatCount (.num n) = if s.pos.seat == some true
      then (s.written .seatCount (.num n)).presetUnreferenced else s.written .seatCount (.num n) := s.writeItem_eq _ _
  refine ⟨fun off => ?_, fun on ch => ?_⟩
  · rw [act, if_neg (by simpa using off)]
  · rw [act, if_pos (by simpa using on)]
    exact presetUnreferenced_counter rfl ch

/-- A written WATER_HIGH brings a re-evaluation where the effective level changes (R30). -/
theorem writeItem_waterHigh (s : State) (n : Int) : s.writeItem .waterHigh (.num n) =
    if (s.written .waterHigh (.num n)).effectiveWater = s.effectiveWater then s.written .waterHigh (.num n)
    else (s.written .waterHigh (.num n)).reevaluate := s.writeItem_eq _ _

/-- The written kind of a gate is taken by that gate alone (R92). -/
theorem writeItem_gateKind {s : State} {g : GateId} {n : Int} (low : 0 ≤ n) (high : n ≤ 3) :
    let u := s.writeItem (.gateKind g) (.num n)
    (∀ h, h ≠ g → u.gate h = s.gate h) ∧
    (s.gateUsed g = true → n ≠ 3 → u.gate g = s.gate g) ∧
    (s.gateUsed g = true → n = 3 → (u.gate g).lamp = .dark ∧ (u.gate g).retryWait = .stopped ∧
      (u.gate g).travel = .stopped ∧ (u.gate g).holdFlash = .stopped) ∧
    (s.gateUsed g = false → s.usesAp g.ap = true → n ≠ 3 → (u.gate g).held = true ∧ (u.gate g).retryCount = 0 ∧
      (u.gate g).state =
        match (s.gate g).limits with
        | some ⟨true, false⟩ => .up
        | some ⟨false, true⟩ => .down
        | _ => .unknown) := by
  intro u
  let v := s.written (.gateKind g) (.num n)
  let old := (s.kinds g.ap).at g.ix
  have act : u = v.onGate g fun _ _ k y => y.rekind old k := s.writeItem_eq _ _
  have own : u.gate g = (s.gate g).rekind old ((v.kinds g.ap).at g.ix) := by
    rw [act, onGate_same]
    rfl
  have used : s.gateUsed g = true ↔ old ≠ .unused := bne_iff_ne
  have kind := s.kinds_written g n
  refine ⟨fun h ne => ?_, fun was ne => ?_, fun was is => ?_, fun was uses ne => ?_⟩
  · rw [act, onGate_other _ ne]
    rfl
  · rw [if_pos (gateUsed_usesAp was)] at kind
    have stays : (v.kinds g.ap).at g.ix ≠ .unused := fun h => ne ((kind_written_unused low high).mp (kind.symm.trans h))
    rw [own, Gate.rekind]
    simp [stays, used.mp was]
  · rw [if_pos (gateUsed_usesAp was)] at kind
    have gone : (v.kinds g.ap).at g.ix = .unused := kind.trans ((kind_written_unused low high).mpr is)
    rw [own, Gate.rekind]
    simp [gone, used.mp was, Gate.reset]
  · rw [if_pos uses] at kind
    have stays : (v.kinds g.ap).at g.ix ≠ .unused := fun h => ne ((kind_written_unused low high).mp (kind.symm.trans h))
    have old_ : old = .unused := by
      by_contra h
      rw [used.mpr h] at was
      cases was
    have new : u.gate g = { Gate.reset ((v.kinds g.ap).at g.ix) with
        limits := (s.gate g).limits, obstruct := (s.gate g).obstruct }.restFromLimits := by
      rw [own, Gate.rekind, old_]
      simp [stays, Ne.symm stays]
    rw [new]
    exact ⟨rfl, rfl, Gate.stateFromLimits_eq _⟩

/-- The written use of a detector is taken by its approach alone, the reading being absent where the use changes (R92;
entry 30). -/
theorem writeItem_zoneUse {s : State} {x : Ap} {j : Fin 3} (n : Int) (y : Ap) :
    (s.writeItem (.zoneUse x j) (.num n)).ap y = if y = x ∧ s.usesAp x = true ∧ (s.zoneUse x).at j ≠ decide (n = 0)
      then { s.ap x with zones := (s.ap x).zones.put j none } else s.ap y := by
  let v := s.written (.zoneUse x j) (.num n)
  have use : (v.zoneUse x).at j = if s.usesAp x = true then decide (n = 0) else (s.zoneUse x).at j := by
    have uses : v.usesAp x = s.usesAp x := rfl
    unfold zoneUse
    rw [uses]
    split
    · cases x <;> exact Three.put_at_self _ _ _
    · rfl
  have act : s.writeItem (.zoneUse x j) (.num n) = if (v.zoneUse x).at j == (s.zoneUse x).at j then v
      else v.setAp x { s.ap x with zones := (s.ap x).zones.put j none } := s.writeItem_eq _ _
  rw [act, use]
  by_cases uses : s.usesAp x = true
  · by_cases same : (s.zoneUse x).at j = decide (n = 0)
    · simp only [uses, if_true, same, beq_self_eq_true, ne_eq, not_true_eq_false, and_false, if_false]
      rfl
    · rw [if_pos uses, if_neg (by simpa using Ne.symm same)]
      by_cases own : y = x
      · subst own
        rw [setAp_ap, if_pos ⟨rfl, uses, same⟩]
      · rw [setAp_other _ _ own, if_neg fun h => own h.1]
        rfl
  · simp only [uses, if_false, beq_self_eq_true, if_true, Bool.false_eq_true, false_and, and_false]
    rfl

end State

/-! ### The command -/

/-- How WRITE_SETTING is answered (R184). -/
def State.writeAnswer (s : State) (item : Nat) (value : SettingValue) : Answer :=
  match s.judgeWrite item value with
  | .error r => .refuse r
  | .ok i => .accept (s.writeItem i value) fun _ => i.valueBytes value

theorem exec_writeSetting (s : State) (item : Nat) (value : SettingValue) :
    exec (.writeSetting .maintenance item value) s = .next (s.asked.answer (s.asked.writeAnswer item value)) := by
  unfold exec execWriteSetting
  exact s.request_allowed _ _ (fun t => t.writeAnswer item value) rfl

theorem exec_writeSetting_refused {s : State} {item : Nat} {value : SettingValue} {r : Result}
    (h : s.asked.judgeWrite item value = .error r) :
    exec (.writeSetting .maintenance item value) s = .next (s.asked.respond r []) := by
  rw [exec_writeSetting, State.writeAnswer, h]
  rfl

namespace State

theorem asked_takes (s : State) (i : Item) (value : SettingValue) : s.asked.Takes i value ↔ s.Takes i value := by
  simp only [Takes, fullOpen, minOpen, skewSlow, skewHalt, asked_items, asked_role]

/-- The checks of R184 in their order. -/
theorem judgeWrite_unknown {s : State} {k : Nat} (value : SettingValue) (free : ¬s.storeBusy = true) (unlocked : ¬s.isProtected = true)
    (big : 58 < k) : s.judgeWrite k value = .error .badValue := by
  have none_ : Item.ofNumber? k = none := by
    rw [Item.ofNumber?, List.getElem?_eq_none_iff]
    exact big
  rw [judgeWrite, if_neg free, if_neg unlocked, none_]

theorem judgeWrite_notAtRest {s : State} {k : Nat} {i : Item} (value : SettingValue) (free : ¬s.storeBusy = true)
    (unlocked : ¬s.isProtected = true) (found : Item.ofNumber? k = some i) (rest : i.restOnly = true) (away : ¬s.atRest = true) :
    s.judgeWrite k value = .error .notAtRest := by
  simp only [judgeWrite, if_neg free, if_neg unlocked, found, rest, away, Bool.not_false, Bool.and_true, if_true]

theorem judgeWrite_refused {s : State} {k : Nat} {i : Item} {value : SettingValue} {r : Result} (free : ¬s.storeBusy = true)
    (unlocked : ¬s.isProtected = true) (found : Item.ofNumber? k = some i) (rest : i.restOnly = true → s.atRest = true)
    (refused : s.valueRefusal i value = some r) : s.judgeWrite k value = .error r := by
  have may : ¬(i.restOnly && !s.atRest) = true := by simpa using rest
  simp only [judgeWrite, if_neg free, if_neg unlocked, found, if_neg may, refused]

theorem judgeWrite_ok {s : State} {k : Nat} {i : Item} {value : SettingValue} (free : ¬s.storeBusy = true)
    (unlocked : ¬s.isProtected = true) (found : Item.ofNumber? k = some i) (rest : i.restOnly = true → s.atRest = true)
    (taken : s.valueRefusal i value = none) : s.judgeWrite k value = .ok i := by
  have may : ¬(i.restOnly && !s.atRest) = true := by simpa using rest
  simp only [judgeWrite, if_neg free, if_neg unlocked, found, if_neg may, taken]

/-- The items whose block acts through a re-evaluation, written on a state that a request finds (R30). -/
theorem asked_writeItem_angles {s : State} {i : Item} (value : SettingValue) (is : i = .table ∨ i = .clearanceMargin) :
    (s.asked.writeItem i value).kept = { (s.asked.written i value).kept with
        keys := (s.asked.written i value).levelKeys s.effectiveWater } ∧
      (s.role ≠ .follow → s.asked.OpeningSound → Reevaluated (s.asked.written i value) (s.asked.writeItem i value)) := by
  obtain ⟨act, level⟩ := s.asked.writeItem_angles value is
  rw [act]
  refine ⟨?_, fun lead sound => reevaluate_reevaluated (written_openingSound sound i value) ?_⟩
  · rw [reevaluate_kept, level]
    exact congrArg (fun h => ({ (s.asked.written i value).kept with keys := (s.asked.written i value).levelKeys h } : Kept))
      s.wake_effectiveWater
  · rw [← s.asked_role] at lead
    exact lead

theorem asked_writeItem_waterHigh (s : State) (n : Int) :
    let u := s.asked.writeItem .waterHigh (.num n)
    let v := s.asked.written .waterHigh (.num n)
    let same := s.water.source = .fresh ∧ s.water.level ≠ none ∨ n = s.items.clearance.waterHigh
    (same → u = v) ∧ (¬same → u.kept = { v.kept with keys := v.levelKeys n }) ∧
      (¬same → s.role ≠ .follow → s.asked.OpeningSound → Reevaluated v u) := by
  intro u v same
  have water : s.asked.water = s.water := s.wake_water
  have stays := s.asked.written_effectiveWater_iff n
  have level := s.asked.written_effectiveWater_num n
  rw [water, s.asked_items] at stays
  rw [water] at level
  have act : u = if v.effectiveWater = s.asked.effectiveWater then v else v.reevaluate := s.asked.writeItem_waterHigh n
  refine ⟨fun h => ?_, fun h => ?_, fun h lead sound => ?_⟩
  · rw [act, if_pos (stays.mpr h)]
  · rw [act, if_neg (mt stays.mp h), reevaluate_kept, level, if_neg fun inUse => h (.inl inUse)]
  · rw [act, if_neg (mt stays.mp h)]
    rw [← s.asked_role] at lead
    exact reevaluate_reevaluated (written_openingSound sound _ _) lead

end State

/-- Settles O55: the checks in their order, and the item read back with what its block does. -/
theorem settingWritten : Obligations.SettingWritten := by
  intro s k value w c shut idle road
  have free (h : s.settings.writing = none) : ¬w.storeBusy = true := by
    rw [s.asked_storeBusy]
    exact not_not.mpr h
  have unlocked (h : ¬shut) : ¬w.isProtected = true := mt s.asked_isProtected_iff.mp h
  have items : w.items = s.items := s.asked_items
  have uses : ∀ x, w.usesAp x = s.usesAp x := s.asked_usesAp
  refine ⟨fun writing => ?_, fun writing locked => ?_, fun writing no big => ?_, fun i writing no found => ?_⟩
  · exact exec_writeSetting_refused (by rw [State.judgeWrite, if_pos (s.asked_storeBusy.mpr writing)])
  · exact exec_writeSetting_refused
      (by rw [State.judgeWrite, if_neg (free writing), if_pos (s.asked_isProtected_iff.mpr locked)])
  · exact exec_writeSetting_refused (State.judgeWrite_unknown value (free writing) (unlocked no) big)
  · intro restOnly rests good onRoad
    have rest : i.restOnly = restOnly := i.restOnly_eq
    have atRest : w.atRest = true ↔ rests := by
      rw [State.atRest_iff, s.asked_role, s.asked_paired]
    have atRoad : w.roadAtRest = true ↔ road := by
      rw [State.roadAtRest_iff, s.asked_role, s.asked_paired]
      simp only [uses]
      rfl
    have takes : w.Takes i value ↔ good := by
      rw [s.asked_takes]
      cases value <;> exact Iff.rfl
    have may (h : restOnly = true → rests) : i.restOnly = true → w.atRest = true := fun only => atRest.mpr (h (rest ▸ only))
    obtain ⟨bad, away, fine⟩ := w.valueRefusal_takes i value
    refine ⟨fun only no' => ?_, fun ok no' => ?_, fun ok on off => ?_, fun ok fits atRoad' => ?_⟩
    · exact exec_writeSetting_refused
        (State.judgeWrite_notAtRest value (free writing) (unlocked no) found (rest.trans only) (mt atRest.mp no'))
    · exact exec_writeSetting_refused
        (State.judgeWrite_refused (free writing) (unlocked no) found (may ok) (bad (mt takes.mp no')))
    · have never : ¬i.restOnly = true := by
        rcases on with ⟨g, rfl⟩ | ⟨x, j, rfl⟩ <;> exact Bool.false_ne_true
      exact exec_writeSetting_refused (State.judgeWrite_refused (free writing) (unlocked no) found (fun h => absurd h never)
        (away (takes.mpr ok) on (Bool.not_eq_true _ ▸ mt atRoad.mp off)))
    · have judged : w.judgeWrite k value = .ok i := State.judgeWrite_ok (free writing) (unlocked no) found (may ok)
        (fine (takes.mpr fits) fun on => atRoad.mpr (atRoad' on))
      have run : exec c s = .next ((w.writeItem i value).settle.respond .ok (i.valueBytes value)) := by
        rw [exec_writeSetting, State.writeAnswer, judged]
        rfl
      refine ⟨_, run, fun n is => ?_, ?_⟩
      · subst is
        rfl
      have written : ({ w with
          settings := { s.settings with working := s.items.put i value },
          opening := if restOnly then { w.opening with settle := .running 2000 } else w.opening } : State) =
          w.written i value := by
        rw [State.written, rest, items, s.asked_settings]
      rw [written]
      intro v
      have known : i ∈ allItems := List.mem_of_getElem? found
      obtain ⟨settings, settle⟩ := w.writeItem_settings i value
      refine ⟨settings, settle, State.writeItem_get known (takes.mpr fits), fun seat table margin high credits window off => ?_,
        State.asked_writeItem_angles value, fun table is => ?_, fun bands is => ?_, fun n is => ?_⟩
      · exact State.writeItem_plain value seat table margin high credits window off
      · subst is
        obtain ⟨rfl, -⟩ := fits
        rw [w.writeItem_items, items]
        rfl
      · subst is
        obtain ⟨rfl, -⟩ := fits
        rw [w.writeItem_items, items]
        rfl
      · subst is
        obtain ⟨low, high, -⟩ := fits
        have seat : w.pos = s.pos := s.asked_pos
        refine ⟨fun is => ?_, fun is => ?_, fun is => ?_, fun is => ?_, fun g is => ?_, fun x j is y => ?_⟩
        · subst is
          have track (ch : Channel) : w.track ch = s.track ch := by
            cases ch
            exacts [congrArg Position.p seat, congrArg Position.c seat]
          obtain ⟨off, on⟩ := w.writeItem_seatCount n
          rw [seat] at off on
          exact ⟨off, fun seated ch => by rw [on seated ch, track]⟩
        · subst is
          obtain ⟨same, differs, angles⟩ := s.asked_writeItem_waterHigh n
          refine ⟨?_, same, angles⟩
          split
          next h => exact congrArg State.kept (same h)
          next h => exact differs h
        · subst is
          have clock : w.clock = s.clock := s.asked_clock
          have horizon : w.horizon = s.horizon := s.wake_horizon
          have act : w.writeItem .gatherWindow (.num n) = { v with horizon := min w.horizon (w.clock + n) } := w.writeItem_eq _ _
          rw [act, clock, horizon]
        · subst is
          exact w.writeItem_eq _ _
        · subst is
          obtain ⟨others, stays, gone, starts⟩ := State.writeItem_gateKind (s := w) (g := g) low high
          rw [show w.gateUsed g = s.gateUsed g from s.asked_gateUsed g] at stays gone starts
          rw [uses] at starts
          refine ⟨others, stays, gone, starts⟩
        · subst is
          have act := w.writeItem_zoneUse (x := x) (j := j) n y
          rw [uses, show w.zoneUse x = s.zoneUse x from s.asked_zoneUse x] at act
          exact act

end Sys2Proof.Machine
end

section
/-!
SUPPORT. The bytes of the port read back as the values they were formed from (R193), and the value of a WRITE_SETTING frame (R190).
-/

namespace Sys2Proof.Machine

open Sys2Proof

/-! ### Bytes (R193) -/

theorem byte_ofInt_eq {v : Int} {b : Byte} (h : v % 256 = b.toNat) : BitVec.ofInt 8 v = b := by
  apply BitVec.eq_of_toNat_eq
  rw [BitVec.toNat_ofInt]
  omega

theorem u8_of_byte (b : Byte) : u8 b.toNat = [b] := by
  unfold u8
  simp

theorem be16_beNat (a b : Byte) : be16 (beNat [a, b]) = [a, b] := by
  have two : beNat [a, b] = a.toNat * 256 + b.toNat := by simp [beNat]
  rw [be16, two, byte_ofInt_eq (b := a) (by omega), byte_ofInt_eq (b := b) (by omega)]

theorem be16_beInt16 (a b : Byte) : be16 (beInt16 [a, b]) = [a, b] := by
  have two : beNat [a, b] = a.toNat * 256 + b.toNat := by simp [beNat]
  have value : beInt16 [a, b] % 65536 = a.toNat * 256 + b.toNat := by
    rw [beInt16, two]
    split <;> omega
  rw [be16, byte_ofInt_eq (b := a) (by omega), byte_ofInt_eq (b := b) (by omega)]

theorem be32_beInt32 (a b c d : Byte) : be32 (beInt32 [a, b, c, d]) = [a, b, c, d] := by
  have four : beNat [a, b, c, d] = ((a.toNat * 256 + b.toNat) * 256 + c.toNat) * 256 + d.toNat := by simp [beNat]
  have value : beInt32 [a, b, c, d] % 4294967296 = ((a.toNat * 256 + b.toNat) * 256 + c.toNat) * 256 + d.toNat := by
    rw [beInt32, four]
    split <;> omega
  rw [be32, byte_ofInt_eq (b := a) (by omega), byte_ofInt_eq (b := b) (by omega), byte_ofInt_eq (b := c) (by omega),
    byte_ofInt_eq (b := d) (by omega)]

/-! ### The lists of a table and of an envelope (R190) -/

/-- The bytes of a breakpoint. -/
def pointBytes (p : Int × Int) : List Byte := be16 p.1 ++ be16 p.2

/-- The bytes of a band. -/
def bandBytes (b : RawBand) : List Byte := be16 b.upper ++ be16 b.upLimit ++ be16 b.downLimit ++ u8 b.cls

/-- Four bytes for each breakpoint give a table of those bytes, and no other bytes give one of that many. -/
theorem breakpointsOf?_spec (n : Nat) (bs : List Byte) :
    (bs.length = 4 * n → ∃ t, breakpointsOf? bs = some t ∧ t.length = n ∧ t.flatMap pointBytes = bs) ∧
      ∀ t, breakpointsOf? bs = some t → bs.length = 4 * t.length := by
  induction bs using breakpointsOf?.induct generalizing n with
  | case1 =>
    refine ⟨fun h => ⟨[], rfl, by simpa [eq_comm] using h, rfl⟩, fun t h => ?_⟩
    cases h
    rfl
  | case2 a b c d rest ih =>
    refine ⟨fun h => ?_, fun t h => ?_⟩
    · obtain _ | m := n
      · simp at h
      · obtain ⟨t, found, count, bytes⟩ := (ih m).1 (by simp at h; omega)
        refine ⟨(sint2 a b, sint2 c d) :: t, by rw [breakpointsOf?, found]; rfl, by rw [List.length_cons, count], ?_⟩
        rw [List.flatMap_cons, bytes, pointBytes, sint2, sint2, be16_beInt16, be16_beInt16]
        rfl
    · rw [breakpointsOf?] at h
      obtain ⟨t', found, rfl⟩ := Option.map_eq_some_iff.mp h
      have count := (ih 0).2 t' found
      simp only [List.length_cons, count]
      omega
  | case3 bs none_ few =>
    have absent : breakpointsOf? bs = none := by
      rw [breakpointsOf?]
      · exact none_
      · exact few
    refine ⟨fun h => ?_, fun t h => by rw [absent] at h; cases h⟩
    match bs, none_, few, h with
    | [], none_, _, _ => exact absurd rfl none_
    | [a], _, _, h | [a, b], _, _, h | [a, b, c], _, _, h =>
      simp only [List.length_cons, List.length_nil] at h
      omega
    | a :: b :: c :: d :: rest, _, few, _ => exact absurd rfl (few a b c d rest)

/-- Seven bytes for each band give bands of those bytes, and no other bytes give as many. -/
theorem bandsOf?_spec (n : Nat) (bs : List Byte) :
    (bs.length = 7 * n → ∃ t, bandsOf? bs = some t ∧ t.length = n ∧ t.flatMap bandBytes = bs) ∧
      ∀ t, bandsOf? bs = some t → bs.length = 7 * t.length := by
  induction bs using bandsOf?.induct generalizing n with
  | case1 =>
    refine ⟨fun h => ⟨[], rfl, by simpa [eq_comm] using h, rfl⟩, fun t h => ?_⟩
    cases h
    rfl
  | case2 a b c d e f k rest ih =>
    refine ⟨fun h => ?_, fun t h => ?_⟩
    · obtain _ | m := n
      · simp at h
      · obtain ⟨t, found, count, bytes⟩ := (ih m).1 (by simp at h; omega)
        refine ⟨{ upper := sint2 a b, upLimit := word2 c d, downLimit := word2 e f, cls := k.toNat } :: t,
          by rw [bandsOf?, found]; rfl, by rw [List.length_cons, count], ?_⟩
        rw [List.flatMap_cons, bytes, bandBytes, sint2, word2, word2, be16_beInt16, be16_beNat, be16_beNat, u8_of_byte]
        rfl
    · rw [bandsOf?] at h
      obtain ⟨t', found, rfl⟩ := Option.map_eq_some_iff.mp h
      have count := (ih 0).2 t' found
      simp only [List.length_cons, count]
      omega
  | case3 bs none_ few =>
    have absent : bandsOf? bs = none := by
      rw [bandsOf?]
      · exact none_
      · exact few
    refine ⟨fun h => ?_, fun t h => by rw [absent] at h; cases h⟩
    match bs, none_, few, h with
    | [], none_, _, _ => exact absurd rfl none_
    | [a], _, _, h | [a, b], _, _, h | [a, b, c], _, _, h | [a, b, c, d], _, _, h | [a, b, c, d, e], _, _, h
    | [a, b, c, d, e, f], _, _, h =>
      simp only [List.length_cons, List.length_nil] at h
      omega
    | a :: b :: c :: d :: e :: f :: k :: rest, _, few, _ => exact absurd rfl (few a b c d e f k rest)

/-! ### The value of a WRITE_SETTING frame (R190) -/

/-- The number of bytes that a value of an item takes, a whole list by its count byte. -/
def Item.due (i : Item) (count : Nat) : Nat := if i = .table then 1 + 4 * count else if i = .bands then 1 + 7 * count else i.width

theorem width_cases (i : Item) : i.width = 1 ∨ i.width = 2 ∨ i.width = 4 := by
  cases i <;> simp [Item.width]

/-- The bytes of a number's width give a number of those bytes, and no other bytes give one. -/
theorem settingOf?_spec (width : Nat) (signed : Bool) (q : List Byte) (h : width = 1 ∨ width = 2 ∨ width = 4) :
    (q.length = width → ∃ n, settingOf? width signed q = some (.num n) ∧ numBytes width n = q) ∧
      (q.length ≠ width → settingOf? width signed q = none) := by
  match q with
  | [a] =>
    refine ⟨fun e => ?_, fun ne => ?_⟩
    · obtain rfl := e
      refine ⟨a.toNat, rfl, ?_⟩
      exact congrArg (fun b => [b]) (byte_ofInt_eq (by omega))
    · exact if_neg (Ne.symm ne)
  | [a, b] =>
    refine ⟨fun e => ?_, fun ne => ?_⟩
    · obtain rfl := e
      cases signed
      · exact ⟨_, rfl, be16_beNat a b⟩
      · exact ⟨_, rfl, be16_beInt16 a b⟩
    · exact if_neg (Ne.symm ne)
  | [a, b, c, d] =>
    refine ⟨fun e => ?_, fun ne => ?_⟩
    · obtain rfl := e
      exact ⟨_, rfl, be32_beInt32 a b c d⟩
    · exact if_neg (Ne.symm ne)
  | [] | [a, b, c] | a :: b :: c :: d :: e :: rest =>
    refine ⟨fun e => ?_, fun _ => rfl⟩
    simp only [List.length_cons, List.length_nil] at e
    omega

/-- The value of an item is read from its number of bytes alone, and gives those bytes back. -/
theorem valueOf?_spec {k : Nat} {i : Item} (found : Item.ofNumber? k = some i) (q : List Byte) :
    (q.length ≠ i.due ((q.map (·.toNat)).headD 0) → valueOf? k q = none) ∧
      (q.length = i.due ((q.map (·.toNat)).headD 0) → ∃ v, valueOf? k q = some v ∧ i.valueBytes v = q) := by
  by_cases table : i = .table
  · subst table
    cases q with
    | nil =>
      have none_ : valueOf? k [] = none := by simp only [valueOf?, found]
      exact ⟨fun _ => none_, fun h => by simp [Item.due] at h⟩
    | cons n rest =>
      have value : valueOf? k (n :: rest) =
          ((breakpointsOf? rest).filter fun t => t.length == n.toNat).map SettingValue.table := by simp only [valueOf?, found]
      obtain ⟨reads, only⟩ := breakpointsOf?_spec n.toNat rest
      have due : (n :: rest).length = Item.due .table (((n :: rest).map (·.toNat)).headD 0) ↔ rest.length = 4 * n.toNat := by
        simp [Item.due]
        omega
      rw [ne_eq, due, value]
      refine ⟨fun ne => ?_, fun h => ?_⟩
      · cases points : breakpointsOf? rest with
        | none => rfl
        | some t =>
          have count := only t points
          have other : t.length ≠ n.toNat := fun h => ne (h ▸ count)
          simp [Option.filter, other]
      · obtain ⟨t, points, count, bytes⟩ := reads h
        refine ⟨.table t, by simp [points, Option.filter, count], ?_⟩
        change u8 t.length ++ t.flatMap pointBytes = n :: rest
        rw [bytes, count, u8_of_byte]
        rfl
  by_cases bands : i = .bands
  · subst bands
    cases q with
    | nil =>
      have none_ : valueOf? k [] = none := by simp only [valueOf?, found]
      exact ⟨fun _ => none_, fun h => by simp [Item.due] at h⟩
    | cons n rest =>
      have value : valueOf? k (n :: rest) =
          ((bandsOf? rest).filter fun t => t.length == n.toNat).map SettingValue.bands := by simp only [valueOf?, found]
      obtain ⟨reads, only⟩ := bandsOf?_spec n.toNat rest
      have due : (n :: rest).length = Item.due .bands (((n :: rest).map (·.toNat)).headD 0) ↔ rest.length = 7 * n.toNat := by
        simp [Item.due]
        omega
      rw [ne_eq, due, value]
      refine ⟨fun ne => ?_, fun h => ?_⟩
      · cases found : bandsOf? rest with
        | none => rfl
        | some t =>
          have count := only t found
          have other : t.length ≠ n.toNat := fun h => ne (h ▸ count)
          simp [Option.filter, other]
      · obtain ⟨t, found, count, bytes⟩ := reads h
        refine ⟨.bands t, by simp [found, Option.filter, count], ?_⟩
        change u8 t.length ++ t.flatMap bandBytes = n :: rest
        rw [bytes, count, u8_of_byte]
        rfl
  · have value : valueOf? k q = settingOf? i.width i.signed q := by
      cases i
      case table => exact absurd rfl table
      case bands => exact absurd rfl bands
      all_goals simp only [valueOf?, found]
    obtain ⟨reads, only⟩ := settingOf?_spec i.width i.signed q (width_cases i)
    rw [value, Item.due, if_neg table, if_neg bands]
    refine ⟨only, fun h => ?_⟩
    obtain ⟨n, read, bytes⟩ := reads h
    exact ⟨.num n, read, bytes⟩

end Sys2Proof.Machine
end

section
/-!
SUPPORT. The request of a code and of its parameter bytes (R190): the requests without parameters, those of one, two or more bytes,
BOOK and AMEND with the values they mark.
-/

namespace Sys2Proof.Machine

open Sys2Proof

theorem requestOf?_unknown (who : Station) {code : Nat} (h : code = 0 ∨ 0x27 < code) (p : List Byte) :
    requestOf? who code p = none := by
  unfold requestOf?
  dsimp only
  split
  all_goals first | rfl | omega

/-- The requests without parameters. -/
theorem requestOf?_plain (who : Station) (p : List Byte) : ∀ code i, (code, i) ∈
    [(0x06, Instr.listChanged who), (0x0A, .enterCreep who), (0x0B, .leaveCreep who), (0x0C, .teachSeat who),
     (0x0D, .recoverLower who), (0x0E, .stopSpan who), (0x10, .reopenRoad who), (0x11, .closeRoad who),
     (0x14, .releaseAll who), (0x15, .holdAll who), (0x16, .openSpan who), (0x17, .closeNow who),
     (0x18, .abortOpening who), (0x19, .continueOpening who), (0x1B, .ackFaults who), (0x1C, .resumePrepare who),
     (0x1D, .resume who), (0x21, .readStatus who), (0x22, .readLeaf who), (0x24, .readSignals who),
     (0x25, .readFaults who), (0x26, .readLink who)] →
    requestOf? who code p = some (if p = [] then some i else none) := by
  have each : ∀ x ∈
      [(0x06, Instr.listChanged who), (0x0A, .enterCreep who), (0x0B, .leaveCreep who), (0x0C, .teachSeat who),
       (0x0D, .recoverLower who), (0x0E, .stopSpan who), (0x10, .reopenRoad who), (0x11, .closeRoad who),
       (0x14, .releaseAll who), (0x15, .holdAll who), (0x16, .openSpan who), (0x17, .closeNow who),
       (0x18, .abortOpening who), (0x19, .continueOpening who), (0x1B, .ackFaults who), (0x1C, .resumePrepare who),
       (0x1D, .resume who), (0x21, .readStatus who), (0x22, .readLeaf who), (0x24, .readSignals who),
       (0x25, .readFaults who), (0x26, .readLink who)],
      requestOf? who x.1 p = some (if p = [] then some x.2 else none) := by
    cases p <;> simp [requestOf?]
  exact fun code i h => each (code, i) h

/-- The requests of one byte. -/
theorem requestOf?_one (who : Station) (p : List Byte) : ∀ code f, (code, f) ∈
    [(0x0F, Instr.retryGate who), (0x12, .releaseLane who), (0x13, .holdLane who), (0x1F, .storeSettings who),
     (0x20, .setProtect who), (0x23, .readApproach who)] →
    requestOf? who code p = some (match p with | [a] => some (f a.toNat) | _ => none) := by
  have each : ∀ x ∈
      [(0x0F, Instr.retryGate who), (0x12, .releaseLane who), (0x13, .holdLane who), (0x1F, .storeSettings who),
       (0x20, .setProtect who), (0x23, .readApproach who)],
      requestOf? who x.1 p = some (match p with | [a] => some (x.2 a.toNat) | _ => none) := by
    match p with
    | [] | [a] | a :: b :: rest => simp [requestOf?]
  exact fun code f h => each (code, f) h

/-- The requests of a passage number. -/
theorem requestOf?_number (who : Station) (p : List Byte) : ∀ code f, (code, f) ∈
    [(0x03, Instr.cancel who), (0x07, .forget who), (0x08, .markPassed who)] →
    requestOf? who code p = some (if p.length = 2 then some (f (beNat p)) else none) := by
  have each : ∀ x ∈ [(0x03, Instr.cancel who), (0x07, .forget who), (0x08, .markPassed who)],
      requestOf? who x.1 p = some (if p.length = 2 then some (x.2 (beNat p)) else none) := by
    match p with
    | [] | [a] | [a, b] | a :: b :: c :: rest => simp [requestOf?, word2]
  exact fun code f h => each (code, f) h

/-- The requests of two bytes. -/
theorem requestOf?_two (who : Station) (p : List Byte) : ∀ code f, (code, f) ∈
    [(0x1A, Instr.setMask who), (0x27, .readSetting who)] →
    requestOf? who code p = some (match p with | [a, b] => some (f a.toNat b.toNat) | _ => none) := by
  have each : ∀ x ∈ [(0x1A, Instr.setMask who), (0x27, .readSetting who)],
      requestOf? who x.1 p = some (match p with | [a, b] => some (x.2 a.toNat b.toNat) | _ => none) := by
    match p with
    | [] | [a] | [a, b] | a :: b :: c :: rest => simp [requestOf?]
  exact fun code f h => each (code, f) h

theorem requestOf?_setWater (who : Station) (p : List Byte) : requestOf? who 0x09 p =
    some (if p.length = 2 then some (.setWater who (beInt16 p)) else none) := by
  match p with
  | [a, b] => rfl
  | [] | [a] | a :: b :: c :: rest => simp [requestOf?]

theorem requestOf?_listBook (who : Station) (p : List Byte) : requestOf? who 0x05 p =
    some (match p with
      | [f] => some (.listBook who f.toNat none)
      | [f, a, b] => some (.listBook who f.toNat (some (beNat [a, b])))
      | _ => none) := by
  match p with
  | [] | [f] | [f, a] | [f, a, b] | f :: a :: b :: c :: rest => rfl

theorem requestOf?_lookup (who : Station) (p : List Byte) : requestOf? who 0x04 p =
    some (match p with
      | [] => none
      | sel :: q =>
        if sel.toNat = 0 then (if q.length = 2 then some (.lookup who (.number (beNat q))) else none)
        else if sel.toNat = 1 then (if q.length = 4 then some (.lookup who (.vessel (beNat q))) else none)
        else some (.lookup who .other)) := by
  change some (lookupOf? who p) = _
  cases p with
  | nil => rfl
  | cons sel q =>
    congr 1
    by_cases zero : sel = 0
    · subst zero
      match q with
      | [a, b] => rfl
      | [] | [a] | a :: b :: c :: rest => simp [lookupOf?]
    by_cases one : sel = 1
    · subst one
      match q with
      | [a, b, c, d] => rfl
      | [] | [a] | [a, b] | [a, b, c] | a :: b :: c :: d :: e :: rest => simp [lookupOf?]
    · have zero' : sel.toNat ≠ 0 := fun h => zero (BitVec.eq_of_toNat_eq h)
      have one' : sel.toNat ≠ 1 := fun h => one (BitVec.eq_of_toNat_eq h)
      have other : ¬sel.toNat ≤ 1 := by omega
      unfold lookupOf?
      split <;> simp_all

/-! ### BOOK and AMEND -/

/-- Values of a parameter list, high byte first. -/
def valueAt (p : List Byte) (i n : Nat) : Nat := beNat ((p.drop i).take n)

/-- Fifteen bytes are a BOOK where the presence flag is 1. -/
theorem bookOf?_fifteen (who : Station) (v1 v2 v3 v4 d a1 a0 q nb n1 n2 n3 n4 f1 f0 : Byte) :
    bookOf? who [v1, v2, v3, v4, d, a1, a0, q, nb, n1, n2, n3, n4, f1, f0] =
      if nb.toNat = 1 then some (.book who (word4 v1 v2 v3 v4) d.toNat (sint2 a1 a0) q.toNat ⟨1, word4 n1 n2 n3 n4⟩ (word2 f1 f0))
      else none := by
  by_cases one : nb = 1
  · subst one
    rfl
  · have other : ¬nb.toNat = 1 := fun h => one (BitVec.eq_of_toNat_eq h)
    rw [if_neg other]
    unfold bookOf?
    split
    next shape =>
      simp only [List.cons.injEq] at shape
      obtain ⟨-, -, -, -, -, -, -, -, is, -⟩ := shape
      exact absurd is one
    next shape => simp at shape
    next => rfl

/-- Eleven bytes are a BOOK where the presence flag is not 1. -/
theorem bookOf?_eleven (who : Station) (v1 v2 v3 v4 d a1 a0 q nb f1 f0 : Byte) :
    bookOf? who [v1, v2, v3, v4, d, a1, a0, q, nb, f1, f0] = if nb.toNat = 1 then none
      else some (.book who (word4 v1 v2 v3 v4) d.toNat (sint2 a1 a0) q.toNat ⟨nb.toNat, 0⟩ (word2 f1 f0)) := by
  simp only [bookOf?]

/-- Bytes of another number are no BOOK. -/
theorem bookOf?_none (who : Station) {p : List Byte} (long : p.length ≠ 15) (short : p.length ≠ 11) : bookOf? who p = none := by
  unfold bookOf?
  split
  · simp at long
  · simp at short
  · rfl

/-- The parameters of BOOK by their places: the not-before stands where its presence flag is 1 (R7; entry 13). -/
theorem bookOf?_eq (who : Station) {p : List Byte} {flag next : Nat} (isFlag : flag = valueAt p 8 1)
    (isNext : next = if flag = 1 then 13 else 9) :
    bookOf? who p = if p.length = next + 2 then
        some (.book who (valueAt p 0 4) (valueAt p 4 1) (beInt16 ((p.drop 5).take 2)) (valueAt p 7 1)
          ⟨flag, if flag = 1 then valueAt p 9 4 else 0⟩ (valueAt p next 2))
      else none := by
  by_cases long : p.length = 15
  · match p, long, isFlag with
    | [v1, v2, v3, v4, d, a1, a0, q, nb, n1, n2, n3, n4, f1, f0], _, isFlag =>
      have byte : flag = nb.toNat := by simp [isFlag, valueAt, beNat]
      rw [bookOf?_fifteen, ← byte]
      by_cases one : flag = 1
      · rw [if_pos one] at isNext
        rw [if_pos one, isNext, one]
        simp [valueAt, beNat, word4, word2, sint2]
      · rw [if_neg one] at isNext
        rw [if_neg one, isNext]
        rfl
  by_cases short : p.length = 11
  · match p, short, isFlag with
    | [v1, v2, v3, v4, d, a1, a0, q, nb, f1, f0], _, isFlag =>
      have byte : flag = nb.toNat := by simp [isFlag, valueAt, beNat]
      by_cases one : flag = 1
      · rw [if_pos one] at isNext
        rw [bookOf?_eleven, ← byte, if_pos one, isNext]
        rfl
      · rw [if_neg one] at isNext
        rw [bookOf?_eleven, ← byte, if_neg one, isNext, if_neg one]
        simp [valueAt, beNat, word4, word2, sint2]
  · have off : p.length ≠ next + 2 := by
      rw [isNext]
      split <;> omega
    rw [if_neg off, bookOf?_none who long short]

theorem requestOf?_book (who : Station) (p : List Byte) : requestOf? who 0x01 p = some (bookOf? who p) := rfl

theorem requestOf?_amend (who : Station) (p : List Byte) : requestOf? who 0x02 p = some (amendOf? who p) := rfl

end Sys2Proof.Machine
end

section
/-!
SUPPORT. AMEND with the values that its change byte marks (R9, R190), and the judging of a frame.
-/

namespace Sys2Proof.Machine

open Sys2Proof

/-- The bytes of a value that is marked or not. -/
def marked (want : Bool) (n : Nat) : Nat := if want then n else 0

/-- What a marked value leaves of a parameter list. -/
theorem takeIf_eq (want : Bool) (n : Nat) (bs : List Byte) : takeIf want n bs =
    if marked want n ≤ bs.length then some (bs.take (marked want n), bs.drop (marked want n)) else none := by
  cases want <;> simp [takeIf, marked]

theorem takeIf_bind {α : Type} (want : Bool) (n : Nat) (bs : List Byte) (f : List Byte × List Byte → Option α) :
    (takeIf want n bs).bind f =
      if marked want n ≤ bs.length then f (bs.take (marked want n), bs.drop (marked want n)) else none := by
  rw [takeIf_eq]
  split <;> rfl

/-- Four values taken one after another, each where it is marked, from the bytes that they take together. -/
theorem takeIf_four {α : Type} (w1 w2 w3 w4 : Bool) (n1 n2 n3 n4 : Nat) (q : List Byte)
    (f : List Byte → List Byte → List Byte → List Byte → α) :
    (do
      let (d, r1) ← takeIf w1 n1 q
      let (p, r2) ← takeIf w2 n2 r1
      let (b, r3) ← takeIf w3 n3 r2
      let (o, r4) ← takeIf w4 n4 r3
      if r4.isEmpty then some (f d p b o) else none) =
    if q.length = marked w1 n1 + marked w2 n2 + marked w3 n3 + marked w4 n4 then
      some (f (q.take (marked w1 n1)) ((q.drop (marked w1 n1)).take (marked w2 n2))
        ((q.drop (marked w1 n1 + marked w2 n2)).take (marked w3 n3))
        ((q.drop (marked w1 n1 + marked w2 n2 + marked w3 n3)).take (marked w4 n4)))
    else none := by
  simp only [Option.bind_eq_bind, takeIf_bind, List.drop_drop, List.length_drop, List.isEmpty_iff, List.drop_eq_nil_iff]
  generalize marked w1 n1 = a
  generalize marked w2 n2 = b
  generalize marked w3 n3 = c
  generalize marked w4 n4 = d
  by_cases fits : q.length = a + b + c + d
  · rw [if_pos fits, if_pos (by omega), if_pos (by omega), if_pos (by omega), if_pos (by omega), if_pos (by omega),
      Nat.add_assoc a b c]
  · rw [if_neg fits]
    repeat' split
    all_goals first | rfl | omega

/-- The parameters of AMEND: the change byte, the passage number, and the values marked in their order (R9; entry 13). -/
theorem amendOf?_eq (who : Station) (p : List Byte) :
    let bit := fun (i : Nat) => ((p.map BitVec.toNat).headD 0).testBit i
    let draft := marked (bit 0) 2
    let priority := draft + marked (bit 1) 1
    let notBefore := priority + marked (bit 2) 4
    let q := p.drop 3
    amendOf? who p =
      if p.length = 3 + notBefore + marked (bit 4) 2 then
        some (.amend who (beNat ((p.drop 1).take 2))
          { draft := if bit 0 then some (beInt16 (q.take 2)) else none,
            priority := if bit 1 then some (beNat ((q.drop draft).take 1)) else none,
            notBefore := if bit 2 then some (beNat ((q.drop priority).take 4)) else none, dropNotBefore := bit 3,
            follows := if bit 4 then some (beNat ((q.drop notBefore).take 2)) else none, dropFollows := bit 5 })
      else none := by
  match p with
  | [] | [c] | [c, n1] =>
    intro bit draft priority notBefore q
    rw [if_neg (by simp only [List.length_cons, List.length_nil]; omega)]
    rfl
  | c :: n1 :: n0 :: rest =>
    intro bit draft priority notBefore q
    have four := takeIf_four (bit 0) (bit 1) (bit 2) (bit 4) 2 1 4 2 rest fun dr pr nb fo =>
      Instr.amend who (word2 n1 n0)
        { draft := if bit 0 then some (beInt16 dr) else none, priority := if bit 1 then some (beNat pr) else none,
          notBefore := if bit 2 then some (beNat nb) else none, dropNotBefore := bit 3,
          follows := if bit 4 then some (beNat fo) else none, dropFollows := bit 5 }
    have read : amendOf? who (c :: n1 :: n0 :: rest) = _ := four
    have value {α : Type} (b : Bool) (n : Nat) (l : List Byte) (g : List Byte → α) :
        (if b = true then some (g (l.take (marked b n))) else none) = if b = true then some (g (l.take n)) else none := by
      cases b <;> rfl
    have long : (c :: n1 :: n0 :: rest).length = 3 + notBefore + marked (bit 4) 2 ↔
        rest.length = marked (bit 0) 2 + marked (bit 1) 1 + marked (bit 2) 4 + marked (bit 4) 2 := by
      simp only [List.length_cons, notBefore, priority, draft]
      omega
    rw [read]
    simp only [long, value]
    rfl

/-! ### The judging of a frame (R190) -/

/-- What a request, or the want of one, makes of a frame. -/
def framed : Option (Option Instr) → Except Result Instr
  | none => .error .unknownRequest
  | some none => .error .badFrame
  | some (some i) => .ok i

theorem frameWhole_iff (bytes : List Byte) : frameWhole bytes = true ↔
    ∃ l rest, bytes = l :: rest ∧ 4 ≤ l.toNat ∧ l.toNat ≤ 64 ∧ l.toNat ≤ bytes.length ∧
      ((bytes.take l.toNat).map (·.toNat)).sum % 256 = 0 := by
  have sum (bs : List Byte) (n : Nat) : bs.foldl (fun n b => n + b.toNat) n = n + (bs.map (·.toNat)).sum := by
    induction bs generalizing n with
    | nil => rfl
    | cons b bs ih =>
      rw [List.foldl_cons, ih, List.map_cons, List.sum_cons]
      omega
  cases bytes with
  | nil => simp [frameWhole]
  | cons l rest =>
    simp only [frameWhole, sum, Nat.zero_add, Bool.and_eq_true, decide_eq_true_eq, beq_iff_eq, and_assoc]
    exact ⟨fun h => ⟨l, rest, rfl, h⟩, fun ⟨_, _, e, h⟩ => by obtain ⟨rfl, rfl⟩ := List.cons.inj e; exact h⟩

theorem judgeFrame_broken {bytes : List Byte} (h : frameWhole bytes = false) : judgeFrame bytes = .error .badFrame := by
  unfold judgeFrame
  rw [h]
  rfl

theorem judgeFrame_stranger {l st k : Byte} {rest : List Byte} (h : stationOf? st.toNat = none) :
    judgeFrame (l :: st :: k :: rest) = .error .badFrame := by
  simp only [judgeFrame, h]
  split <;> rfl

theorem judgeFrame_whole {l st k : Byte} {rest : List Byte} {who : Station} (h : frameWhole (l :: st :: k :: rest) = true)
    (station : stationOf? st.toNat = some who) :
    judgeFrame (l :: st :: k :: rest) = framed (requestOf? who k.toNat (rest.take (l.toNat - 4))) := by
  simp only [judgeFrame, h, station]
  cases requestOf? who k.toNat (rest.take (l.toNat - 4)) with
  | none => rfl
  | some i => cases i <;> rfl

end Sys2Proof.Machine
end

section
/-!
SUPPORT. Every request answers the port, and its own change leaves the port as it is (R191).
-/

namespace Sys2Proof.Machine

open Sys2Proof

/-! ### What the blocks leave of the port -/

namespace State

theorem reevaluate_port (s : State) : s.reevaluate.port = s.port := congrArg Kept.port s.reevaluate_kept

theorem examineJoins_port (s : State) : s.examineJoins.port = s.port := congrArg Kept.port s.examineJoins_kept

theorem recomputeTarget_port (s : State) : s.recomputeTarget.port = s.port := congrArg Kept.port s.recomputeTarget_kept

theorem leaveGroup_port (s : State) (n : Nat) : (s.leaveGroup n).port = s.port := congrArg Kept.port (s.leaveGroup_kept n)

theorem returnAll_port (s : State) : s.returnAll.port = s.port := congrArg Kept.port s.returnAll_kept

theorem raise_port (s : State) (f : FaultId) : (s.raise f).port = s.port := congrArg Kept.port (s.raise_kept f)

theorem onUsedAps_port (s : State) (f : RoadCtx → Approach → Approach) : (s.onUsedAps f).port = s.port :=
  congrArg Kept.port (s.onUsedAps_sameButAps f).kept

theorem onGate_port (s : State) (g : GateId) (f : RoadCtx → Closure → GateKind → Gate → Gate) : (s.onGate g f).port = s.port :=
  congrArg Kept.port (s.onGate_sameButAps g f).kept

theorem setPhase_port (s : State) (p : Phase) : (s.setPhase p).port = s.port := by rw [setPhase_frame]

theorem callEnd_port (s : State) (d : Dir) : (s.callEnd d).port = s.port := by rw [callEnd_eq]

theorem closeRec_port (s : State) (n : Nat) (st : RecState) : (s.closeRec n st).port = s.port :=
  (examineJoins_port _).trans (leaveGroup_port _ n)

theorem afterWrite_port (s : State) (i : Item) (t : State) : (s.afterWrite i t).port = t.port := by
  cases i
  case seatCount =>
    unfold afterWrite
    dsimp only
    split
    exacts [congrArg Kept.port (t.presetWhere_kept _), rfl]
  case table | clearanceMargin => exact t.reevaluate_port
  case waterHigh =>
    unfold afterWrite
    dsimp only
    split
    exacts [rfl, t.reevaluate_port]
  case gateKind g => exact t.onGate_port g _
  case zoneUse x j =>
    unfold afterWrite
    dsimp only
    split
    exacts [rfl, t.setAp_port x _]
  all_goals rfl

theorem endHalt_port (s : State) : s.endHalt.port = s.port := by rw [endHalt_frame]

theorem groupThem_port (s : State) (ns : List Nat) : (s.groupThem ns).port = s.port := congrArg Kept.port (s.groupThem_kept ns)

theorem abortOpening_port (s : State) : s.abortOpening.port = s.port := by
  unfold abortOpening
  split
  · exact returnAll_port s
  · refine (congrArg Kept.port (enterPhase_kept _ _)).trans ?_
    exact (congrArg Kept.port (clearSuspension_kept _)).trans (returnAll_port s)

theorem setMask_port (s : State) (f : FaultId) (v : Bool) : (s.setMask f v).port = s.port := by
  unfold setMask
  cases v <;> rfl

theorem continueOpening_port (s : State) : s.continueOpening.port = s.port := by
  have returned : (if s.role == .follow then s.clearSuspension else
      s.clearSuspension.setPhase (s.opening.resumePoint.getD s.opening.phase)).port = s.port := by
    split
    exacts [congrArg Kept.port s.clearSuspension_kept,
      (setPhase_port ..).trans (congrArg Kept.port s.clearSuspension_kept)]
  unfold continueOpening
  dsimp only
  split
  next c _ => exact (congrArg Kept.port (order_kept _ c)).trans returned
  · exact (congrArg Kept.port (giveStep_kept _)).trans returned

end State

/-! ### Every request answers -/

/-- Two states of the same port. -/
def SamePort (w u : State) : Prop := u.port = w.port

/-- An outcome that answers on the port, and leaves the rest of it. -/
def State.Answers (s : State) (o : Host.Outcome State Fault Refusal) : Prop :=
  ∃ (u : State) (r : Result) (d : List Byte), o = .next (u.respond r d) ∧ u.port = s.port

namespace State.Answers

variable {s : State}

theorem asks {st : Station} {who : List Station} {f : State → Answer} (own : (f s.asked).Does SamePort s.asked) :
    s.Answers (s.request st who f) := by
  cases sent : who.contains st with
  | true =>
    rw [State.request_allowed s st who f sent]
    cases given : f s.asked with
    | refuse r => exact ⟨s.asked, r, [], by rw [State.answer_refuse], s.asked_port⟩
    | accept u d =>
      have same : u.port = s.asked.port := by
        rw [given] at own
        exact own
      exact ⟨u.settle, .ok, d u.settle, by rw [State.answer_accept], u.settle_port.trans (same.trans s.asked_port)⟩
  | false => exact ⟨s.asked, .notPermitted, [], State.request_denied s st who f sent, s.asked_port⟩

theorem read {f : State → Except Result (List Byte)} : s.Answers (s.read f) := by
  cases given : f s.wake with
  | ok d => exact ⟨s.wake, .ok, d, State.read_ok s f d given, s.wake_port⟩
  | error r => exact ⟨s.wake, r, [], State.read_error s f r given, s.wake_port⟩

theorem resumePrepare {st : Station} : s.Answers (execResumePrepare st s) := by
  by_cases sent : st = .operator
  · subst sent
    rw [execResumePrepare_operator]
    split
    · exact ⟨_, _, _, rfl, (State.settle_port _).trans s.wake_port⟩
    · exact ⟨_, _, _, rfl, s.wake_port⟩
  · exact ⟨_, _, _, execResumePrepare_other s sent, s.asked_port⟩

theorem resume {st : Station} : s.Answers (execResume st s) := by
  by_cases sent : st = .operator
  · subst sent
    rw [execResume_operator]
    split
    · exact ⟨_, _, _, rfl, s.asked_port⟩
    · exact ⟨_, _, _, rfl, (State.settle_port _).trans ((State.endHalt_port _).trans s.asked_port)⟩
  · exact ⟨_, _, _, execResume_other s sent, s.asked_port⟩

end State.Answers

/-- Every request answers, whatever its block does with it (R191). -/
theorem request_answers (c : Instr) (s : State) (h : (stationOf c).isSome = true) : s.Answers (exec c s) := by
  cases c
  all_goals first | (cases h; done) | unfold exec
  case lookup | listBook | readStatus | readLeaf | readApproach | readSignals | readFaults | readLink | readSetting =>
    exact .read
  case resumePrepare => exact .resumePrepare
  case resume => exact .resume
  case book =>
    refine .asks ?_
    split
    exacts [trivial, State.examineJoins_port _]
  case amend =>
    refine .asks ?_
    split
    exacts [trivial, congrArg Kept.port (State.afterAmend_kept ..)]
  case cancel =>
    refine .asks (State.onRecord_does fun r _ _ => ?_)
    split
    case h_1 | h_2 => exact State.closeRec_port ..
    case h_3 => exact (State.closeRec_port ..).trans (State.callEnd_port ..)
    all_goals trivial
  case forget =>
    refine .asks (State.onRecord_does fun r found _ => ?_)
    split
    exacts [trivial, rfl]
  case markPassed =>
    refine .asks (State.onRecord_does fun r _ _ => ?_)
    split
    exacts [(State.closeRec_port ..).trans (State.callEnd_port ..), trivial]
  case listChanged =>
    refine .asks ?_
    split
    exacts [trivial, rfl]
  case setWater =>
    refine .asks ?_
    split
    · trivial
    · split
      · trivial
      · dsimp only [Answer.Does, SamePort]
        split
        exacts [rfl, State.reevaluate_port _]
  case enterCreep | leaveCreep =>
    refine .asks ?_
    split
    exacts [rfl, trivial]
  case teachSeat =>
    refine .asks ?_
    split
    · trivial
    · split
      exacts [trivial, rfl]
  case recoverLower =>
    refine .asks ?_
    split
    · trivial
    · split
      · trivial
      · split
        · trivial
        · split
          · trivial
          · exact (congrArg Kept.port (State.startDown_frame _ (by simp)).2).trans (congrArg Kept.port (State.recoverOpening_kept _))
  case stopSpan => exact .asks (State.raise_port ..)
  case retryGate =>
    refine .asks ?_
    split
    · trivial
    · split
      exacts [State.onGate_port .., trivial]
  case reopenRoad =>
    refine .asks ?_
    split
    · trivial
    · split
      exacts [trivial, State.onUsedAps_port ..]
  case closeRoad =>
    refine .asks ?_
    split
    · trivial
    · split
      exacts [trivial, State.onUsedAps_port ..]
  case releaseLane | holdLane =>
    refine .asks ?_
    unfold State.holdRequest
    split
    exacts [trivial, State.onGate_port ..]
  case releaseAll | holdAll => exact .asks (State.onUsedAps_port ..)
  case openSpan =>
    refine .asks ?_
    split
    exacts [trivial, (State.recomputeTarget_port _).trans ((State.setPhase_port ..).trans (State.groupThem_port ..))]
  case closeNow =>
    refine .asks ?_
    split
    · trivial
    · split
      exacts [trivial, State.returnAll_port _]
  case abortOpening =>
    refine .asks ?_
    split
    · trivial
    · split
      · trivial
      · split
        · trivial
        · exact State.abortOpening_port _
  case continueOpening =>
    refine .asks ?_
    split
    exacts [trivial, State.continueOpening_port _]
  case writeSetting =>
    refine .asks ?_
    split
    · trivial
    next may =>
      rw [Answer.Does, SamePort, State.writeItem_eq]
      exact State.afterWrite_port ..
  case storeSettings =>
    refine .asks ?_
    split
    · trivial
    · split
      · trivial
      · split
        · trivial
        · split
          exacts [rfl, trivial]
  case setProtect =>
    refine .asks ?_
    split
    · trivial
    · split
      · trivial
      · split
        · trivial
        · split
          exacts [rfl, rfl]
  case setMask =>
    refine .asks ?_
    split
    · trivial
    · split
      exacts [trivial, State.setMask_port ..]
  case ackFaults =>
    exact .asks rfl

end Sys2Proof.Machine
end

section
/-!
PROOFS. A selection of the request port (O40): the frames judged, and what the rise of SEL does with the bytes.
-/

namespace Sys2Proof.Machine

open Sys2Proof

/-! ### The frames (R190) -/

theorem stationOf?_none {n : Nat} (h : n = 0 ∨ 3 < n) : stationOf? n = none := by
  unfold stationOf?
  split
  all_goals first | rfl | omega

theorem stationOf?_some {n : Nat} {who : Station}
    (h : n = (match who with | .operator => 1 | .harbour => 2 | .maintenance => 3)) : stationOf? n = some who := by
  cases who <;> exact congrArg stationOf? h

/-- What R190 says of WRITE_SETTING's parameters. -/
theorem requestOf?_writeSetting (who : Station) (n : Byte) (q : List Byte) : requestOf? who 0x1E (n :: q) =
    some ((valueOf? n.toNat q).map fun v => .writeSetting who n.toNat v) := rfl

/-! ### The port (R189 to R191) -/

theorem exec_selectionStart (s : State) : exec .selectionStart s = .next (if s.wake.port.selection.isNone then
    { s.wake with port := { s.wake.port with selection := some s.wake.port.state } } else s.wake).settle := rfl

theorem exec_selectionEnd (bytes : List Byte) (s : State) : exec (.selectionEnd bytes) s =
    if s.port.selection.all (· == .working) then .next s.wake.deselect.settle
    else if bytes.head?.all (· == 0) then .next s.wake.deselect.emptyPort.settle
    else thenState (s.wake.deselect.takeRequest bytes) fun u => u.working bytes := rfl

/-- A frame that is judged good carries a request (R190). -/
theorem requestOf?_isRequest (who : Station) (code : Nat) (p : List Byte) :
    (requestOf? who code p).all fun o => o.all fun i => (stationOf i).isSome := by
  have amend : (amendOf? who p).all fun i => (stationOf i).isSome := by
    rw [amendOf?_eq]
    split <;> rfl
  have book : (bookOf? who p).all fun i => (stationOf i).isSome := by
    rw [bookOf?_eq who rfl rfl]
    repeat' split
    all_goals rfl
  unfold requestOf?
  dsimp only
  split
  case h_1 => exact book
  case h_2 => exact amend
  case h_40 => rfl
  case h_4 =>
    rw [Option.all_some]
    unfold lookupOf?
    split
    case h_3 => split <;> rfl
    all_goals rfl
  case h_30 =>
    rw [Option.all_some]
    split
    next n q => cases valueOf? n.toNat q <;> rfl
    next => rfl
  all_goals
    rw [Option.all_some]
    split <;> rfl

theorem stationOf_of_judged {bytes : List Byte} {i : Instr} (h : judgeFrame bytes = .ok i) : ∃ st, stationOf i = some st := by
  unfold judgeFrame at h
  split at h
  · cases h
  split at h
  next l st code rest _ =>
    split at h
    · cases h
    next who _ =>
      have request := requestOf?_isRequest who code.toNat (rest.take (l.toNat - 4))
      split at h
      · cases h
      · cases h
      next found =>
        cases h
        rw [found] at request
        exact Option.isSome_iff_exists.mp request
  · cases h

/-- Bytes judged at the rise of SEL are worked by the request's own command (R191). -/
theorem takeRequest_of_judged {s : State} {bytes : List Byte} {i : Instr} (judged : judgeFrame bytes = .ok i)
    (awake : s.wake = s) : s.takeRequest bytes = exec i s := by
  obtain ⟨st, sent⟩ := stationOf_of_judged judged
  have take : s.takeRequest bytes = if permitted i then s.dispatch i else .next (s.clearPrepare.respond .notPermitted []) := by
    unfold State.takeRequest
    rw [judged]
  rw [take]
  split
  next may => exact dispatch_eq_exec i s (isSome_of_permitted i may)
  next denied =>
    have refused : (stationsOf i).contains st = false := by
      rw [permitted, sent] at denied
      simpa using denied
    rw [exec_denied s sent refused, State.asked, awake]

theorem wake_deselect_awake (s : State) : s.wake.deselect.wake = s.wake.deselect :=
  State.wake_of_not_justReset _ s.wake_justReset

end Sys2Proof.Machine
end

section
/-!
PROOFS. A selection of the request port (O40).
-/

namespace Sys2Proof.Machine

open Sys2Proof

/-- What R190 makes of the requests of a code, from their parameter bytes. -/
theorem framed_some (i : Option Instr) : framed (some i) = (match i with | some i => .ok i | none => .error .badFrame) := by
  cases i <;> rfl

/-- Settles O40: the frames judged by R190, and the port at the fall and the rise of SEL. -/
theorem selectionTaken : Obligations.SelectionTaken := by
  refine ⟨?_, ?_, ?_⟩
  · intro bytes len broken
    have no : ¬frameWhole bytes = true := by
      rw [frameWhole_iff]
      rintro ⟨l, rest, rfl, low, high, room, sum⟩
      have head : len = l.toNat := rfl
      rw [head] at broken
      omega
    exact judgeFrame_broken (by simpa using no)
  · intro l st k rest bytes p big signed low high room sum
    have whole : frameWhole bytes = true := (frameWhole_iff bytes).mpr ⟨l, st :: k :: rest, rfl, low, high, room, sum⟩
    refine ⟨fun stranger => judgeFrame_stranger (stationOf?_none stranger), fun who station => ?_⟩
    have judged : judgeFrame bytes = framed (requestOf? who k.toNat p) := judgeFrame_whole whole (stationOf?_some station)
    intro gives
    have give {code : Nat} {i : Option Instr} (h : requestOf? who code p = some i) : gives code i := by
      intro e
      rw [judged, e, h]
      exact framed_some i
    refine ⟨fun unknown => ?_, fun code i mem => give (requestOf?_plain who p code i mem),
      fun code f mem => give (requestOf?_one who p code f mem), fun code f mem => give (requestOf?_number who p code f mem),
      fun code f mem => give (requestOf?_two who p code f mem), give (requestOf?_setWater who p),
      give (requestOf?_listBook who p), give (requestOf?_lookup who p), give ?_, give ?_, fun code none_ => ?_,
      fun n q code params => ⟨fun absent => ?_, fun i found => ?_⟩⟩
    · rw [judged, requestOf?_unknown who unknown]
      rfl
    · exact congrArg some (bookOf?_eq who rfl rfl)
    · exact congrArg some (amendOf?_eq who p)
    · rw [judged, code, none_]
      rfl
    · have value : valueOf? n.toNat q = some (.num 0) := by
        have item : Item.ofNumber? n.toNat = none := absent
        simp only [valueOf?, item]
      rw [judged, code, params, requestOf?_writeSetting, value]
      rfl
    · intro count due
      obtain ⟨others, own⟩ := valueOf?_spec (k := n.toNat) found q
      refine ⟨fun ne => ?_, fun e => ?_⟩
      · rw [judged, code, params, requestOf?_writeSetting, others ne]
        rfl
      · obtain ⟨v, value, bytes⟩ := own e
        refine ⟨v, bytes, ?_⟩
        rw [judged, code, params, requestOf?_writeSetting, value]
        rfl
  · intro s done
    have deselected : s.wake.deselect.settle.kept = { s.kept with port := done } := by
      rw [State.settle_kept, State.deselect, s.wake_port]
      exact congrArg (fun x : Kept => { x with port := done }) s.wake_kept
    have found : s.wake.deselect = { s.wake with port := done } := by
      rw [State.deselect, s.wake_port]
    have taking (free : s.port.selection = some .empty ∨ s.port.selection = some .ready) :
        ¬(s.port.selection.all (· == .working)) = true := by
      rcases free with h | h <;> rw [h] <;> decide
    refine ⟨?_, fun a b e => ⟨_, rfl, rfl⟩, fun bytes => ⟨fun none_ => ?_, fun busy => ?_, fun free => ⟨fun idle => ?_, fun some_ nonzero => ?_⟩⟩⟩
    · refine ⟨_, exec_selectionStart s, ?_⟩
      rw [State.settle_kept, s.wake_port]
      cases chosen : s.port.selection with
      | none => exact congrArg (fun x : Kept => { x with port := { s.port with selection := some s.port.state } }) s.wake_kept
      | some p =>
        have same : { s.port with selection := some p } = s.port := by rw [← chosen]
        exact s.wake_kept.trans (congrArg (fun x : Port => { s.kept with port := x }) same.symm)
    · rw [exec_selectionEnd, none_]
      have same : done = s.port := by simp only [done, ← none_]
      exact ⟨_, rfl, deselected.trans (congrArg (fun x : Port => { s.kept with port := x }) same)⟩
    · rw [exec_selectionEnd, busy]
      exact ⟨_, rfl, deselected⟩
    · rw [exec_selectionEnd, if_neg (taking free), if_pos (by rcases idle with h | h <;> rw [h] <;> rfl)]
      refine ⟨_, rfl, ?_⟩
      rw [State.settle_kept, found]
      exact congrArg (fun x : Kept => { x with port := { done with state := .empty, response := none } }) s.wake_kept
    · have bring : ¬(bytes.head?.all (· == 0)) = true := by
        cases first : bytes.head? with
        | none => exact absurd first some_
        | some b => simpa [first] using nonzero
      have run : exec (.selectionEnd bytes) s = thenState (s.wake.deselect.takeRequest bytes) fun u => u.working bytes := by
        rw [exec_selectionEnd, if_neg (taking free), if_neg bring]
      refine ⟨fun r judged => ?_, fun i judged => ?_⟩
      · have take : s.wake.deselect.takeRequest bytes = .next (s.wake.deselect.respond r []) := by
          unfold State.takeRequest
          rw [judged]
        have data : (if r == .ok then ([] : List Byte) else []) = [] := ite_self []
        rw [run, take, found, State.respond_eq, data]
        rfl
      · obtain ⟨st, sent⟩ := stationOf_of_judged judged
        obtain ⟨u, r, d, answered, same⟩ := request_answers i s.wake.deselect (sent ▸ rfl)
        rw [found] at answered same
        refine ⟨u.respond r d, answered, ?_, rfl, ?_⟩
        · exact congrArg
            (fun x : Port => { x with state := .ready, request := [], response := (u.respond r d).port.response }) same
        · rw [run, takeRequest_of_judged judged (wake_deselect_awake s), found, answered]
          rfl

end Sys2Proof.Machine
end

section
/-!
PROOFS. The load of the settings at a reset (O5): which blocks load, what the working copy then holds, the latches of the load, and
the store that a cut write leaves.
-/

namespace Sys2Proof.Machine

open Sys2Proof

theorem Item.block_of_mem {i : Item} {b : BlockId} (h : i ∈ b.items) : i.block = b := by
  revert i
  cases b <;> decide

theorem not_ne_self (x : BitVec 16) : ~~~x ≠ x := by
  intro h
  have same := congrArg BitVec.toNat h
  rw [BitVec.toNat_not] at same
  omega

namespace Items

theorem blockInRange_iff (x : Items) (b : BlockId) : x.blockInRange b = true ↔
    ∀ i ∈ b.items, ∃ v, x.get i = some v ∧ ∀ n, v = .num n → i.range.1 ≤ n ∧ n ≤ i.range.2 := by
  rw [blockInRange, List.all_eq_true]
  refine forall₂_congr fun i _ => ?_
  cases value : x.get i with
  | none => simp
  | some v => cases v <;> simp [Item.inRange]

/-- The conditions across the items of GEOMETRY (R182). -/
theorem geometryFits_iff {x : Items} (full : Int) (values : x.blockInRange .geometry = true) : x.blockFits full .geometry = true ↔
    (∀ m f, x.get .minOpen = some (.num m) → x.get .fullOpen = some (.num f) → m ≤ f) ∧
      ∀ m h, x.get .skewSlow = some (.num m) → x.get .skewHalt = some (.num h) → m < h := by
  rw [blockInRange_iff] at values
  have has {i : Item} {o : Option Int} (mem : i ∈ BlockId.geometry.items) (read : x.get i = o.map .num) : ∃ n, o = some n := by
    obtain ⟨v, found, -⟩ := values i mem
    rw [read] at found
    exact Option.isSome_iff_exists.mp (by cases o <;> simp at found ⊢)
  obtain ⟨m, minOpen⟩ := has (i := .minOpen) (by decide) rfl
  obtain ⟨f, fullOpen⟩ := has (i := .fullOpen) (by decide) rfl
  obtain ⟨l, skewSlow⟩ := has (i := .skewSlow) (by decide) rfl
  obtain ⟨h, skewHalt⟩ := has (i := .skewHalt) (by decide) rfl
  simp [blockFits, get, minOpen, fullOpen, skewSlow, skewHalt]

theorem clearanceFits_iff {x : Items} (full : Int) (values : x.blockInRange .clearance = true) :
    x.blockFits full .clearance = true ↔ ∀ t, x.get .table = some (.table t) → TableFits full t := by
  rw [blockInRange_iff] at values
  obtain ⟨v, found, -⟩ := values .table (by decide)
  cases table : x.clearance.table with
  | none => simp [get, table] at found
  | some t => simp [blockFits, get, table, tableOK_iff]

theorem envelopeFits_iff (x : Items) (full : Int) :
    x.blockFits full .envelope = true ↔ ∀ bs, x.get .bands = some (.bands bs) → BandsFit full bs := by
  simp [blockFits, get, bandsOK_iff]

end Items

namespace Settings

/-- A block loads where its check value matches, every item has a value in range, and the conditions across its items hold
(R182). -/
theorem loads_iff (x : Settings) (full : Int) (b : BlockId) : x.loads full b = true ↔
    crc16 (x.stored.blockBytes b) = x.checks.at b ∧
    (∀ i ∈ b.items, ∃ v, x.stored.get i = some v ∧ ∀ n, v = .num n → i.range.1 ≤ n ∧ n ≤ i.range.2) ∧
    (b = .geometry →
      (∀ m f, x.stored.get .minOpen = some (.num m) → x.stored.get .fullOpen = some (.num f) → m ≤ f) ∧
      ∀ m h, x.stored.get .skewSlow = some (.num m) → x.stored.get .skewHalt = some (.num h) → m < h) ∧
    (b = .clearance → ∀ t, x.stored.get .table = some (.table t) → TableFits full t) ∧
    (b = .envelope → ∀ bs, x.stored.get .bands = some (.bands bs) → BandsFit full bs) := by
  rw [loads, Bool.and_eq_true, Bool.and_eq_true, beq_iff_eq, ← Items.blockInRange_iff, and_assoc]
  refine and_congr_right fun _ => and_congr_right fun values => ?_
  cases b with
  | geometry => simpa using Items.geometryFits_iff full values
  | clearance => simpa using Items.clearanceFits_iff full values
  | envelope => simpa using Items.envelopeFits_iff x.stored full
  | road | channel | link | masks => simp [Items.blockFits]

theorem loaded_at (x : Settings) (b : BlockId) : x.loaded.at b = x.loads x.loadFull b := by
  cases b <;> rfl

theorem load_rejected (x : Settings) (r : Role) (b : BlockId) : (x.load r).rejected.at b = !x.loaded.at b := by
  cases b <;> rfl

/-- An item of the working copy after the load (R182). -/
theorem loadItems_get (x : Settings) (r : Role) (i : Item) :
    (x.loadItems r).get i = if x.loaded.at i.block = true then x.stored.get i else (Items.default r).get i := by
  simp only [loadItems, allBlocks, List.foldl_cons, List.foldl_nil, apply_ite (fun y : Items => y.get i), Items.takeBlock_get]
  cases i.block <;> simp

theorem loadItems_clearance (x : Settings) (r : Role) : (x.loadItems r).clearance =
    if x.loaded.clearance = true then x.stored.clearance else .default := by
  have take (y : Items) (b : BlockId) : (y.takeBlock b x.stored).clearance =
      if b = .clearance then x.stored.clearance else y.clearance := by cases b <;> rfl
  simp only [loadItems, allBlocks, List.foldl_cons, List.foldl_nil, apply_ite Items.clearance, take, reduceCtorEq, if_false,
    if_true, ite_self]
  rfl

theorem loadItems_geometry (x : Settings) (r : Role) : (x.loadItems r).geometry =
    if x.loaded.geometry = true then x.stored.geometry else .blank := by
  have take (y : Items) (b : BlockId) : (y.takeBlock b x.stored).geometry =
      if b = .geometry then x.stored.geometry else y.geometry := by cases b <;> rfl
  simp only [loadItems, allBlocks, List.foldl_cons, List.foldl_nil, apply_ite Items.geometry, take, reduceCtorEq, if_false,
    if_true, ite_self]
  rfl

/-- The FULL_OPEN of the load's checks is the loaded one (R182). -/
theorem loadFull_eq (x : Settings) (r : Role) : x.loadFull = (x.loadItems r).geometry.fullOpen.getD 8500 := by
  have loaded : x.loaded.geometry = x.loads 8500 .geometry := rfl
  rw [loadItems_geometry, loaded, loadFull]
  split <;> rfl

/-! ### A store write that the reset cuts off (R186, R187; entry 11) -/

theorem cutWrite_idle {x : Settings} (h : x.writing = none) (cut : WriteCut) : x.cutWrite cut = x := by
  unfold cutWrite
  rw [h]

theorem cutWrite_protect {x : Settings} {v : Bool} (h : x.writing = some (.protect v)) (cut : WriteCut) :
    ((x.cutWrite cut).stored = x.stored ∧ (x.cutWrite cut).checks = x.checks) ∧
      ((x.cutWrite cut).storedProtect = x.storedProtect ∧ (x.cutWrite cut).protectCheck = x.protectCheck ∨
        (x.cutWrite cut).storedProtect = v ∧ (x.cutWrite cut).protectLoads = true ∨ (x.cutWrite cut).protectLoads = false) := by
  unfold cutWrite
  rw [h]
  cases cut with
  | untouched => exact ⟨⟨rfl, rfl⟩, .inl ⟨rfl, rfl⟩⟩
  | complete => exact ⟨⟨rfl, rfl⟩, .inr (.inl ⟨rfl, beq_self_eq_true _⟩)⟩
  | partly => exact ⟨⟨rfl, rfl⟩, .inr (.inr (beq_false_of_ne (not_ne_self _)))⟩

theorem cutWrite_block {x : Settings} {b : BlockId} {copy : Items} (h : x.writing = some (.block b copy)) (cut : WriteCut) :
    ((x.cutWrite cut).storedProtect = x.storedProtect ∧ (x.cutWrite cut).protectCheck = x.protectCheck) ∧
      (∀ d, d ≠ b → (x.cutWrite cut).checks.at d = x.checks.at d ∧
        ∀ i ∈ d.items, (x.cutWrite cut).stored.get i = x.stored.get i) ∧
      ((x.cutWrite cut).stored = x.stored ∧ (x.cutWrite cut).checks = x.checks ∨
        (x.cutWrite cut).checks.at b = crc16 (copy.blockBytes b) ∧ (∀ i ∈ b.items, (x.cutWrite cut).stored.get i = copy.get i) ∨
        crc16 ((x.cutWrite cut).stored.blockBytes b) ≠ (x.cutWrite cut).checks.at b) := by
  have other {d : BlockId} (ne : d ≠ b) {i : Item} (mem : i ∈ d.items) : (x.stored.takeBlock b copy).get i = x.stored.get i := by
    rw [Items.takeBlock_get, Item.block_of_mem mem, if_neg ne]
  have own {i : Item} (mem : i ∈ b.items) : (x.stored.takeBlock b copy).get i = copy.get i := by
    rw [Items.takeBlock_get, Item.block_of_mem mem, if_pos rfl]
  have put {α : Type} (y : Seven α) (v : α) : (y.put b v).at b = v := (Seven.put_at y b b v).trans (if_pos rfl)
  have stays {α : Type} (y : Seven α) (v : α) {d : BlockId} (ne : d ≠ b) : (y.put b v).at d = y.at d :=
    (Seven.put_at y b d v).trans (if_neg ne)
  unfold cutWrite
  rw [h]
  cases cut with
  | untouched => exact ⟨⟨rfl, rfl⟩, fun d _ => ⟨rfl, fun _ _ => rfl⟩, .inl ⟨rfl, rfl⟩⟩
  | complete =>
    exact ⟨⟨rfl, rfl⟩, fun d ne => ⟨stays _ _ ne, fun i mem => other ne mem⟩, .inr (.inl ⟨put _ _, fun i mem => own mem⟩)⟩
  | partly =>
    refine ⟨⟨rfl, rfl⟩, fun d ne => ⟨stays _ _ ne, fun i mem => other ne mem⟩, .inr (.inr ?_)⟩
    dsimp only
    rw [put]
    exact (not_ne_self _).symm

end Settings

/-! ### The reset -/

theorem State.restart_unconfigured (s : State) (a b e : Bool) : (s.restart a b e).unconfiguredCause =
    !((s.restart a b e).items.blockHasValues .geometry && (s.restart a b e).items.clearance.table.isSome && !(a && b)) := rfl

theorem State.restart_fault (s : State) (a b e : Bool) (f : FaultId) : (s.restart a b e).fault f =
    resetRec e (s.settings.cutWrite (Config.writeCut s.cutCount)).loadFailed (s.restart a b e).unconfiguredCause
      (s.restart a b e).items.masks f := by
  rw [restart_unconfigured, restart_items]
  unfold fault restart
  dsimp only
  rw [reset_rec]
  rfl

theorem Settings.loadFailed_iff (x : Settings) : x.loadFailed = true ↔ x.protectLoads = false ∨ ∃ b, x.loaded.at b = false := by
  have all (b : BlockId) : b ∈ allBlocks := by cases b <;> decide
  simp [loadFailed, all]

/-- Settles O5: the blocks and PROTECT loaded or rejected, the latches, and the store. -/
theorem resetLoads : Obligations.ResetLoads := by
  intro role1 role0 estop s
  refine ⟨s.restart role1 role0 estop, rfl, ?_⟩
  intro x old
  have load : x = (s.settings.cutWrite (Config.writeCut s.cutCount)).load (roleOf role1 role0) := rfl
  have items : (s.restart role1 role0 estop).items =
    (s.settings.cutWrite (Config.writeCut s.cutCount)).loadItems (roleOf role1 role0) := rfl
  have role : (s.restart role1 role0 estop).role = roleOf role1 role0 := rfl
  have fault := s.restart_fault role1 role0 estop
  have protected_ (v : Bool) (h : old.writing = some (.protect v)) := Settings.cutWrite_protect h (Config.writeCut s.cutCount)
  have block (b : BlockId) (copy : Items) (h : old.writing = some (.block b copy)) :=
    Settings.cutWrite_block h (Config.writeCut s.cutCount)
  have idle (h : old.writing = none) := Settings.cutWrite_idle h (Config.writeCut s.cutCount)
  generalize s.restart role1 role0 estop = t at *
  generalize s.settings.cutWrite (Config.writeCut s.cutCount) = y at *
  clear_value x
  subst load
  have latched (f : FaultId) : t.latched f = _ := congrArg FaultRec.latch (fault f)
  have full : y.loadFull = t.items.geometry.fullOpen.getD 8500 := by rw [items]; exact y.loadFull_eq _
  have get (i : Item) {b : BlockId} (mem : i ∈ b.items) : t.items.get i =
      if y.loaded.at b = true then y.stored.get i else (Items.default t.role).get i := by
    rw [items, role, Settings.loadItems_get, Item.block_of_mem mem]
  refine ⟨fun b => ?_, fun b loaded i mem => ?_, fun no i mem => ?_, fun no => ?_, fun b _ _ no i mem => ?_, rfl, rfl, rfl, rfl,
    fun f => ?_, ?_, ?_, ?_, fun h => ?_, protected_, block⟩
  · rw [Settings.load_rejected, Bool.not_eq_false', Settings.loaded_at, Settings.loads_iff, full]
    rfl
  · rw [Settings.load_rejected, Bool.not_eq_false'] at loaded
    rw [get i mem, if_pos loaded]
    rfl
  · have off : (y.load (roleOf role1 role0)).rejected.at .geometry = true := no
    rw [Settings.load_rejected] at off
    rw [get i mem, if_neg (by simpa using off)]
    generalize t.role = r
    revert i
    cases r <;> decide
  · rw [items, Settings.loadItems_clearance, if_neg (by simpa [Settings.load] using no)]
    rfl
  · rw [Settings.load_rejected] at no
    rw [get i mem, if_neg (by simpa using no)]
  · rw [fault]
    rfl
  · have failed : (∃ b, (y.load (roleOf role1 role0)).rejected.at b = true) ↔ ∃ b, y.loaded.at b = false := by
      simp only [Settings.load_rejected, Bool.not_eq_true']
    have protectLoads : (y.load (roleOf role1 role0)).protectLoads = y.protectLoads := rfl
    rw [failed, protectLoads, ← Settings.loadFailed_iff, latched]
    simp [resetRec]
  · rw [latched]
    cases estop <;> rfl
  · rw [latched]
    simp [resetRec]
  · rw [← idle h]
    exact ⟨⟨rfl, rfl⟩, rfl, rfl⟩

end Sys2Proof.Machine
end

section
/-!
SUPPORT. OPEN (R128, R130 to R132): its checks in their order, and the opening that an accepted one leaves in PENDING.
-/

namespace Sys2Proof.Machine

open Sys2Proof

namespace State

theorem freshOrSole_lead {s : State} (lead : s.role ≠ .follow) :
    s.freshOrSole = true ↔ (s.role = .lead → s.link.paired = true) := by
  unfold freshOrSole twin
  cases role : s.role <;> simp_all

/-- The run direction of an opening: that of the first record of its list (R132). -/
theorem runOf_eq (s : State) (ns : List Nat) : s.runOf ns = ns.head?.bind fun n => (s.findRec n).map Rec.dir := by
  unfold runOf
  cases ns.head? <;> rfl

/-- An accepted OPEN, field by field (R128, R132, R138). -/
theorem startOpening_effect {s : State} (lead : s.role ≠ .follow) (idle : s.opening.phase = .idle) (ns : List Nat) :
    ∃ target, TargetIs (s.startOpening ns) target ∧ s.startOpening ns = { s with
      book := { s.book with
        records := s.book.records.map fun r => if r.number ∈ ns then { r with state := .grouped, changed := true } else r },
      opening := { s.opening with
        number := if 65535 ≤ s.opening.number then 1 else s.opening.number + 1, phase := .pending,
        group := s.opening.group ++ ns, target := some target, frozen := false, creditUsed := false, command := none,
        runDir := (s.opening.group ++ ns).head?.bind fun n => (s.findRec n).map Rec.dir } } := by
  let v : State := { s with
    book := { s.book with
      records := s.book.records.map fun r => if r.number ∈ ns then { r with state := .grouped, changed := true } else r },
    opening := { s.opening with
      number := nextOpening s.opening.number, phase := .pending, group := s.opening.group ++ ns, frozen := false,
      creditUsed := false, command := none, runDir := s.runOf (s.opening.group ++ ns) } }
  have entered : s.startOpening ns = v.recomputeTarget := by
    have off : ¬(s.role != .follow && s.opening.phase == .heldOpen && Phase.pending != .heldOpen) = true := by simp [idle]
    unfold startOpening setPhase
    rw [groupThem_eq]
    exact congrArg recomputeTarget (if_neg off)
  have open_ : v.targetOpen = true := (targetOpen_iff v).mpr ⟨lead, rfl, .inl rfl⟩
  have target : v.recomputeTarget.opening.target = some v.targetFor := by rw [recomputeTarget_target, if_pos open_]
  refine ⟨v.targetFor, ?_, ?_⟩
  · rw [entered, recomputeTarget_frame]
    exact TargetIs.congr (targetFor_is v) rfl rfl rfl
  · rw [entered, recomputeTarget_frame, target, ← runOf_eq]
    rfl

/-! ### The checks of OPEN (R132) -/

theorem judgeOpen_phase {s : State} (lead : s.role ≠ .follow) (busy : s.opening.phase ≠ .idle) : s.judgeOpen = .error .wrongState := by
  simp [judgeOpen, lead, busy]

theorem judgeOpen_halted {s : State} (lead : s.role ≠ .follow) (idle : s.opening.phase = .idle) (halted : s.faults.halted = true) :
    s.judgeOpen = .error .halted := by
  simp [judgeOpen, lead, idle, halted]

theorem judgeOpen_unconfigured {s : State} (lead : s.role ≠ .follow) (idle : s.opening.phase = .idle)
    (run : s.faults.halted = false) (cond : (s.fault .unconfigured).cond = true) : s.judgeOpen = .error .unconfigured := by
  simp [judgeOpen, lead, idle, run, cond]

section Configured

variable {s : State} (lead : s.role ≠ .follow) (idle : s.opening.phase = .idle) (run : s.faults.halted = false)
  (cond : (s.fault .unconfigured).cond = false)
include lead idle run cond

theorem judgeOpen_unready (off : ¬(s.motion.state = .seatedLocked ∧ s.freshOrSole = true)) : s.judgeOpen = .error .wrongState := by
  by_cases seat : s.motion.state = .seatedLocked
  · have stale : s.freshOrSole = false := by
      rw [← Bool.not_eq_true]
      exact fun h => off ⟨seat, h⟩
    simp [judgeOpen, lead, idle, run, cond, seat, stale]
  · simp [judgeOpen, lead, idle, run, cond, seat]

theorem judgeOpen_none (ready : s.motion.state = .seatedLocked ∧ s.freshOrSole = true) (none_ : s.taken none = []) :
    s.judgeOpen = .error .noPassages := by
  obtain ⟨seat, fresh⟩ := ready
  simp [judgeOpen, lead, idle, run, cond, seat, fresh, none_]

theorem judgeOpen_ok (ready : s.motion.state = .seatedLocked ∧ s.freshOrSole = true) (some_ : s.taken none ≠ []) :
    s.judgeOpen = .ok (s.taken none) := by
  obtain ⟨seat, fresh⟩ := ready
  cases takes : s.taken none with
  | nil => exact absurd takes some_
  | cons n ns => simp [judgeOpen, lead, idle, run, cond, seat, fresh, takes]

end Configured

end State

theorem exec_openSpan_refused {s : State} {r : Result} (h : s.asked.judgeOpen = .error r) :
    exec (.openSpan .operator) s = .next (s.asked.respond r []) := by
  rw [exec_openSpan, h]
  rfl

theorem exec_openSpan_accepted {s : State} {ns : List Nat} (h : s.asked.judgeOpen = .ok ns) :
    exec (.openSpan .operator) s = .next ((s.asked.startOpening ns).settle.respond .ok
      (be16 (s.asked.startOpening ns).settle.opening.number ++ optAngle (s.asked.startOpening ns).settle.opening.target ++
        u8 (s.asked.startOpening ns).settle.opening.phase.code)) := by
  rw [exec_openSpan, h]
  rfl

end Sys2Proof.Machine
end

section
/-!
SUPPORT. The start of an opening (R133, R134): the start test, and the state that it begins, which every later round of the settling
keeps.
-/

namespace Sys2Proof.Machine.State

open Sys2Proof

/-! ### The conditions of the start test and of the advances (R133, R136) -/

theorem holdSummary_false_iff (s : State) : s.holdSummary = false ↔ ∀ f, f.cls = .hold → s.latched f = false := by
  have mem (f : FaultId) : f ∈ holdFaults ↔ f.cls = .hold := by cases f <;> decide
  simp only [holdSummary, List.any_eq_false, mem, Bool.not_eq_true]

theorem advanceAllowed_iff {s : State} (lead : s.role ≠ .follow) : s.advanceAllowed = true ↔ s.MayAdvance := by
  have fresh := freshOrSole_lead lead
  have view : s.freshOrSole = true → ((!(s.freshView.any (·.holdActive))) = true ↔
      (s.role = .lead → ∀ v, s.link.view = some v → v.holdActive = false)) := fun h => by
    rw [fresh] at h
    cases role : s.role with
    | sole => simp [freshView, twin, role]
    | follow => exact absurd role lead
    | lead => cases link : s.link.view <;> simp [freshView, twin, role, link, h role]
  simp only [advanceAllowed, Bool.and_eq_true, Bool.not_eq_true', holdSummary_false_iff, MayAdvance]
  constructor
  · rintro ⟨⟨⟨going, holds⟩, ok⟩, quiet⟩
    exact ⟨lead, going, holds, fun is => ⟨fresh.mp ok is, (view ok).mp (by simpa using quiet) is⟩⟩
  · rintro ⟨-, going, holds, twin⟩
    have ok : s.freshOrSole = true := fresh.mpr fun is => (twin is).1
    exact ⟨⟨⟨going, holds⟩, ok⟩, by simpa using (view ok).mpr fun is => (twin is).2⟩

/-- The conditions lie in the opening record's suspended flag, the fault unit and the link. -/
theorem MayAdvance.congr {s t : State} (h : s.MayAdvance) (role : t.role = s.role) (going : t.opening.suspended = s.opening.suspended)
    (faults : t.faults = s.faults) (link : t.link = s.link) : t.MayAdvance := by
  unfold MayAdvance latched fault at *
  rw [role, going, faults, link]
  exact h

theorem groupUrgent_iff (s : State) : s.groupUrgent = true ↔ ∃ r, Grouped s r ∧ r.priority = .urgent := by
  simp only [groupUrgent, List.any_eq_true, Grouped]
  constructor
  · rintro ⟨n, hn, h⟩
    cases found : s.findRec n with
    | none => simp [found] at h
    | some r => exact ⟨r, ⟨n, hn, found⟩, by simpa [found] using h⟩
  · rintro ⟨r, ⟨n, hn, found⟩, urgent⟩
    exact ⟨n, hn, by simp [found, urgent]⟩

/-! ### A phase before the leaf moves: what the stages leave of the opening -/

/-- What the start of an opening has written of its record. -/
def plan (o : Opening) : Phase × Option SeqCmd × Nat × Bool × IntervalState × Timer :=
  (o.phase, o.command, o.credits, o.creditUsed, o.interval, o.intervalTimer)

theorem reportAll_plan (s : State) : plan s.reportAll.opening = plan s.opening := by
  have entered (t : State) (f : FaultId) : plan (t.enterHalt f).opening = plan t.opening := by
    have tone (t : State) : t.startTone.opening = t.opening := by
      unfold startTone
      split <;> rfl
    have halt (t : State) : plan t.haltOpening.opening = plan t.opening := by
      unfold haltOpening
      split <;> rfl
    unfold enterHalt
    rw [tone, halt, revokeCalled_frame]
    rfl
  unfold reportAll
  dsimp only
  split
  · rfl
  · split
    · rw [entered]
    · rfl

/-- The permit and the angle write the opening where the leaf rises or falls for it alone (R61, R135). -/
theorem permitStage_opening {s : State} (raising : s.opening.phase ≠ .raising) (lowering : s.opening.phase ≠ .lowering) :
    s.permitStage.opening = s.opening := by
  unfold permitStage
  repeat' split
  all_goals first
    | rfl
    | contradiction

theorem angleStage_opening (s : State) : s.angleStage.opening = s.opening := by rw [angleStage_frame]

theorem tryCommand_none {s : State} (h : s.opening.command = none) : s.tryCommand = s := by
  unfold tryCommand
  rw [h]

theorem endSuspension_going {s : State} (h : s.opening.suspended = false) : s.endSuspension = s := by
  unfold endSuspension
  rw [if_neg (by simp [h])]

theorem startTest_off {s : State} (h : s.opening.phase ≠ .pending) : s.startTest = s := by
  unfold startTest
  rw [if_neg (by simp [h])]

theorem advancePhase_none {s : State} (h : s.nextPhase = none) : s.advancePhase = s := by
  unfold advancePhase
  split
  · rw [h]
  · rfl

/-- Outside HELD_OPEN no call is due, and the channel leaves the opening as it is (R120). -/
theorem channelStage_opening {s : State} (h : s.opening.phase ≠ .heldOpen) : s.channelStage.opening = s.opening := by
  have drift : s.driftStage.opening = s.opening := by rw [driftStage_frame]
  have due : ¬s.driftStage.callDue = true := by
    rw [callDue, drift]
    simp [h]
  unfold channelStage
  split
  · rfl
  · unfold callStage
    rw [if_neg due, drift]

theorem channelStage_ap (s : State) (x : Ap) : s.channelStage.ap x = s.ap x := by
  have frame := channelStage_frame s
  unfold SameButCall at frame
  rw [frame]
  cases x <;> rfl

theorem outputs_opening (s : State) : s.outputs.opening = s.opening := by
  show s.aspectStage.lampStage.opening = _
  rw [lampStage_frame]
  rfl

/-- The outputs write of an approach its lamps alone (R93). -/
theorem outputs_ap (s : State) (x : Ap) : s.outputs.ap x = { s.ap x with gates := (s.outputs.ap x).gates } := by
  show s.aspectStage.lampStage.ap x = { s.ap x with gates := (s.aspectStage.lampStage.ap x).gates }
  unfold lampStage
  rw [onUsedAps_ap]
  split
  · cases x <;> rfl
  · cases x <;> rfl

/-! ### What the stages leave of the phase -/

theorem giveStep_phase (s : State) : s.giveStep.opening.phase = s.opening.phase := by
  have road (t : State) : t.roadStep.opening = t.opening := roadStep_opening t
  unfold giveStep
  split
  case h_3 | h_4 =>
    split
    exacts [rfl, congrArg Opening.phase (road s)]
  case h_6 | h_8 => split <;> rfl
  case h_7 =>
    split
    · rfl
    · dsimp only
      split <;> rfl
  all_goals rfl

theorem enterPhase_phase (s : State) (p : Phase) : (s.enterPhase p).opening.phase = p := by
  rw [enterPhase, giveStep_phase, setPhase_opening]

theorem startInterval_phase (s : State) : s.startInterval.opening.phase = s.opening.phase := by
  unfold startInterval
  split <;> rfl

theorem toIdle_phase (s : State) : s.toIdle.opening.phase = .idle := by
  rw [toIdle, startInterval_phase]
  exact congrArg Opening.phase (s.setPhase_opening .idle)

theorem nextPhase_ne_pending (s : State) : s.nextPhase ≠ some .pending := by
  unfold nextPhase
  repeat' split
  all_goals simp

/-- No advance enters PENDING (R136). -/
theorem advancePhase_of_pending {s : State} (h : s.advancePhase.opening.phase = .pending) : s.advancePhase = s := by
  unfold advancePhase at h ⊢
  split at h
  next may =>
    rw [if_pos may]
    split at h
    · rw [toIdle_phase] at h
      cases h
    next p _ next_ =>
      rw [enterPhase_phase] at h
      exact absurd (h ▸ next_) s.nextPhase_ne_pending
    next => rfl
  next off => rw [if_neg off]

/-- A start leaves PENDING (R133). -/
theorem startTest_of_pending {s : State} (h : s.startTest.opening.phase = .pending) : s.startTest = s := by
  unfold startTest at h ⊢
  split at h
  next may =>
    rw [if_pos may]
    split at h
    · rw [enterPhase_phase] at h
      cases h
    next running =>
      rw [if_neg running]
      split at h
      · rw [enterPhase_phase] at h
        cases h
      next none_ => rw [if_neg none_]
  next off => rw [if_neg off]

theorem channelStage_phase (s : State) : s.channelStage.opening.phase = s.opening.phase := by
  have drift : s.driftStage.opening.phase = s.opening.phase := by rw [driftStage_frame]
  have ready (t : State) (d : Dir) (n : Nat) : (t.callIfReady d n).opening = t.opening := by
    unfold callIfReady
    split <;> rfl
  unfold channelStage
  split
  · rfl
  · refine Eq.trans ?_ drift
    unfold callStage
    dsimp only
    repeat' split
    · rw [ready]
    · rw [ready]
      rfl
    all_goals rfl

/-! ### The records by their numbers -/

/-- The records of two states with the same keys answer the same numbers, with the same keys. -/
theorem findRec_of_keys {s t : State} (keys : t.book.records.map Rec.key = s.book.records.map Rec.key) (n : Nat) :
    (t.findRec n).map Rec.key = (s.findRec n).map Rec.key := by
  have find (u : State) : (u.findRec n).map Rec.key = (u.book.records.map Rec.key).find? fun r => r.number == n := by
    rw [List.find?_map]
    rfl
  rw [find, find, keys]

end Sys2Proof.Machine.State
end

section
/-!
SUPPORT. An opening that has begun to close the road stays as it began through the rounds of the settling (R97, R133, R134).
-/

namespace Sys2Proof.Machine

open Sys2Proof

/-! ### An approach in PREWARN (R97, R98) -/

/-- The closure states from which a closure starts. -/
def Approach.Open (a : Approach) : Prop := a.closure = .openRoad ∨ a.closure = .restart ∨ a.closure = .reopening

theorem Approach.followZones_outside {x : RoadCtx} {a : Approach} (h : a.closure ≠ .clearing) : a.followZones x = a := by
  unfold followZones
  rw [if_neg (by simp [h])]

theorem Approach.advance_prewarn {x : RoadCtx} {a : Approach} (h : a.closure = .prewarn) : a.advance x = a := by
  unfold advance gateAdvance
  rw [h]

theorem Approach.round_outside {x : RoadCtx} {a : Approach} (h : a.closure ≠ .clearing) : a.round x =
    ({ a with gates := Six.zip (fun k g => Gate.round x a.closure a.reopenStep k g) x.kinds a.gates } : Approach).advance x := by
  unfold round
  dsimp only
  rw [followZones_outside (by exact h)]

theorem Approach.round_prewarn {x : RoadCtx} {a : Approach} (h : a.closure = .prewarn) :
    (a.round x).closure = .prewarn ∧ (a.round x).stateTimer = a.stateTimer := by
  rw [round_outside (by simp [h]), advance_prewarn (by exact h)]
  exact ⟨h, rfl⟩

/-- An open approach stays open while its gates move (R103). -/
theorem Approach.advance_open {x : RoadCtx} {a : Approach} (h : a.Open) : (a.advance x).Open := by
  unfold advance
  split
  next b advanced =>
    split
    · exact h
    · rcases h with h | h | h <;> simp only [gateAdvance, h] at advanced
      · cases advanced
      · cases advanced
      · split at advanced
        · split at advanced <;> cases advanced
          exact .inl rfl
        · split at advanced <;> cases advanced
          exact .inr (.inr rfl)
  next => exact h

theorem Approach.round_open {x : RoadCtx} {a : Approach} (h : a.Open) : (a.round x).Open := by
  rw [round_outside (by rcases h with h | h | h <;> simp [h])]
  exact advance_open (by exact h)

theorem Approach.closureStart_prewarn {x : RoadCtx} {a : Approach} (h : a.closure = .prewarn) : a.closureStart x = a := by
  unfold closureStart
  rw [h]

theorem Approach.closureStart_open {x : RoadCtx} {a : Approach} (h : a.Open) :
    (a.closureStart x).closure = .prewarn ∧ (a.closureStart x).stateTimer = Timer.startS x.prewarnTime := by
  unfold closureStart
  rcases h with h | h | h <;> rw [h] <;> exact ⟨rfl, rfl⟩

namespace State

/-! ### The state that a start begins -/

theorem plan_phase {o p : Opening} (h : plan o = plan p) : o.phase = p.phase := congrArg Prod.fst h

theorem plan_command {o p : Opening} (h : plan o = plan p) : o.command = p.command := congrArg (fun x => x.2.1) h

/-- The approaches of `U` stand in PREWARN, their timers as at the start, and the opening record as the start wrote it. -/
structure Closing (U : Ap → Prop) (v t : State) : Prop where
  role : t.role = v.role
  settings : t.settings = v.settings
  plan : plan t.opening = plan v.opening
  road : ∀ x, U x → (t.ap x).closure = .prewarn ∧ (t.ap x).stateTimer = (v.ap x).stateTimer

theorem usesAp_congr {s t : State} (role : t.role = s.role) (x : Ap) : t.usesAp x = s.usesAp x := by
  cases x <;> simp [usesAp, role]

namespace Closing

variable {U : Ap → Prop} {v t : State}

/-- A stage that leaves the role, the settings, the approaches and the plan of the opening. -/
theorem of_same {u : State} (h : Closing U v t) (role : u.role = t.role) (settings : u.settings = t.settings)
    (plan : State.plan u.opening = State.plan t.opening) (ap : ∀ x, u.ap x = t.ap x) : Closing U v u :=
  ⟨role.trans h.role, settings.trans h.settings, plan.trans h.plan, fun x hx => by rw [ap]; exact h.road x hx⟩

/-- The road's step and the gates' round leave an approach in PREWARN. -/
theorem onUsedAps (h : Closing U v t) {f : RoadCtx → Approach → Approach}
    (stays : ∀ x a, a.closure = .prewarn → (f x a).closure = .prewarn ∧ (f x a).stateTimer = a.stateTimer) :
    Closing U v (t.onUsedAps f) := by
  refine ⟨?_, ?_, ?_, fun x hx => ?_⟩
  · rw [onUsedAps_frame]
    exact h.role
  · rw [onUsedAps_frame]
    exact h.settings
  · rw [onUsedAps_frame]
    exact h.plan
  · obtain ⟨closure, timer⟩ := h.road x hx
    rw [onUsedAps_ap]
    split
    · obtain ⟨closure', timer'⟩ := stays (t.roadCtx x) (t.ap x) closure
      exact ⟨closure', timer'.trans timer⟩
    · exact ⟨closure, timer⟩

variable (phase : v.opening.phase = .closingRoad) (command : v.opening.command = none) (lead : v.role ≠ .follow)
include phase

theorem phase_eq (h : Closing U v t) : t.opening.phase = .closingRoad := (plan_phase h.plan).trans phase

include lead

theorem endSuspension (h : Closing U v t) : Closing U v t.endSuspension := by
  have step : Closing U v t.clearSuspension.giveStep := by
    have cleared : Closing U v t.clearSuspension := h.of_same rfl rfl rfl fun x => by cases x <;> rfl
    have given : t.clearSuspension.giveStep = (t.clearSuspension.onUsedAps fun x a => a.closureStart x).renewGreens := by
      have closing : t.clearSuspension.opening.phase = .closingRoad := cleared.phase_eq phase
      have off : ¬(t.clearSuspension.role == .follow && !t.clearSuspension.link.paired) = true := by
        have own : t.clearSuspension.role = v.role := h.role
        simp [own, lead]
      unfold giveStep roadStep
      simp only [closing]
      rw [if_neg off]
    rw [given]
    refine (cleared.onUsedAps fun x a pre => ?_).of_same rfl rfl rfl fun x => by cases x <;> rfl
    rw [Approach.closureStart_prewarn pre]
    exact ⟨pre, rfl⟩
  unfold State.endSuspension
  dsimp only
  split
  · split
    next rise => simp [h.phase_eq phase] at rise
    next => exact step
  · exact h

omit lead in
/-- What a round does after the start test keeps the opening as it began, while an approach in use stands in PREWARN. -/
theorem tail (h : Closing U v t) (some_ : ∃ x, U x ∧ v.usesAp x = true) : Closing U v t.advancePhase.channelStage.outputs := by
  have closing := h.phase_eq phase
  have next : t.nextPhase = none := by
    obtain ⟨x, hx, uses⟩ := some_
    have shut : ¬t.allUsedAps (· == .closed) = true := by
      rw [allUsedAps_iff]
      intro all
      have closed := all x ((usesAp_congr h.role x).trans uses)
      rw [(h.road x hx).1] at closed
      cases closed
    unfold nextPhase
    simp only [closing]
    rw [if_neg (by simp [shut])]
  rw [advancePhase_none next]
  have channel : Closing U v t.channelStage := by
    have frame := channelStage_frame t
    unfold SameButCall at frame
    refine h.of_same ?_ ?_ ?_ (channelStage_ap _)
    · rw [frame]
    · rw [frame]
    · rw [channelStage_opening (by simp [closing])]
  refine ⟨?_, ?_, ?_, fun x hx => ?_⟩
  · exact (outputs_role _).trans channel.role
  · exact (outputs_settings _).trans channel.settings
  · rw [outputs_opening]
    exact channel.plan
  · rw [outputs_ap]
    exact channel.road x hx

include command

/-- A round keeps the opening as it began, while an approach in use stands in PREWARN. -/
theorem round (h : Closing U v t) (some_ : ∃ x, U x ∧ v.usesAp x = true) : Closing U v t.round := by
  obtain ⟨apA, apB, settings, role⟩ := t.reportAll_frame_aps
  have reported : Closing U v t.reportAll := h.of_same role settings t.reportAll_plan fun x => by
    cases x
    exacts [apA, apB]
  have moved {w : State} (h : Closing U v w) : Closing U v w.permitStage.angleStage := by
    have closing := h.phase_eq phase
    refine h.of_same ?_ ?_ ?_ fun x => ?_
    · rw [angleStage_frame, permitStage_frame]
    · rw [angleStage_frame, permitStage_frame]
    · rw [angleStage_opening, permitStage_opening (by simp [closing]) (by simp [closing])]
    · rw [angleStage_frame, permitStage_frame]
      cases x <;> rfl
  have locks {w : State} (h : Closing U v w) : Closing U v w.seatLockStage.toeStage := by
    refine h.of_same ?_ ?_ ?_ fun x => ?_
    · rw [toeStage_frame, seatLockStage_frame]
    · rw [toeStage_frame, seatLockStage_frame]
    · rw [toeStage_frame, seatLockStage_frame]
    · rw [toeStage_frame, seatLockStage_frame]
      cases x <;> rfl
  have before : Closing U v t.beforeRoad := by
    have going := (moved reported).endSuspension phase lead
    unfold beforeRoad
    rw [tryCommand_none ((plan_command going.plan).trans command)]
    exact locks going
  have road : Closing U v t.beforeRoad.roadStage := before.onUsedAps fun x a pre => Approach.round_prewarn pre
  have open_ : t.beforeRoad.roadStage.opening.phase ≠ .pending := by simp [road.phase_eq phase]
  rw [round_eq, startTest_off open_]
  exact road.tail phase some_

theorem rounds (h : Closing U v t) (some_ : ∃ x, U x ∧ v.usesAp x = true) (n : Nat) : Closing U v (State.rounds n t) := by
  induction n generalizing t with
  | zero => exact h
  | succ n ih => exact ih (h.round phase command lead some_)

end Closing

end State

end Sys2Proof.Machine
end

section
/-!
SUPPORT. The start test of a settled opening in PENDING, once its settle interval or its road interval has ended (R133, R134).
-/

namespace Sys2Proof.Machine.State

open Sys2Proof

/-! ### The report of a settled state -/

theorem cause_opening (s : State) (o : Opening) (f : FaultId) : ({ s with opening := o } : State).cause f = s.cause f := by
  cases f <;> rfl

/-- Where the blocks have nothing new to report, and no HALT latch waits for its halt, a report changes nothing. -/
theorem reportAll_quiet {u : State} (recs : u.reportedRecs = u.faults.recs)
    (calm : u.faults.halted = false → ∀ f, f.cls = .halt → u.latched f = false) : u.reportAll = u := by
  have same : ({ u with faults := { u.faults with recs := u.reportedRecs } } : State) = u := by rw [recs]
  unfold reportAll
  dsimp only
  rw [same]
  split
  · rfl
  next run =>
    have none_ : (haltFaults.find? fun f => u.latched f) = none := by
      rw [List.find?_eq_none]
      intro f mem
      rw [calm (by simpa using run) f (((mem_haltFaults_iff f).mp mem))]
      simp
    rw [none_]

theorem reportAll_recs (s : State) : s.reportAll.faults.recs = s.reportedRecs := by
  unfold reportAll
  dsimp only
  split
  · rfl
  · split
    · rw [enterHalt_recs]
    · rfl

/-- Where the causes are those of a settled state, the blocks have nothing more to report (R168). -/
theorem reportAll_of_causes {s t : State} (settled : s.Settled) (faults : t.faults = s.faults) (causes : ∀ f, t.cause f = s.cause f) :
    t.reportAll = t := by
  have same : s.reportAll.faults = s.faults := by
    rw [← round_faults, settled.2]
  have own : s.reportedRecs = s.faults.recs := by rw [← reportAll_recs, same]
  refine reportAll_quiet ?_ fun run f cls => ?_
  · rw [faults]
    refine Eq.trans ?_ own
    refine Vector.ext fun i hi => ?_
    obtain ⟨f, index⟩ := index_surj ⟨i, hi⟩
    have each (t : State) : t.reportedRecs[i] = t.reported f := by
      rw [← reportedRecs_getElem t f]
      simp only [index, Fin.getElem_fin]
    rw [each, each, reported, reported, causes, fault, faults, fault]
  · rw [← Bool.not_eq_true]
    intro latched
    have halted := reportAll_halts cls (s := s) (by
      rw [State.latched, State.fault, same]
      rw [State.latched, State.fault, faults] at latched
      exact latched)
    rw [same, ← faults] at halted
    exact absurd halted (by simpa using run)

theorem reportAll_settled {s : State} (settled : s.Settled) (o : Opening) :
    ({ s with opening := o } : State).reportAll = { s with opening := o } :=
  reportAll_of_causes settled rfl (cause_opening s o)

/-! ### The stages before the start test, on an opening in PENDING -/

theorem tryCommand_ap {s : State} (closing : s.opening.phase ≠ .closingRoad) (reopening : s.opening.phase ≠ .reopeningRoad) (x : Ap) :
    s.tryCommand.ap x = s.ap x := by
  have road : s.roadStep = s := by
    unfold roadStep
    split
    · exact absurd ‹_› closing
    · exact absurd ‹_› reopening
    · rfl
  have given {t : State} {c : SeqCmd} (h : s.giveCommand c = some t) : t.ap x = s.ap x := by
    cases c <;> simp only [giveCommand, Option.ite_none_right_eq_some, Option.some.injEq] at h
    case road => rw [← h, road]
    case lower =>
      obtain ⟨-, rfl⟩ := h
      rw [startDown_opening_frame]
      cases x <;> rfl
    all_goals
      obtain ⟨-, rfl⟩ := h
      cases x <;> rfl
  unfold tryCommand
  split
  · rfl
  · split
    · rfl
    · split
      next t taken =>
        rw [← given taken]
        cases x <;> rfl
      next => rfl

theorem tryCommand_opening (s : State) :
    s.tryCommand.opening = { s.opening with command := s.tryCommand.opening.command } := by
  unfold tryCommand
  split
  · rfl
  · split
    · rfl
    · split
      next t given =>
        have same := giveCommand_course given
        show { t.opening with command := none } = _
        rw [same]
        rfl
      next => rfl

theorem tryCommand_rest (s : State) : s.tryCommand.role = s.role ∧ s.tryCommand.settings = s.settings ∧
    s.tryCommand.book = s.book ∧ s.tryCommand.faults = s.faults ∧ s.tryCommand.link = s.link := by
  have frame := tryCommand_frame s
  unfold SameButCommand at frame
  generalize s.tryCommand = t at frame
  rw [frame]
  exact ⟨rfl, rfl, rfl, rfl, rfl⟩

/-- Before its start test a round of a part that has nothing to report leaves an opening in PENDING as it is but for the outstanding
command, and an open approach open. -/
theorem beforeStart_pending {s : State} (reported : s.reportAll = s) (pending : s.opening.phase = .pending)
    (going : s.opening.suspended = false) :
    (s.beforeRoad.roadStage.role = s.role ∧ s.beforeRoad.roadStage.settings = s.settings ∧
      s.beforeRoad.roadStage.book = s.book ∧ s.beforeRoad.roadStage.faults = s.faults ∧
      s.beforeRoad.roadStage.link = s.link ∧
      s.beforeRoad.roadStage.opening = { s.opening with command := s.beforeRoad.roadStage.opening.command }) ∧
    ∀ x, (s.ap x).Open → (s.beforeRoad.roadStage.ap x).Open := by
  have moved : s.permitStage.angleStage.opening = s.opening := by
    rw [angleStage_opening, permitStage_opening (by simp [pending]) (by simp [pending])]
  have before : s.beforeRoad = s.permitStage.angleStage.tryCommand.seatLockStage.toeStage := by
    unfold beforeRoad
    rw [reported, endSuspension_going (by rw [moved]; exact going)]
  have ap (x : Ap) : s.beforeRoad.ap x = s.ap x := by
    have tried : s.permitStage.angleStage.tryCommand.ap x = s.permitStage.angleStage.ap x :=
      tryCommand_ap (by simp [moved, pending]) (by simp [moved, pending]) x
    have first : s.permitStage.angleStage.ap x = s.ap x := by
      rw [angleStage_frame, permitStage_frame]
      cases x <;> rfl
    rw [before, ← first, ← tried, toeStage_frame, seatLockStage_frame]
    cases x <;> rfl
  have opening : s.beforeRoad.opening = { s.opening with command := s.beforeRoad.opening.command } := by
    rw [before, toeStage_frame, seatLockStage_frame]
    exact moved ▸ tryCommand_opening s.permitStage.angleStage
  have rest : s.beforeRoad.role = s.role ∧ s.beforeRoad.settings = s.settings ∧ s.beforeRoad.book = s.book ∧
      s.beforeRoad.faults = s.faults ∧ s.beforeRoad.link = s.link := by
    have first : s.permitStage.angleStage.role = s.role ∧ s.permitStage.angleStage.settings = s.settings ∧
        s.permitStage.angleStage.book = s.book ∧ s.permitStage.angleStage.faults = s.faults ∧
        s.permitStage.angleStage.link = s.link := by
      rw [angleStage_frame, permitStage_frame]
      exact ⟨rfl, rfl, rfl, rfl, rfl⟩
    obtain ⟨role, settings, book, faults, link⟩ := s.permitStage.angleStage.tryCommand_rest
    obtain ⟨role', settings', book', faults', link'⟩ := first
    rw [before, toeStage_frame, seatLockStage_frame]
    exact ⟨role.trans role', settings.trans settings', book.trans book', faults.trans faults', link.trans link'⟩
  obtain ⟨role, settings, book, faults, link⟩ := rest
  refine ⟨?_, fun x open_ => ?_⟩
  · rw [roadStage_frame]
    exact ⟨role, settings, book, faults, link, opening⟩
  · unfold roadStage
    rw [onUsedAps_ap, ap]
    split
    exacts [Approach.round_open open_, open_]

/-! ### The start (R97, R133, R134) -/

/-- The entry to CLOSING_ROAD gives each used approach a closure start (R97, R135). -/
theorem enter_closing {w : State} (lead : w.role ≠ .follow) (pending : w.opening.phase = .pending) :
    (w.enterPhase .closingRoad).opening = { w.opening with phase := .closingRoad, command := none } ∧
    (w.enterPhase .closingRoad).role = w.role ∧ (w.enterPhase .closingRoad).settings = w.settings ∧
    ∀ x, (w.enterPhase .closingRoad).ap x =
      if w.usesAp x = true then (w.ap x).closureStart (w.roadCtx x) else w.ap x := by
  let v : State := { w with opening := { w.opening with phase := .closingRoad, command := none } }
  have entered : w.enterPhase .closingRoad = (v.onUsedAps fun x a => a.closureStart x).renewGreens := by
    have set : w.setPhase .closingRoad = v := by
      unfold setPhase
      exact if_neg (by simp [pending])
    have off : ¬(v.role == .follow && !v.link.paired) = true := by simp [v, lead]
    rw [enterPhase, set]
    unfold giveStep
    exact if_neg off
  rw [entered]
  refine ⟨?_, ?_, ?_, fun x => ?_⟩
  · show (v.onUsedAps fun x a => a.closureStart x).opening = _
    rw [onUsedAps_frame]
  · show (v.onUsedAps fun x a => a.closureStart x).role = _
    rw [onUsedAps_frame]
  · show (v.onUsedAps fun x a => a.closureStart x).settings = _
    rw [onUsedAps_frame]
  · have uses : v.usesAp x = w.usesAp x := by cases x <;> rfl
    have ctx : v.roadCtx x = w.roadCtx x := by cases x <;> rfl
    have ap : v.ap x = w.ap x := by cases x <;> rfl
    have road : ((v.onUsedAps fun x a => a.closureStart x).renewGreens).ap x = (v.onUsedAps fun x a => a.closureStart x).ap x := by
      cases x <;> rfl
    rw [road, onUsedAps_ap, uses, ctx, ap]

/-- An opening that the start test of a round begins has begun when the event has settled. -/
theorem settle_started {u w : State} (lead : w.role ≠ .follow) (pending : w.opening.phase = .pending)
    (begins : u.beforeRoad.roadStage.startTest = w.enterPhase .closingRoad)
    (some_ : ∃ x, w.usesAp x = true ∧ (w.ap x).Open) :
    plan u.settle.opening = plan { w.opening with phase := .closingRoad, command := none } ∧
    ∀ x, w.usesAp x = true → (w.ap x).Open → (u.settle.ap x).closure = .prewarn ∧
      (u.settle.ap x).stateTimer = .running (w.items.road.prewarnTime * 1000).toNat := by
  obtain ⟨opening, role, settings, ap⟩ := enter_closing lead pending
  let v := w.enterPhase .closingRoad
  let U := fun x : Ap => w.usesAp x = true ∧ (w.ap x).Open
  have phase : v.opening.phase = .closingRoad := congrArg Opening.phase opening
  have command : v.opening.command = none := congrArg Opening.command opening
  have lead' : v.role ≠ .follow := fun h => lead (role.symm.trans h)
  have started (x : Ap) (h : U x) : (v.ap x).closure = .prewarn ∧
      (v.ap x).stateTimer = .running (w.items.road.prewarnTime * 1000).toNat := by
    have at_ : v.ap x = (w.ap x).closureStart (w.roadCtx x) := (ap x).trans (if_pos h.1)
    rw [at_]
    exact Approach.closureStart_open h.2
  have uses : ∃ x, U x ∧ v.usesAp x = true := by
    obtain ⟨x, h⟩ := some_
    exact ⟨x, h, (usesAp_congr role x).trans h.1⟩
  have first : Closing U v u.round := by
    have begun : Closing U v v := ⟨rfl, rfl, rfl, fun x h => ⟨(started x h).1, rfl⟩⟩
    rw [round_eq, begins]
    exact begun.tail phase uses
  have last : Closing U v u.settle := first.rounds phase command lead' uses 7
  refine ⟨last.plan.trans (congrArg plan opening), fun x used open_ => ?_⟩
  obtain ⟨closure, timer⟩ := last.road x ⟨used, open_⟩
  exact ⟨closure, timer.trans (started x ⟨used, open_⟩).2⟩

end Sys2Proof.Machine.State
end

section
/-!
PROOFS. The start of an opening (O50): OPEN, the start test at every event, and the two ends that bring a start.
-/

namespace Sys2Proof.Machine

open Sys2Proof

namespace State

/-! ### The start test (R133, R134) -/

theorem startTest_elapsed {w : State} (may : w.MayAdvance) (pending : w.opening.phase = .pending)
    (rest : w.opening.settle.isRunning = false) (elapsed : w.opening.interval = .elapsed) :
    w.startTest = w.enterPhase .closingRoad := by
  have lead := may.1
  unfold startTest
  rw [if_pos (by simp [lead, pending, (advanceAllowed_iff lead).mpr may, rest]), if_pos (by simp [elapsed])]

theorem startTest_credit {w : State} (may : w.MayAdvance) (pending : w.opening.phase = .pending)
    (rest : w.opening.settle.isRunning = false) (running : w.opening.interval ≠ .elapsed)
    (urgent : ∃ r, Grouped w r ∧ r.priority = .urgent) (credit : 0 < w.opening.credits) :
    w.startTest = (w.modOpening fun o =>
      { o with credits := o.credits - 1, creditUsed := true, interval := .cut, intervalTimer := .stopped }).enterPhase
        .closingRoad := by
  have lead := may.1
  unfold startTest
  rw [if_pos (by simp [lead, pending, (advanceAllowed_iff lead).mpr may, rest]), if_neg (by simp [running]),
    if_pos (by simp [(groupUrgent_iff w).mpr urgent, credit])]

theorem isRunning_false {t : Timer} (h : ∀ ms, t ≠ .running ms) : t.isRunning = false := by
  cases t with
  | running ms => exact absurd rfl (h ms)
  | stopped | expired => rfl

section Settled

variable {s : State} {o : Opening} (settled : s.Settled) (may : s.MayAdvance) (pending : o.phase = .pending)
  (going : o.suspended = s.opening.suspended) (rest : ∀ ms, o.settle ≠ .running ms)
  (some_ : ∃ x, s.usesAp x = true ∧ (s.ap x).Open)
include settled may pending going rest some_

/-- A settled opening in PENDING begins where the start test of its first round does (R133, R134). -/
theorem settle_starts (spend : Opening → Opening) (phase : ∀ p, (spend p).phase = p.phase)
    (begins : ∀ w : State, w.MayAdvance → w.opening.settle.isRunning = false → w.book = s.book →
      w.opening = { o with command := w.opening.command } → w.startTest = (w.modOpening spend).enterPhase .closingRoad) :
    (∃ c, plan ({ s with opening := o } : State).settle.opening =
      plan { spend { o with command := c } with phase := .closingRoad, command := none }) ∧
    ∀ x, s.usesAp x = true → (s.ap x).Open → (({ s with opening := o } : State).settle.ap x).closure = .prewarn ∧
      (({ s with opening := o } : State).settle.ap x).stateTimer = .running (s.items.road.prewarnTime * 1000).toNat := by
  obtain ⟨⟨role, settings, book, faults, link, opening⟩, road⟩ :=
    beforeStart_pending (reportAll_settled settled o) pending (going.trans may.2.1)
  let u : State := { s with opening := o }
  let w := u.beforeRoad.roadStage
  have suspended : w.opening.suspended = s.opening.suspended := (congrArg Opening.suspended opening).trans going
  have may' : w.MayAdvance := may.congr role suspended faults link
  have idle : w.opening.settle.isRunning = false := by
    rw [congrArg Opening.settle opening]
    exact isRunning_false rest
  have pending' : (w.modOpening spend).opening.phase = .pending :=
    (phase _).trans ((congrArg Opening.phase opening).trans pending)
  have uses (x : Ap) : w.usesAp x = s.usesAp x := usesAp_congr (s := s) role x
  have ap (x : Ap) : (w.modOpening spend).ap x = w.ap x := by cases x <;> rfl
  have items : w.items = s.items := congrArg Settings.working settings
  have open_ (x : Ap) (h : (s.ap x).Open) : ((w.modOpening spend).ap x).Open := by
    rw [ap]
    refine road x ?_
    cases x <;> exact h
  have used (x : Ap) (h : s.usesAp x = true) : (w.modOpening spend).usesAp x = true := (uses x).trans h
  obtain ⟨written, closes⟩ := settle_started (u := u) (w := w.modOpening spend) may'.1 pending' (begins w may' idle book opening) <| by
    obtain ⟨x, h, h'⟩ := some_
    exact ⟨x, used x h, open_ x h'⟩
  refine ⟨⟨w.opening.command, ?_⟩, fun x h h' => ?_⟩
  · refine written.trans ?_
    exact congrArg (fun p : Opening => plan { spend p with phase := .closingRoad, command := none }) opening
  · rw [← items]
    exact closes x (used x h) (open_ x h')

end Settled

/-- No event leaves an opening in PENDING whose start test passes (R133). -/
theorem settle_startTest (u : State) (pending : u.settle.opening.phase = .pending) (may : u.settle.MayAdvance)
    (rest : ∀ ms, u.settle.opening.settle ≠ .running ms) :
    u.settle.opening.interval ≠ .elapsed ∧ ¬((∃ r, Grouped u.settle r ∧ r.priority = .urgent) ∧ 0 < u.settle.opening.credits) := by
  have last : u.settle = (rounds 7 u).beforeRoad.roadStage.startTest.advancePhase.channelStage.outputs :=
    (settle_round u).trans (round_eq _)
  generalize (rounds 7 u).beforeRoad.roadStage = z at last
  generalize u.settle = t at *
  have late (y : State) : y.channelStage.outputs.opening.phase = y.opening.phase := by
    rw [outputs_opening, channelStage_phase]
  have still : z.startTest.advancePhase = z ∧ z.opening.phase = .pending := by
    rw [last, late] at pending
    have advance := advancePhase_of_pending pending
    rw [advance] at pending ⊢
    have start := startTest_of_pending pending
    rw [start] at pending
    exact ⟨start, pending⟩
  obtain ⟨same, pendingZ⟩ := still
  have unstarted : z.startTest = z := by
    refine startTest_of_pending ?_
    have back := advancePhase_of_pending (s := z.startTest) (by rw [same]; exact pendingZ)
    rw [← back, same]
    exact pendingZ
  rw [same] at last
  have opening : t.opening = z.opening := by
    rw [last, outputs_opening, channelStage_opening (by simp [pendingZ])]
  have rest' : z.role = t.role ∧ z.faults = t.faults ∧ z.link = t.link := by
    have frame := channelStage_frame z
    unfold SameButCall at frame
    have lamps : z.channelStage.outputs.role = z.channelStage.role ∧ z.channelStage.outputs.faults = z.channelStage.faults ∧
        z.channelStage.outputs.link = z.channelStage.link := by
      refine ⟨outputs_role _, outputs_faults _, ?_⟩
      show z.channelStage.aspectStage.lampStage.link = _
      rw [lampStage_frame]
      rfl
    rw [last, lamps.1, lamps.2.1, lamps.2.2, frame]
    exact ⟨rfl, rfl, rfl⟩
  obtain ⟨role, faults, link⟩ := rest'
  have mayZ : z.MayAdvance := may.congr role (congrArg Opening.suspended opening).symm faults link
  have idle : z.opening.settle.isRunning = false := isRunning_false fun ms h => rest ms (opening ▸ h)
  rw [opening]
  have never (w : State) (h : z.startTest = w.enterPhase .closingRoad) : False := by
    have phase := congrArg (fun u : State => u.opening.phase) (unstarted.symm.trans h)
    simp only [enterPhase_phase, pendingZ] at phase
    cases phase
  have running : z.opening.interval ≠ .elapsed := fun h => never z (startTest_elapsed mayZ pendingZ idle h)
  refine ⟨running, fun ⟨⟨r, ⟨n, hn, found⟩, urgent⟩, credit⟩ => ?_⟩
  have keys : t.book.records.map Rec.key = z.book.records.map Rec.key := by
    have kept : t.kept = z.kept := by rw [last, outputs_kept, channelStage_kept]
    exact congrArg Kept.keys kept
  have key := findRec_of_keys keys n
  rw [found, Option.map_some, eq_comm, Option.map_eq_some_iff] at key
  obtain ⟨q, foundQ, same'⟩ := key
  have priority : q.key.priority = r.key.priority := congrArg Rec.priority same'
  refine never _ (startTest_credit mayZ pendingZ idle running ⟨q, ⟨n, ?_, foundQ⟩, priority.trans urgent⟩ credit)
  rw [← opening]
  exact hn

end State

theorem exec_settleIntervalExpiry (s : State) : exec .settleIntervalExpiry s =
    .next (s.wake.modOpening fun o => { o with settle := .stopped }).settle := rfl

theorem exec_roadIntervalExpiry (s : State) : exec .roadIntervalExpiry s =
    .next (if s.wake.opening.interval == .running then s.wake.intervalElapses else s.wake).settle := rfl

/-- Settles O50: the checks of OPEN and the group it takes, the start test that no event leaves passed, and the two starts. -/
theorem openStarts : Obligations.OpenStarts := by
  refine ⟨?_, ?_⟩
  · intro s numbered lead earlier w o ready c
    have lead' : w.role ≠ .follow := fun h => lead (s.asked_role.symm.trans h)
    have numbered' : w.BookNumbered := State.asked_bookNumbered numbered
    have counter : w.book.counter = s.book.counter := by
      rw [← State.kept_counter, s.asked_kept]
      rfl
    have ready_iff : w.motion.state = .seatedLocked ∧ w.freshOrSole = true ↔ ready := by
      rw [State.freshOrSole_lead lead', s.asked_role, s.asked_paired]
    refine ⟨fun busy => ?_, fun idle halted => ?_, fun idle run cond => ?_, fun idle run cond =>
      ⟨fun off => ?_, fun is none_ => ?_, fun is some_ room => ?_⟩⟩
    · exact exec_openSpan_refused (State.judgeOpen_phase lead' busy)
    · exact exec_openSpan_refused (State.judgeOpen_halted lead' idle halted)
    · exact exec_openSpan_refused (State.judgeOpen_unconfigured lead' idle run cond)
    · exact exec_openSpan_refused (State.judgeOpen_unready lead' idle run cond (mt ready_iff.mp off))
    · refine exec_openSpan_refused (State.judgeOpen_none lead' idle run cond (ready_iff.mpr is) ?_)
      refine State.taken_eq_nil numbered' earlier fun room ⟨r, may⟩ => ?_
      exact none_.elim (fun none_ => none_ r may) (Nat.not_le.mpr room)
    · have takes := State.taken_taken numbered' earlier room some_
      have judged := State.judgeOpen_ok lead' idle run cond (ready_iff.mpr is) takes.1
      obtain ⟨target, is, effect⟩ := State.startOpening_effect lead' idle (w.taken none)
      have run := exec_openSpan_accepted judged
      generalize w.startOpening (w.taken none) = u at effect run is
      generalize w.taken none = ns at effect run takes
      have records := congrArg (fun t : State => t.book.records) effect
      have count := congrArg (fun t : State => t.book.counter) effect
      have opening := congrArg State.opening effect
      refine ⟨u, ns, target, run, takes, ?_, records, count.trans counter, opening, is⟩
      rw [effect]
  · intro urgent open_ started
    refine ⟨?_, ?_⟩
    · intro u t pending may rest
      exact State.settle_startTest u pending may rest
    intro s settled may pending some_ o
    have awake : s.wake = s := State.wake_of_not_justReset s settled.1
    have stopped : ∀ ms, Timer.stopped ≠ .running ms := fun _ h => by cases h
    refine ⟨fun ms _ => ⟨fun elapsed => ?_, fun running isUrgent credit => ?_⟩, fun rest running => ?_⟩
    · have run : exec .settleIntervalExpiry s = .next ({ s with opening := { o with settle := .stopped } } : State).settle := by
        rw [exec_settleIntervalExpiry, awake]
        rfl
      obtain ⟨⟨_, written⟩, closes⟩ := State.settle_starts (o := { o with settle := .stopped }) settled may pending rfl stopped
        some_ id (fun _ => rfl) fun w may rest _ opening => by
          have pending' : w.opening.phase = .pending := (congrArg Opening.phase opening).trans pending
          exact State.startTest_elapsed may pending' rest ((congrArg Opening.interval opening).trans elapsed)
      simp only [State.plan, id, Prod.mk.injEq] at written
      obtain ⟨phase, -, credits, used, interval, -⟩ := written
      exact ⟨_, run, ⟨phase, closes⟩, credits, used, interval.trans elapsed⟩
    · have run : exec .settleIntervalExpiry s = .next ({ s with opening := { o with settle := .stopped } } : State).settle := by
        rw [exec_settleIntervalExpiry, awake]
        rfl
      obtain ⟨⟨_, written⟩, closes⟩ := State.settle_starts (o := { o with settle := .stopped }) settled may pending rfl stopped
        some_ (fun o => { o with credits := o.credits - 1, creditUsed := true, interval := .cut, intervalTimer := .stopped })
        (fun _ => rfl) fun w may rest book opening => by
          have pending' : w.opening.phase = .pending := (congrArg Opening.phase opening).trans pending
          have group := congrArg Opening.group opening
          refine State.startTest_credit may pending' rest (fun h => running ((congrArg Opening.interval opening).symm.trans h)) ?_ ?_
          · obtain ⟨r, ⟨n, hn, found⟩, is⟩ := isUrgent
            refine ⟨r, ⟨n, group.symm ▸ hn, ?_⟩, is⟩
            rw [State.findRec, book]
            exact found
          · rw [congrArg Opening.credits opening]
            exact credit
      simp only [State.plan, Prod.mk.injEq] at written
      obtain ⟨phase, -, credits, used, interval, timer⟩ := written
      refine ⟨_, run, ⟨phase, closes⟩, ?_, used, interval, timer⟩
      rw [credits]
      exact Nat.sub_add_cancel credit
    · have run : exec .roadIntervalExpiry s = .next ({ s with opening := s.intervalElapses.opening } : State).settle := by
        rw [exec_roadIntervalExpiry, awake, if_pos (beq_iff_eq.mpr running)]
        rfl
      obtain ⟨⟨_, written⟩, closes⟩ := State.settle_starts (o := s.intervalElapses.opening) settled may pending rfl rest
        some_ id (fun _ => rfl) fun w may rest _ opening => by
          have pending' : w.opening.phase = .pending := (congrArg Opening.phase opening).trans pending
          exact State.startTest_elapsed may pending' rest (congrArg Opening.interval opening)
      simp only [State.plan, id, Prod.mk.injEq] at written
      obtain ⟨phase, -, credits, used, interval, -⟩ := written
      exact ⟨_, run, ⟨phase, closes⟩, credits, used, interval⟩

end Sys2Proof.Machine
end

section
/-!
SUPPORT. The advances of the phases (R135 to R137): the condition on which a phase is left, and what a settled round leaves of the
opening before its sequencer's part.
-/

namespace Sys2Proof.Machine

open Sys2Proof

/-- The phase that follows one (R136). -/
def phaseAfter : Phase → Option Phase
  | .closingRoad => some .unlocking
  | .unlocking => some .raising
  | .raising => some .heldOpen
  | .heldOpen => some .lowering
  | .lowering => some .locking
  | .locking => some .reopeningRoad
  | .reopeningRoad => some .idle
  | .idle | .pending => none

theorem phaseAfter_ne (p : Phase) : phaseAfter p ≠ some p := by cases p <;> simp [phaseAfter]

/-- An approach that is not open reopens, from a closure given up or complete (R102, R103). -/
theorem Approach.reopens (x : RoadCtx) {a : Approach} (h : a.closure ≠ .openRoad) :
    ((a.closureAbort x).reopeningStart x).closure = .reopening := by
  cases c : a.closure <;> simp_all [Approach.closureAbort, Approach.reopeningStart, Approach.enter]

namespace State

/-! ### The condition of the present phase (R136) -/

theorem followDone_iff {s : State} (may : s.MayAdvance) (f : PartnerView → Bool) :
    s.followDone f = true ↔ (s.role = .lead → ∃ v, s.link.view = some v ∧ f v = true) := by
  obtain ⟨lead, -, -, fresh⟩ := may
  cases role : s.role with
  | follow => exact absurd role lead
  | sole => simp [followDone, twin, role]
  | lead => simp [followDone, freshView, twin, role, fresh role, Option.any_eq_true]

theorem anyRec_false_iff (s : State) (st : RecState) : s.anyRec st = false ↔ ∀ r ∈ s.book.records, r.state ≠ st := by
  simp [anyRec]

/-- The next phase is given exactly where the condition of the present one holds (R136). -/
theorem nextPhase_eq_some_iff {s : State} (may : s.MayAdvance) (p : Phase) :
    s.nextPhase = some p ↔ s.PhaseDone ∧ phaseAfter s.opening.phase = some p := by
  unfold nextPhase PhaseDone
  have lead := may.1
  cases phase : s.opening.phase <;>
    simp [phaseAfter, followDone_iff may, allUsedAps_iff, ownedLocksAre_iff, isSeated, anyRec_false_iff, lead, and_assoc]
  case lowering => exact fun _ _ => or_comm

theorem nextPhase_none {s : State} (may : s.MayAdvance) (still : ¬s.PhaseDone) : s.nextPhase = none :=
  Option.eq_none_iff_forall_ne_some.mpr fun p h => still ((nextPhase_eq_some_iff may p).mp h).1

theorem after_of_done {s : State} (done : s.PhaseDone) : ∃ p, phaseAfter s.opening.phase = some p := by
  unfold PhaseDone at done
  split at done
  case h_8 | h_9 => exact done.elim
  all_goals simp [*, phaseAfter]

/-! ### The advance (R135, R136) -/

theorem advancePhase_off {s : State} (off : ¬(s.MayAdvance ∧ s.PhaseDone)) : s.advancePhase = s := by
  by_cases may : s.MayAdvance
  · exact advancePhase_none (nextPhase_none may fun done => off ⟨may, done⟩)
  · unfold advancePhase
    refine if_neg fun h => may ?_
    obtain ⟨lead, allowed⟩ := Bool.and_eq_true_iff.mp h
    exact (advanceAllowed_iff (by simpa using lead)).mp allowed

theorem advancePhase_on {s : State} (may : s.MayAdvance) (done : s.PhaseDone) {p : Phase} (after : phaseAfter s.opening.phase = some p) :
    s.advancePhase = if p = .idle then s.toIdle else s.enterPhase p := by
  have lead := may.1
  have next := (nextPhase_eq_some_iff may p).mpr ⟨done, after⟩
  unfold advancePhase
  rw [if_pos (by simp [lead, (advanceAllowed_iff lead).mpr may]), next]
  cases p <;> rfl

/-- An advance leaves its phase (R136). -/
theorem advancePhase_moves {s : State} (may : s.MayAdvance) (done : s.PhaseDone) : s.advancePhase.opening.phase ≠ s.opening.phase := by
  obtain ⟨p, after⟩ := after_of_done done
  have phase : s.advancePhase.opening.phase = p := by
    rw [advancePhase_on may done after]
    split
    next idle => rw [toIdle_phase, idle]
    next => rw [enterPhase_phase]
  rw [phase]
  exact fun same => phaseAfter_ne s.opening.phase (same ▸ after)

theorem setPhase_off {s : State} (h : s.opening.phase ≠ .heldOpen) (p : Phase) :
    s.setPhase p = s.modOpening fun o => { o with phase := p, command := none } := by
  unfold setPhase
  exact if_neg (by simp [h])

theorem setPhase_held {s : State} (lead : s.role ≠ .follow) (h : s.opening.phase = .heldOpen) {p : Phase} (other : p ≠ .heldOpen) :
    s.setPhase p = (s.modOpening fun o => { o with phase := p, command := none }).modCall fun c => { c with serving := none } := by
  unfold setPhase
  exact if_pos (by simp [h, lead, other])

/-! ### A settled round before the start test -/

/-- A failed permit writes of the opening record its outstanding command alone (R61, R135). -/
theorem permitStage_command (s : State) : s.permitStage.opening = { s.opening with command := s.permitStage.opening.command } := by
  unfold permitStage
  repeat' split
  all_goals rfl

/-- Before its start test a round of a part that has nothing to report, and whose opening is not suspended, writes of the opening
record the outstanding command alone, and leaves the book, the link and the fault unit as they are. -/
theorem beforeStart_going {s : State} (reported : s.reportAll = s) (going : s.opening.suspended = false) :
    s.beforeRoad.roadStage.role = s.role ∧ s.beforeRoad.roadStage.settings = s.settings ∧
      s.beforeRoad.roadStage.book = s.book ∧ s.beforeRoad.roadStage.faults = s.faults ∧
      s.beforeRoad.roadStage.link = s.link ∧
      s.beforeRoad.roadStage.opening = { s.opening with command := s.beforeRoad.roadStage.opening.command } := by
  have moved : s.permitStage.angleStage.opening = { s.opening with command := s.permitStage.opening.command } := by
    rw [angleStage_opening]
    exact permitStage_command s
  have before : s.beforeRoad = s.permitStage.angleStage.tryCommand.seatLockStage.toeStage := by
    unfold beforeRoad
    rw [reported, endSuspension_going (by rw [moved]; exact going)]
  have opening : s.beforeRoad.opening = { s.opening with command := s.beforeRoad.opening.command } := by
    rw [before, toeStage_frame, seatLockStage_frame]
    refine (tryCommand_opening s.permitStage.angleStage).trans ?_
    rw [moved]
  have first : s.permitStage.angleStage.role = s.role ∧ s.permitStage.angleStage.settings = s.settings ∧
      s.permitStage.angleStage.book = s.book ∧ s.permitStage.angleStage.faults = s.faults ∧
      s.permitStage.angleStage.link = s.link := by
    rw [angleStage_frame, permitStage_frame]
    exact ⟨rfl, rfl, rfl, rfl, rfl⟩
  obtain ⟨role, settings, book, faults, link⟩ := s.permitStage.angleStage.tryCommand_rest
  obtain ⟨role', settings', book', faults', link'⟩ := first
  rw [roadStage_frame]
  refine ⟨?_, ?_, ?_, ?_, ?_, opening⟩ <;> rw [before, toeStage_frame, seatLockStage_frame]
  exacts [role.trans role', settings.trans settings', book.trans book', faults.trans faults', link.trans link']

end State

end Sys2Proof.Machine
end

section
/-!
SUPPORT. The advances phase by phase (R135 to R137), and none left to a settled state.
-/

namespace Sys2Proof.Machine.State

open Sys2Proof

/-! ### A settled state has no phase left to advance (R136) -/

/-- The condition of the present phase lies in the opening record, the leaf, the locks, the link, the closures and the book. -/
theorem PhaseDone.congr {s t : State} (done : s.PhaseDone) (role : t.role = s.role) (link : t.link = s.link)
    (opening : ∃ c, t.opening = { s.opening with command := c }) (book : t.book = s.book) (motion : t.motion.state = s.motion.state)
    (locks : t.locks = s.locks) (closure : ∀ x, (t.ap x).closure = (s.ap x).closure) : t.PhaseDone := by
  obtain ⟨c, opening⟩ := opening
  unfold PhaseDone at *
  simp only [role, link, book, motion, locks, closure, usesAp_congr role, opening]
  exact done

/-- What ends a round writes neither the leaf's state nor the locks nor a closure. -/
theorem lateStages_closures (s : State) : s.channelStage.outputs.motion.state = s.motion.state ∧
    s.channelStage.outputs.locks = s.locks ∧ ∀ x, (s.channelStage.outputs.ap x).closure = (s.ap x).closure := by
  have frame := channelStage_frame s
  unfold SameButCall at frame
  refine ⟨?_, ?_, fun x => ?_⟩
  · rw [outputs_motion_state, frame]
  · rw [outputs_locks, frame]
  · rw [outputs_ap, channelStage_ap]

theorem settled_still {s : State} (settled : s.Settled) (may : s.MayAdvance) : ¬s.PhaseDone := by
  intro done
  have reported : s.reportAll = s := reportAll_settled settled s.opening
  obtain ⟨role, -, book, faults, link, opening⟩ := beforeStart_going reported may.2.1
  have last : s = s.beforeRoad.roadStage.startTest.advancePhase.channelStage.outputs := settled.2.symm.trans (round_eq s)
  generalize s.beforeRoad.roadStage = z at *
  have phase : z.opening.phase = s.opening.phase := by rw [opening]
  have started : z.startTest = z := startTest_off fun pending => by
    obtain ⟨p, after⟩ := after_of_done done
    rw [← phase, pending] at after
    cases after
  rw [started] at last
  have may' : z.MayAdvance := may.congr role (by rw [opening]) faults link
  have still : z.advancePhase.opening.phase = z.opening.phase := by
    refine (Eq.trans ?_ (congrArg (fun t : State => t.opening.phase) last).symm).trans phase.symm
    exact ((congrArg Opening.phase (outputs_opening _)).trans (channelStage_phase _)).symm
  have unmoved : ¬z.PhaseDone := fun d => advancePhase_moves may' d still
  rw [advancePhase_off fun h => unmoved h.2] at last
  obtain ⟨motion, locks, closure⟩ := lateStages_closures z
  rw [← last] at motion locks closure
  exact unmoved (done.congr role link ⟨_, opening⟩ book motion.symm locks.symm fun x => (closure x).symm)

/-! ### The advance from each phase (R135 to R137) -/

section Advance

variable {s : State} (may : s.MayAdvance) (done : s.PhaseDone)
include may done

/-- From a phase other than HELD_OPEN the step of the next one is given, the former command being dropped (R135). -/
theorem advance_gives {p q : Phase} (h : s.opening.phase = p) (after : phaseAfter p = some q) (held : p ≠ .heldOpen)
    (last : q ≠ .idle) :
    s.advancePhase = (s.modOpening fun o => { o with phase := q, command := none }).giveStep := by
  rw [advancePhase_on may done ((congrArg phaseAfter h).trans after), if_neg last, enterPhase, setPhase_off (h ▸ held)]

theorem advance_unlocking (h : s.opening.phase = .closingRoad) :
    s.advancePhase = { s with opening := { s.opening with phase := .unlocking, command := some .withdraw } } := by
  rw [advance_gives may done h rfl (by simp) (by simp)]
  rfl

theorem advance_raising (h : s.opening.phase = .unlocking) :
    s.advancePhase = { s with opening := { s.opening with phase := .raising, command := some .raise, frozen := true } } := by
  have lead : ¬(s.role == .follow) = true := by simpa using may.1
  rw [advance_gives may done h rfl (by simp) (by simp)]
  exact congrArg (fun t : State => t.order .raise) (if_neg lead)

theorem advance_heldOpen (h : s.opening.phase = .raising) : s.advancePhase = { s with
    signals := { s.signals with call := { s.signals.call with serving := s.opening.runDir } },
    opening := { s.opening with
      phase := .heldOpen, command := none,
      linger := if s.opening.group ≠ [] then s.opening.linger
                else if s.items.channel.linger = 0 then .expired
                else .running (s.items.channel.linger * 1000).toNat } } := by
  have lead : ¬(s.role == .follow) = true := by simpa using may.1
  rw [advance_gives may done h rfl (by simp) (by simp)]
  refine (if_neg lead).trans ?_
  by_cases empty : s.opening.group = []
  · rw [if_neg (not_not.mpr empty)]
    exact if_pos (List.isEmpty_iff.mpr empty)
  · rw [if_pos empty]
    exact if_neg (mt List.isEmpty_iff.mp empty)

theorem advance_lowering (h : s.opening.phase = .heldOpen) : s.advancePhase = { s with
    signals := { s.signals with call := { s.signals.call with serving := none } },
    opening := { s.opening with phase := .lowering, command := some .lower, linger := .stopped } } := by
  have lead : ¬(s.role == .follow) = true := by simpa using may.1
  rw [advancePhase_on may done (congrArg phaseAfter h), if_neg (by simp), enterPhase, setPhase_held may.1 h (by simp)]
  exact congrArg (fun t : State => t.order .lower) (if_neg lead)

theorem advance_locking (h : s.opening.phase = .lowering) :
    s.advancePhase = { s with opening := { s.opening with phase := .locking, command := some .drive } } := by
  rw [advance_gives may done h rfl (by simp) (by simp)]
  rfl

theorem advance_reopeningRoad (h : s.opening.phase = .locking) :
    s.advancePhase = { s with opening := { s.opening with phase := .reopeningRoad, command := none },
                              apA := s.advancePhase.apA, apB := s.advancePhase.apB } ∧
    ∀ x, (s.usesAp x = false → s.advancePhase.ap x = s.ap x) ∧
      (s.usesAp x = true → (s.ap x).closure ≠ .openRoad → (s.advancePhase.ap x).closure = .reopening) := by
  let v : State := { s with opening := { s.opening with phase := .reopeningRoad, command := none } }
  have off : ¬(v.role == .follow && !v.link.paired) = true := by simp [v, may.1]
  have advanced : s.advancePhase = v.onUsedAps fun x a => (a.closureAbort x).reopeningStart x := by
    rw [advance_gives may done h rfl (by simp) (by simp)]
    exact if_neg off
  rw [advanced]
  refine ⟨by rw [onUsedAps_frame], fun x => ?_⟩
  have uses : v.usesAp x = s.usesAp x := usesAp_congr rfl x
  have ap : v.ap x = s.ap x := by cases x <;> rfl
  rw [onUsedAps_ap, uses, ap]
  refine ⟨fun unused => if_neg (by simp [unused]), fun used closed => ?_⟩
  rw [if_pos used]
  exact Approach.reopens _ closed

theorem advance_idle (h : s.opening.phase = .reopeningRoad) : s.advancePhase = { s with opening := { s.opening with
    phase := .idle, command := none, target := none, runDir := none, resumePoint := none, frozen := false,
    suspended := false, closeRequested := false, linger := .stopped,
    interval := if s.items.road.roadMin = 0 then .elapsed else .running,
    intervalTimer := if s.items.road.roadMin = 0 then .stopped else .running (s.items.road.roadMin * 1000).toNat,
    credits := if s.items.road.roadMin = 0 ∧ (s.opening.credits : Int) < s.items.road.roadCredits then s.opening.credits + 1
               else s.opening.credits } } := by
  rw [advancePhase_on may done (congrArg phaseAfter h), if_pos rfl, toIdle, setPhase_off (by simp [h])]
  by_cases now : s.items.road.roadMin = 0
  · simp only [now, true_and, if_true]
    exact if_pos now
  · simp only [now, false_and, if_false]
    exact if_neg now

end Advance

end Sys2Proof.Machine.State
end

section
/-!
PROOFS. The advances of the opening cycle and the requests and expiries of its sequencer (O51).
-/

namespace Sys2Proof.Machine

open Sys2Proof

namespace State

/-! ### The returns (R17): the changed flag, and the road interval -/

/-- Each record after a return is the one before it, or has its changed flag set (R14, R17). -/
theorem findRec_returnToBooked_changed (s : State) (m n : Nat) {r : Rec} (found : (s.returnToBooked m).findRec n = some r) :
    s.findRec n = some r ∨ r.changed = true := by
  have set (t : State) (k : Nat) (st : RecState) {q : Rec} (h : (t.setRecState k st).findRec n = some q) :
      t.findRec n = some q ∨ q.changed = true := by
    rw [findRec_setRecState, Option.map_eq_some_iff] at h
    obtain ⟨p, found, rfl⟩ := h
    split
    exacts [.inr rfl, .inl found]
  unfold returnToBooked at found
  split at found
  · split at found
    · rw [findRec_congr (leaveGroup_book _ _)] at found
      exact set _ _ _ found
    · rw [findRec_congr (leaveGroup_book _ _)] at found
      rcases set _ _ _ found with h | h
      · rw [findRec_revoke] at h
        exact set _ _ _ h
      · exact .inr h
    · exact .inl found
  · exact .inl found

theorem findRec_returnAll_changed (s : State) : ∀ n r, s.returnAll.findRec n = some r → s.findRec n = some r ∨ r.changed = true :=
  foldl_frame returnToBooked (fun s t => ∀ n r, t.findRec n = some r → s.findRec n = some r ∨ r.changed = true)
    (fun _ _ _ => .inl) (fun _ _ _ h h' n r found => (h' n r found).elim (h n r) .inr)
    (fun s m n _ found => findRec_returnToBooked_changed s m n found) _ s

/-- The return of every GROUPED and CALLED record of the list, from one state to another (R17). -/
def Returned (s u : State) : Prop :=
  ∀ n ∈ s.opening.group, ∀ r, s.findRec n = some r → r.state = .grouped ∨ r.state = .called →
    n ∉ u.opening.group ∧ ∃ r', u.findRec n = some r' ∧ r'.state = .booked ∧ r'.changed = true

theorem returnAll_returned {s u : State} (group : u.opening.group = s.returnAll.opening.group) (book : u.book = s.returnAll.book) :
    s.Returned u := by
  intro n on r found waits
  obtain ⟨r', found', booked, off⟩ := returnAll_booked on ⟨r, found, waits⟩
  refine ⟨group ▸ off, r', (findRec_congr book n).trans found', booked, ?_⟩
  rcases s.findRec_returnAll_changed n r' found' with same | changed
  · rw [found, Option.some.injEq] at same
    rw [same, booked] at waits
    simp at waits
  · exact changed

/-- What the road interval leaves of an opening record to the returns (R134). -/
def funds (o : Opening) : Nat × IntervalState × Bool := (o.credits, o.interval, o.creditUsed)

theorem returnAll_funds (s : State) : funds s.returnAll.opening = funds s.opening := by
  have left (t : State) (n : Nat) : funds (t.leaveGroup n).opening = funds t.opening := by
    by_cases on : n ∈ t.opening.group
    · rw [leaveGroup_opening on rfl]
      split <;> rfl
    · unfold leaveGroup
      rw [if_neg (by simpa using on)]
  refine foldl_frame returnToBooked (fun s t => funds t.opening = funds s.opening) (fun _ => rfl)
    (fun _ _ _ h h' => h'.trans h) (fun s n => ?_) _ s
  rcases returnToBooked_opening s n with same | ⟨t, same, effect⟩
  · rw [same]
  · rw [effect, left, same]

/-! ### ABORT_OPENING (R143) -/

/-- An accepted ABORT_OPENING: the list returned, PENDING ended or the road reopened, the road interval as it was. -/
theorem abortOpening_effect {s : State} (lead : s.role ≠ .follow) (early : s.opening.phase = .pending ∨ s.opening.phase = .closingRoad) :
    s.abortOpening.kept = s.kept ∧ s.abortOpening.book = s.returnAll.book ∧
      s.abortOpening.opening.group = s.returnAll.opening.group ∧
      s.abortOpening.opening.phase = (if s.opening.phase = .pending then .idle else .reopeningRoad) ∧
      s.abortOpening.opening.target = none ∧ s.abortOpening.opening.suspended = false ∧
      s.abortOpening.opening.resumePoint = none ∧ funds s.abortOpening.opening = funds s.opening := by
  have funds := s.returnAll_funds
  have kept := s.returnAll_kept
  by_cases pending : s.opening.phase = .pending
  · have ends : s.abortOpening = s.returnAll.endPending := if_pos (beq_iff_eq.mpr pending)
    rw [ends, if_pos pending]
    exact ⟨(modOpening_kept _ _ rfl rfl).trans kept, rfl, rfl, rfl, rfl, rfl, rfl, funds⟩
  · have closing := early.resolve_left pending
    have phase : s.returnAll.opening.phase = .closingRoad := (s.returnAll_phaseStays.2 pending).1.trans closing
    have role : s.returnAll.role = s.role := congrArg Kept.role kept
    let v : State := s.returnAll.clearSuspension.modOpening fun o => { o with target := none }
    let w : State := v.modOpening fun o => { o with phase := .reopeningRoad, command := none }
    have kept : w.kept = s.kept :=
      (modOpening_kept _ _ rfl rfl).trans ((modOpening_kept _ _ rfl rfl).trans ((clearSuspension_kept _).trans kept))
    have off : ¬(w.role == .follow && !w.link.paired) = true := by simp [w, v, clearSuspension, role, lead]
    have aborted : s.abortOpening = w.roadStep := by
      have entered : v.enterPhase .reopeningRoad = w.giveStep :=
        congrArg giveStep (setPhase_off (s := v) (fun held => by cases phase.symm.trans held) _)
      exact (if_neg (by simpa using pending)).trans (entered.trans (if_neg off))
    rw [aborted, if_neg pending, roadStep_opening, roadStep_kept]
    refine ⟨kept, ?_, rfl, rfl, rfl, rfl, rfl, funds⟩
    rw [roadStep_frame]
    rfl

/-! ### CONTINUE (R146) -/

/-- The resume points that CONTINUE goes on from. -/
def GoesOn (o : Opening) : Prop := o.resumePoint = some .raising ∨ o.resumePoint = some .heldOpen ∨ o.resumePoint = some .lowering

theorem goesOn_iff (o : Opening) : (o.resumePoint.any fun p => (continueCommand p).isSome) = true ↔ GoesOn o := by
  unfold GoesOn
  cases o.resumePoint with
  | none => simp
  | some p => cases p <;> simp [continueCommand]

theorem goes_command {o : Opening} {p : Phase} (point : o.resumePoint = some p) (goes : GoesOn o) : (continueCommand p).isSome = true := by
  have any := (goesOn_iff o).mpr goes
  rwa [point] at any

/-- The source and the partner are fit for a motion to go on (R146). -/
def FitToContinue (s : State) : Prop :=
  s.pos.source = .p ∧ s.motion.creep = false ∧ (s.role ≠ .sole → s.link.paired = true)

theorem fitToContinue_iff (s : State) :
    (s.pos.source == .c || s.motion.creep || !s.freshOrSole) = false ↔ s.FitToContinue := by
  unfold FitToContinue freshOrSole twin
  cases s.pos.source <;> cases s.motion.creep <;> cases s.role <;> simp

theorem continueRefusal_halted {s : State} (h : s.faults.halted = true) : s.continueRefusal = some .halted := if_pos h

theorem continueRefusal_wrongState {s : State} (run : s.faults.halted = false)
    (off : ¬(s.opening.suspended = true ∧ s.motion.state = .stopped ∧ GoesOn s.opening ∧ s.FitToContinue)) :
    s.continueRefusal = some .wrongState := by
  unfold continueRefusal
  rw [if_neg (by simp [run])]
  split
  · rfl
  next held =>
    refine if_pos ?_
    rw [← Bool.not_eq_false, fitToContinue_iff]
    simp only [Bool.or_eq_true, not_or, Bool.not_eq_true', Bool.not_eq_false, bne_iff_ne, ne_eq, not_not, goesOn_iff] at held
    obtain ⟨⟨suspended, stopped⟩, goes⟩ := held
    exact fun fit => off ⟨suspended, stopped, goes, fit⟩

theorem continueRefusal_fit {s : State} (run : s.faults.halted = false) (suspended : s.opening.suspended = true)
    (stopped : s.motion.state = .stopped) (goes : GoesOn s.opening) (fit : s.FitToContinue) :
    s.continueRefusal = if s.pos.p.ref = .referenced then none else some .notReferenced := by
  unfold continueRefusal
  rw [if_neg (by simp [run]), if_neg (by simp [suspended, stopped, (goesOn_iff _).mpr goes]),
    (fitToContinue_iff s).mpr fit, if_neg (by simp)]
  by_cases ref : s.pos.p.ref = .referenced <;> simp [ref]

/-- In FOLLOW role a step given writes of the opening record its outstanding command alone (R148). -/
theorem giveStep_follow {s : State} (follow : s.role = .follow) :
    s.giveStep.opening = { s.opening with command := s.giveStep.opening.command } := by
  have mirror : (s.role == .follow) = true := by simp [follow]
  unfold giveStep
  split
  case h_1 | h_2 | h_5 | h_9 => rfl
  case h_3 | h_4 =>
    split
    · rfl
    · rw [roadStep_opening]
  case h_6 | h_7 | h_8 => simp only [if_pos mirror, order, modOpening]

/-- An accepted CONTINUE (R146, R149). -/
theorem continueOpening_effect {s : State} (goes : GoesOn s.opening) :
    s.continueOpening.kept = s.kept ∧ s.continueOpening.opening.suspended = false ∧
      s.continueOpening.opening.resumePoint = none ∧ s.continueOpening.book = s.book ∧
      s.continueOpening.motion = s.motion ∧
      (s.role ≠ .follow → s.opening.resumePoint = some s.continueOpening.opening.phase) ∧
      (s.role = .follow → s.continueOpening.opening.phase = s.opening.phase) ∧
      ∀ c, continueCommand s.continueOpening.opening.phase = some c → s.continueOpening.opening.command = some c := by
  let u : State := if s.role == .follow then s.clearSuspension
    else s.clearSuspension.setPhase (s.opening.resumePoint.getD s.opening.phase)
  have back : u.kept = s.kept ∧ u.book = s.book ∧ u.motion = s.motion ∧ u.opening.suspended = false ∧
      u.opening.resumePoint = none := by
    by_cases follow : s.role = .follow
    · have same : u = s.clearSuspension := if_pos (by simp [follow])
      rw [same]
      exact ⟨clearSuspension_kept s, rfl, rfl, rfl, rfl⟩
    · have same : u = s.clearSuspension.setPhase (s.opening.resumePoint.getD s.opening.phase) := if_neg (by simp [follow])
      rw [same, setPhase_kept, clearSuspension_kept, setPhase_opening, setPhase_frame]
      exact ⟨rfl, rfl, rfl, rfl, rfl⟩
  have led : s.role ≠ .follow → s.opening.resumePoint = some u.opening.phase := fun lead => by
    have same : u = s.clearSuspension.setPhase (s.opening.resumePoint.getD s.opening.phase) := if_neg (by simp [lead])
    rw [same, setPhase_opening]
    rcases goes with h | h | h <;> simp [h]
  have mirrored : s.role = .follow → u.opening.phase = s.opening.phase := fun follow => by
    have same : u = s.clearSuspension := if_pos (by simp [follow])
    rw [same]
    rfl
  have goes_on : s.continueOpening = match continueCommand u.opening.phase with
    | some c => u.order c
    | none => u.giveStep := rfl
  obtain ⟨kept, book, motion, suspended, point⟩ := back
  cases given : continueCommand u.opening.phase with
  | some c =>
    have ordered : s.continueOpening = u.order c := goes_on.trans (by rw [given])
    rw [ordered]
    exact ⟨(order_kept u c).trans kept, suspended, point, book, motion, led, mirrored,
      fun d h => Option.some.inj (given.symm.trans h) ▸ rfl⟩
  | none =>
    have follow : s.role = .follow := by
      by_contra lead
      obtain ⟨c, command⟩ := Option.isSome_iff_exists.mp (goes_command (led lead) goes)
      cases given.symm.trans command
    have step : s.continueOpening = u.giveStep := goes_on.trans (by rw [given])
    have mirror : u.role = .follow := (congrArg Kept.role kept).trans follow
    have frame := giveStep_frame u
    unfold SameButStep at frame
    rw [step, giveStep_kept, giveStep_follow mirror, frame]
    exact ⟨kept, suspended, point, book, motion, led, mirrored, fun d h => by cases given.symm.trans h⟩

end State

/-! ### The requests and the expiries -/

theorem exec_continueOpening (s : State) : exec (.continueOpening .operator) s = .next (s.asked.answer
    (match s.asked.continueRefusal with
    | some r => .refuse r
    | none => State.ok s.asked.continueOpening)) := rfl

theorem exec_lingerExpiry (s : State) : exec .lingerExpiry s =
    .next (if s.wake.opening.linger.isRunning then s.wake.modOpening fun o => { o with linger := .expired } else s.wake).settle := rfl

theorem exec_continueOpening_refused {s : State} {r : Result} (h : s.asked.continueRefusal = some r) :
    exec (.continueOpening .operator) s = .next (s.asked.respond r []) := by
  rw [exec_continueOpening, h, State.answer_refuse]

/-- Settles O51: the advances by the phase that is left, and each request by its refusals and by what its block writes. -/
theorem openingRequests : Obligations.OpeningRequests := by
  refine ⟨fun t => State.settled_still, fun s => State.advancePhase_off, ?_, ?_⟩
  · intro s may done o call serving
    refine ⟨State.advance_unlocking may done, State.advance_raising may done, State.advance_heldOpen may done,
      State.advance_lowering may done, State.advance_locking may done, fun h => ?_, State.advance_idle may done⟩
    obtain ⟨advanced, road⟩ := State.advance_reopeningRoad may done h
    exact ⟨s.advancePhase, rfl, advanced, road⟩
  · intro s w o lead quiet returned goesOn fit
    have asked (h : lead) : w.role ≠ .follow := fun follow => h (s.asked_role.symm.trans follow)
    have off (h : lead) : ¬(w.role == .follow) = true := by simp [asked h]
    have kept : w.kept = quiet := s.asked_kept
    have fit_iff : w.FitToContinue ↔ fit := by
      have creep : w.motion.creep = s.motion.creep := congrArg Kept.creep kept
      unfold State.FitToContinue
      rw [s.asked_pos, creep, s.asked_role, s.asked_paired]
    refine ⟨fun h phase => ?_, fun h phase => ?_, fun h halted => ?_, fun h run pending closing => ?_, fun h run phase => ?_,
      fun halted => exec_continueOpening_refused (State.continueRefusal_halted halted), fun run no => ?_,
      fun run suspended stopped goes is => ⟨fun ref => ?_, fun ref => ?_⟩, fun ms running => ?_, fun running => ?_, rfl⟩
    · rw [exec_closeNow, if_neg (off h), if_pos (by simpa using phase), State.answer_refuse]
    · have run := exec_closeNow s
      rw [if_neg (off h), if_neg (by simpa using phase), State.answer_ok] at run
      have held : w.returnAll.opening.phase = .heldOpen :=
        (w.returnAll_phaseStays.2 (phase ▸ by simp)).1.trans phase
      exact ⟨_, run, (State.modOpening_kept _ _ rfl rfl).trans (w.returnAll_kept.trans kept),
        State.returnAll_returned rfl rfl, held, rfl, rfl⟩
    · rw [exec_abortOpening, if_neg (off h), if_pos halted, State.answer_refuse]
    · rw [exec_abortOpening, if_neg (off h), if_neg (by simp [w, run]), if_pos (by simp [w, o, pending, closing]), State.answer_refuse]
    · obtain ⟨same, book, group, phase', target, suspended, point, funds⟩ := State.abortOpening_effect (asked h) phase
      have run' := exec_abortOpening s
      rw [if_neg (off h), if_neg (by simp [w, run]), if_neg (by rcases phase with p | p <;> simp [w, o, p]), State.answer_ok] at run'
      simp only [State.funds, Prod.mk.injEq] at funds
      obtain ⟨credits, interval, used⟩ := funds
      exact ⟨_, run', same.trans kept, State.returnAll_returned group book, phase', target, suspended, point, credits, interval, used⟩
    · refine exec_continueOpening_refused (State.continueRefusal_wrongState run fun ⟨a, b, c, d⟩ => no ⟨a, b, c, fit_iff.mp d⟩)
    · refine exec_continueOpening_refused ?_
      rw [State.continueRefusal_fit run suspended stopped goes (fit_iff.mpr is), s.asked_pos, if_neg ref]
    · have may : w.continueRefusal = none := by
        rw [State.continueRefusal_fit run suspended stopped goes (fit_iff.mpr is), s.asked_pos, if_pos ref]
      have run' := exec_continueOpening s
      rw [may] at run'
      obtain ⟨same, going, point, book, motion, led, mirrored, command⟩ := State.continueOpening_effect (s := w) goes
      exact ⟨_, run', same.trans kept, going, point, book, motion, fun h => led (asked h),
        fun h => mirrored (s.asked_role.trans h), fun h => command _ (h ▸ rfl), fun h => command _ (h ▸ rfl),
        fun h => command _ (h ▸ rfl)⟩
    · rw [exec_lingerExpiry, if_pos (by rw [running]; rfl)]
      rfl
    · rw [exec_roadIntervalExpiry, if_pos (beq_iff_eq.mpr running), ← s.wake_items]
      rfl

end Sys2Proof.Machine
end

section
/-!
SUPPORT. A settled opening held open for a call is at rest: no stage of its round writes anything (R120).
-/

namespace Sys2Proof.Machine

open Sys2Proof

/-! ### A round of the approach controllers writes no lamp (R93) -/

theorem Gate.round_lamp (x : RoadCtx) (c : Closure) (st : Option ReopenStep) (k : GateKind) (g : Gate) :
    (g.round x c st k).lamp = g.lamp := by
  have demand (g : Gate) (d : Demand) : (g.demandTo d).lamp = g.lamp := by
    unfold demandTo
    split
    · rfl
    · split <;> rfl
  have pursue (g : Gate) : (g.pursue x).lamp = g.lamp := by
    rcases g.pursue_cases x with ⟨same, -⟩ | ⟨-, same | ⟨-, same⟩⟩ <;> rw [same] <;> rfl
  have travel (g : Gate) : (g.endTravel x c k).lamp = g.lamp := by
    unfold endTravel
    dsimp only
    repeat' split
    all_goals first | rfl | (rw [maybeFlash_frame])
  have obstruct (g : Gate) : (g.meetObstruct x).lamp = g.lamp := by
    unfold meetObstruct
    repeat' split
    all_goals rfl
  unfold round
  split
  · rfl
  · rw [obstruct, travel, pursue, demand]

theorem Approach.round_lamp (x : RoadCtx) (a : Approach) (i : Fin 6) : ((a.round x).gates.at i).lamp = (a.gates.at i).lamp := by
  rw [round_gate]
  exact Gate.round_lamp ..

theorem Six.ext_at {α : Type} {x y : Six α} (h : ∀ i, x.at i = y.at i) : x = y := by
  obtain ⟨a, b, c, d, e, f⟩ := x
  obtain ⟨a', b', c', d', e', f'⟩ := y
  obtain rfl : a = a' := h 0
  obtain rfl : b = b' := h 1
  obtain rfl : c = c' := h 2
  obtain rfl : d = d' := h 3
  obtain rfl : e = e' := h 4
  obtain rfl : f = f' := h 5
  rfl

namespace State

theorem roadStage_lamp (s : State) (g : GateId) : (s.roadStage.gate g).lamp = (s.gate g).lamp := by
  unfold gate roadStage
  rw [onUsedAps_ap]
  split
  · exact Approach.round_lamp ..
  · rfl

/-! ### A settled state that waits for a call -/

/-- A HOLDING leaf without its permit ends its correction (R61). -/
theorem permitStage_holding {s : State} (h : s.motion.state = .holding) :
    s.permitStage = if s.permitOK then s else s.modMotion fun m => { m with correction := false } := by
  unfold permitStage
  rw [h]

/-- A HOLDING leaf is corrected from 80 cd below its target to 30 cd below it (R64). -/
theorem angleStage_holding {s : State} (h : s.motion.state = .holding) : s.angleStage =
    if s.motion.correction then (if s.nearTarget then s.modMotion fun m => { m with correction := false } else s)
    else if s.permitOK && s.target.any (fun t => decide (s.angle < t - 80)) then
      s.modMotion fun m => { m with correction := true }
    else s := by
  unfold angleStage
  rw [h]

/-- A HOLDING leaf's permit and angle decide its correction alone (R61, R64). -/
theorem leafStages_holding {s : State} (h : s.motion.state = .holding) :
    ∃ b, s.permitStage.angleStage = { s with motion := { s.motion with correction := b } } := by
  have permit : ∃ b, s.permitStage = { s with motion := { s.motion with correction := b } } := by
    rw [permitStage_holding h]
    split
    exacts [⟨_, rfl⟩, ⟨false, rfl⟩]
  obtain ⟨b, permit⟩ := permit
  rw [angleStage_holding (s := s.permitStage) (by rw [permit]; exact h), permit]
  repeat' split
  exacts [⟨false, rfl⟩, ⟨b, rfl⟩, ⟨true, rfl⟩, ⟨b, rfl⟩]

/-- The outstanding command is taken (R135, R148). -/
def takesCommand (s : State) : Bool :=
  s.opening.command.any fun c => !(s.opening.suspended || (s.role == .follow && !s.link.paired)) && (s.giveCommand c).isSome

theorem tryCommand_refused {s : State} (h : s.takesCommand = false) : s.tryCommand = s := by
  unfold takesCommand at h
  unfold tryCommand
  cases command : s.opening.command with
  | none => rfl
  | some c =>
    rw [command, Option.any_some, Bool.and_eq_false_iff, Bool.not_eq_false'] at h
    dsimp only
    split
    · rfl
    next going =>
      cases given : s.giveCommand c with
      | none => rfl
      | some t => simp [going, given] at h

theorem tryCommand_taken {s : State} (h : s.takesCommand = true) : s.opening.command ≠ none ∧ s.tryCommand.opening.command = none := by
  unfold takesCommand at h
  unfold tryCommand
  cases command : s.opening.command with
  | none => simp [command] at h
  | some c =>
    refine ⟨by simp, ?_⟩
    rw [command, Option.any_some, Bool.and_eq_true, Bool.not_eq_true'] at h
    obtain ⟨going, given⟩ := h
    obtain ⟨t, given⟩ := Option.isSome_iff_exists.mp given
    dsimp only
    rw [if_neg (by simp [going]), given]
    rfl

/-- The channel writes of the opening record the run direction alone (R120). -/
theorem channelStage_course (s : State) :
    s.channelStage.opening = { s.opening with runDir := s.channelStage.opening.runDir } := by
  have drift : s.driftStage.opening = s.opening := by rw [driftStage_frame]
  have ready (t : State) (d : Dir) (n : Nat) : (t.callIfReady d n).opening = t.opening := by
    unfold callIfReady
    split <;> rfl
  unfold channelStage
  split
  · rfl
  · rw [← drift]
    generalize s.driftStage = t
    unfold callStage
    dsimp only
    repeat' split
    · rw [ready]
    · rw [ready]
      rfl
    all_goals rfl

theorem lateStages_correction (s : State) : s.channelStage.outputs.motion.correction = s.motion.correction := by
  have frame := channelStage_frame s
  unfold SameButCall at frame
  have lamps (t : State) : t.outputs.motion.correction = t.motion.correction := by
    show t.aspectStage.lampStage.motion.correction = _
    rw [lampStage_frame]
    rfl
  rw [lamps, frame]

/-- A round writes of a gate at the road and at the outputs; where it leaves every gate as it was the approaches are as they were. -/
theorem roadStage_still {s : State} {t : State} (aps : ∀ x, t.ap x = s.roadStage.ap x) (round : t.outputs.apA = s.apA ∧ t.outputs.apB = s.apB) :
    s.roadStage = s := by
  have back (x : Ap) : t.outputs.ap x = s.ap x := by
    cases x
    exacts [round.1, round.2]
  have same (x : Ap) : s.roadStage.ap x = s.ap x := by
    have gates : (s.roadStage.ap x).gates = (s.ap x).gates := Six.ext_at fun i => by
      have lamp := roadStage_lamp s ⟨x, i⟩
      have gate := outputs_gate t ⟨x, i⟩
      unfold State.gate at lamp gate
      rw [back, aps] at gate
      rw [gate] at lamp ⊢
      rw [← lamp]
    have rest := outputs_ap t x
    rw [back, aps] at rest
    rw [rest, ← gates]
  rw [roadStage_frame]
  have a : s.roadStage.apA = s.apA := same .a
  have b : s.roadStage.apB = s.apB := same .b
  rw [a, b]

section Held

variable {s : State} (settled : s.Settled) (due : s.CallIsDue)
include settled due

/-- No later part of the sequencer has anything to do in a state that shares what it looks at. -/
theorem held_sequencer {t : State} (role : t.role = s.role) (opening : ∃ c, t.opening = { s.opening with command := c })
    (faults : t.faults = s.faults) (link : t.link = s.link) :
    t.startTest.advancePhase = t := by
  obtain ⟨c, opening⟩ := opening
  obtain ⟨-, held, -, -, -, -, calls⟩ := due
  have held' : t.opening.phase = .heldOpen := by rw [opening]; exact held
  rw [startTest_off (by simp [held'])]
  refine advancePhase_off fun ⟨may, done⟩ => settled_still settled (may.congr role.symm (by rw [opening]) faults.symm link.symm) ?_
  unfold PhaseDone at done ⊢
  rw [held] 
  rw [held', opening] at done
  exact done.imp_right fun ⟨requested, _⟩ => ⟨requested, fun r hr => (calls r hr).2⟩

theorem held_still : s.reportAll = s ∧ s.permitStage.angleStage = s ∧ s.takesCommand = false ∧ s.toeStage = s ∧ s.roadStage = s ∧
    s.channelStage.outputs = s := by
  have reported : s.reportAll = s := reportAll_settled settled s.opening
  obtain ⟨role, -, book, faults, link, opening⟩ := beforeStart_going reported due.2.2.1
  obtain ⟨b, leaf⟩ := leafStages_holding due.2.2.2.2.1
  have last : s = s.beforeRoad.roadStage.channelStage.outputs := by
    refine settled.2.symm.trans ((round_eq s).trans ?_)
    rw [held_sequencer settled due role ⟨_, opening⟩ faults link]
  have waits : s.permitStage.angleStage.opening = s.opening := by rw [leaf]
  have before : s.beforeRoad = s.permitStage.angleStage.tryCommand.seatLockStage.toeStage := by
    unfold beforeRoad
    rw [reported, endSuspension_going (by rw [waits]; exact due.2.2.1)]
  have untaken : s.permitStage.angleStage.takesCommand = false := by
    rw [← Bool.not_eq_true]
    intro takes
    obtain ⟨some_, taken⟩ := tryCommand_taken takes
    refine some_ ?_
    rw [waits]
    have command := congrArg (fun t : State => t.opening.command) last
    simp only [outputs_opening] at command
    rw [command, channelStage_course, roadStage_frame, before, toeStage_frame, seatLockStage_frame]
    exact taken
  have free : s.permitStage.angleStage.seatLockStage = s.permitStage.angleStage := by
    unfold seatLockStage
    refine if_neg ?_
    rw [leaf]
    simp [isSeated, due.2.2.2.2.1]
  rw [before, tryCommand_refused untaken, free] at last
  have motion : s.permitStage.angleStage = s := by
    have correction : s.motion.correction = s.permitStage.angleStage.motion.correction := by
      refine (congrArg (fun t : State => t.motion.correction) last).trans ?_
      refine (lateStages_correction _).trans ?_
      rw [roadStage_frame, toeStage_frame]
    rw [leaf] at correction ⊢
    rw [← (show _ = b from correction)]
  rw [motion] at last untaken
  obtain ⟨-, locks, -⟩ := lateStages_closures s.toeStage.roadStage
  have toe : s.toeStage = s := by
    rw [← last, roadStage_frame] at locks
    rw [toeStage_frame, ← locks]
  rw [toe] at last
  have road : s.roadStage = s := roadStage_still (t := s.roadStage.channelStage) (fun x => channelStage_ap _ x) (by rw [← last]; exact ⟨rfl, rfl⟩)
  rw [road] at last
  exact ⟨reported, motion, untaken, toe, road, last.symm⟩

end Held

end State

end Sys2Proof.Machine
end

section
/-!
SUPPORT. A settled state that waits for a call, with another book and other signals put beside the rest of it: what a round then
makes of it is the channel's part and the aspects (R112, R120).
-/

namespace Sys2Proof.Machine.State

open Sys2Proof

/-- Another book and other signals in place of a state's own. -/
def aside (s : State) (b : Book) (g : Signals) : State := { s with book := b, signals := g }

/-! ### The stages look neither at the book nor at the signals, but for the failed lamps -/

theorem cause_aside {s : State} {b : Book} {g : Signals} (lamps : ∀ d, (s.aside b g).signalFailed d = s.signalFailed d) (f : FaultId) :
    (s.aside b g).cause f = s.cause f := by
  cases f
  case signalLampOut =>
    unfold cause
    dsimp only
    rw [lamps, lamps]
    rfl
  all_goals rfl

section Aside

variable (s : State) (b : Book) (g : Signals)

theorem leafStages_aside {s : State} (h : s.motion.state = .holding) (still : s.permitStage.angleStage = s) (b : Book) (g : Signals) :
    (s.aside b g).permitStage.angleStage = s.aside b g := by
  have permit : (s.aside b g).permitStage = s.permitStage.aside b g := by
    rw [permitStage_holding h, permitStage_holding (s := s.aside b g) h]
    show (if s.permitOK = true then _ else _) = _
    split <;> rfl
  have holding : s.permitStage.motion.state = .holding := by
    rw [permitStage_holding h]
    split <;> exact h
  have angle : (s.permitStage.aside b g).angleStage = s.permitStage.angleStage.aside b g := by
    generalize s.permitStage = t at holding
    rw [angleStage_holding holding, angleStage_holding (s := t.aside b g) holding]
    show (if t.motion.correction = true then (if t.nearTarget = true then _ else _) else if (t.permitOK && t.target.any _) = true then _ else _) = _
    repeat' split
    all_goals first | rfl | contradiction
  rw [permit, angle, still]

theorem giveCommand_aside (c : SeqCmd) : ((s.aside b g).giveCommand c).isSome = (s.giveCommand c).isSome := by
  have given (may : Bool) (t : State) : (if may = true then some t else none).isSome = may := by cases may <;> rfl
  cases c
  case road => rfl
  all_goals exact (given _ _).trans (given _ _).symm

theorem takesCommand_aside : (s.aside b g).takesCommand = s.takesCommand := by
  unfold takesCommand
  show s.opening.command.any _ = _
  simp only [giveCommand_aside]
  rfl

theorem toeStage_aside : (s.aside b g).toeStage = s.toeStage.aside b g := by
  unfold toeStage
  show (if s.locks.toePending = true then (if (s.motion.state != .seatedFree) = true then _ else if s.partnerIsSeated = true then _ else _) else _) = _
  split_ifs <;> rfl

theorem onUsedAps_aside (f : RoadCtx → Approach → Approach) : (s.aside b g).onUsedAps f = (s.onUsedAps f).aside b g := by
  have first : (s.aside b g).onAp .a f = (s.onAp .a f).aside b g := rfl
  have uses : ((s.onAp .a f).aside b g).usesAp .b = (s.onAp .a f).usesAp .b := rfl
  unfold onUsedAps
  dsimp only
  rw [first, uses]
  split_ifs <;> rfl

end Aside

/-! ### A round of a state that waits for a call -/

section Held

variable {s : State} (settled : s.Settled) (due : s.CallIsDue)
include settled due

theorem held_outputs (b : Book) (g : Signals) : (s.aside b g).outputs = s.aside b (s.aside b g).aspectStage.signals := by
  obtain ⟨-, -, -, -, -, last⟩ := held_still settled due
  have channel : s.channelStage = s.aside s.channelStage.book s.channelStage.signals := by
    have opening : s.channelStage.opening = s.opening := by rw [← outputs_opening, last]
    have frame := channelStage_frame s
    unfold SameButCall at frame
    rw [opening] at frame
    exact frame
  have rest (b : Book) (g : Signals) : (s.aside b g).lampStage.outputStage = s.lampStage.outputStage.aside b g := by
    unfold lampStage
    rw [onUsedAps_aside]
    rfl
  have own : s.lampStage.outputStage = s := by
    have back : s.lampStage.outputStage.aside s.book s.signals = s := by
      have late := last
      rw [channel] at late
      have form : (s.aside s.channelStage.book s.channelStage.signals).outputs =
          s.lampStage.outputStage.aside s.channelStage.book
            (s.aside s.channelStage.book s.channelStage.signals).aspectStage.signals := rest _ _
      rw [form] at late
      have again := congrArg (fun t : State => t.aside s.book s.signals) late
      exact again
    have frame : s.lampStage.outputStage = s.lampStage.outputStage.aside s.book s.signals := by
      show s.lampStage.outputStage = s.lampStage.outputStage.aside s.book s.signals
      rw [lampStage_frame]
      rfl
    exact frame.trans back
  exact (rest b (s.aside b g).aspectStage.signals).trans (by rw [own])

/-- With another book in which no vessel passes, and other signals of the same lamps, a round makes calls and forms the aspects. -/
theorem held_round {b : Book} {g : Signals} (lamps : ∀ d, (s.aside b g).signalFailed d = s.signalFailed d) :
    (s.aside b g).round = (s.aside b g).channelStage.outputs := by
  obtain ⟨-, leaf, untaken, toe, road, -⟩ := held_still settled due
  have reported := reportAll_of_causes (t := s.aside b g) settled rfl (cause_aside lamps)
  have free : (s.aside b g).seatLockStage = s.aside b g := by
    unfold seatLockStage
    exact if_neg (by simp [isSeated, aside, due.2.2.2.2.1])
  have before : (s.aside b g).beforeRoad = s.aside b g := by
    unfold beforeRoad
    rw [reported, leafStages_aside due.2.2.2.2.1 leaf, endSuspension_going (s := s.aside b g) due.2.2.1,
      tryCommand_refused ((takesCommand_aside s b g).trans untaken), free, toeStage_aside, toe]
  have aps : (s.aside b g).roadStage = s.aside b g := by
    unfold roadStage at road ⊢
    rw [onUsedAps_aside, road]
  rw [round_eq, before, aps, held_sequencer settled due (t := s.aside b g) rfl ⟨_, rfl⟩ rfl rfl]

end Held

end Sys2Proof.Machine.State
end

section
/-!
SUPPORT. The calls (R113, R115, R120, R121, R124): the drift test of a call, the first candidate, and the call made at the end of a
gap timer, which every later round of the settling keeps.
-/

namespace Sys2Proof.Machine.State

open Sys2Proof

/-! ### The angle and the direction of a call (R113, R115, R124) -/

/-- A call may stand: its direction is in service and its required angle is reached, by the GO angle or, where there is none, by the
own angle (R115, R124). -/
def CallHolds (s : State) (r : Rec) : Prop :=
  (s.dirRec r.dir).red = .normal ∧ (s.dirRec r.dir).green = .normal ∧
    ∃ a, r.required = .angle a ∧ a ≤ s.angle ∧
      (s.role = .lead → s.link.paired = true → ∀ v, s.link.view = some v → a ≤ v.angle)

theorem inService_iff (r : DirRec) : r.inService = true ↔ r.red = .normal ∧ r.green = .normal := by
  simp [DirRec.inService]

theorem callHolds_iff {s : State} (lead : s.role ≠ .follow) (r : Rec) :
    (r.required.above (s.goAngle.getD s.angle) || !(s.dirRec r.dir).inService) = false ↔ s.CallHolds r := by
  have go (a : Int) : a ≤ s.goAngle.getD s.angle ↔
      a ≤ s.angle ∧ (s.role = .lead → s.link.paired = true → ∀ v, s.link.view = some v → a ≤ v.angle) := by
    unfold goAngle freshView twin
    cases role : s.role with
    | follow => exact absurd role lead
    | sole => simp
    | lead => cases paired : s.link.paired <;> cases s.link.view <;> simp
  unfold CallHolds
  rw [Bool.or_eq_false_iff, Bool.not_eq_false', inService_iff, and_comm, and_assoc]
  cases required : r.required with
  | unachievable => simp [Required.above]
  | angle v => simp [Required.above, go]

theorem angleReached_iff (s : State) (r : Rec) :
    (∃ a, s.goAngle = some a ∧ (!r.required.above a) = true) ↔ s.AngleReached r := by
  rw [← Option.any_eq_true]
  exact s.goAngle_reaches r.required

/-- The test of every round revokes a call that may not stand (R115, R124). -/
theorem driftStage_called {s : State} (lead : s.role ≠ .follow) {r : Rec} (called : s.calledRec = some r) :
    (s.CallHolds r → s.driftStage = s) ∧ (¬s.CallHolds r → s.driftStage = s.revoke r) := by
  rw [← callHolds_iff lead]
  unfold driftStage
  rw [called]
  exact ⟨fun holds => if_neg (by simp [holds]), fun drifts => if_pos ((Bool.not_eq_false _).mp drifts)⟩

theorem driftStage_uncalled {s : State} (h : s.calledRec = none) : s.driftStage = s := by
  unfold driftStage
  rw [h]

theorem calledRec_eq_some_iff (s : State) (r : Rec) :
    s.calledRec = some r ↔ s.signals.call.called = some r.number ∧ s.findRec r.number = some r ∧ r.state = .called := by
  constructor
  · intro called
    obtain ⟨found, state, named⟩ := calledRec_found called
    exact ⟨named, found, state⟩
  · rintro ⟨named, found, state⟩
    unfold calledRec
    rw [named]
    exact Option.filter_eq_some_iff.mpr ⟨found, by simp [state]⟩

/-! ### The first candidate (R120) -/

theorem partnerHolds_iff {s : State} (lead : s.role ≠ .follow) :
    s.partnerHolds = true ↔ (s.role = .lead → ∃ v, s.link.view = some v ∧ v.motion = 3) := by
  unfold partnerHolds twin
  cases role : s.role with
  | follow => exact absurd role lead
  | sole => simp
  | lead => simp [Option.any_eq_true]

theorem callDue_iff {s : State} (lead : s.role ≠ .follow) : s.callDue = true ↔ s.CallIsDue := by
  simp only [callDue, CallIsDue, Bool.and_eq_true, Bool.not_eq_true', anyRec_false_iff, beq_iff_eq, partnerHolds_iff lead, lead, ne_eq,
    not_false_eq_true, true_and]
  constructor
  · rintro ⟨⟨⟨⟨⟨⟨held, going⟩, run⟩, called⟩, passing⟩, holding⟩, twin⟩
    exact ⟨held, going, run, holding, twin, fun r hr => ⟨called r hr, passing r hr⟩⟩
  · rintro ⟨held, going, run, holding, twin, none_⟩
    exact ⟨⟨⟨⟨⟨⟨held, going⟩, run⟩, fun r hr => (none_ r hr).1⟩, fun r hr => (none_ r hr).2⟩, holding⟩, twin⟩

/-- The test of a record of the list for a call in a direction (R120). -/
def candidateTest (s : State) (d : Dir) (n : Nat) : Bool :=
  (s.findRec n).any fun r =>
    r.state == .grouped && r.dir == d && r.follows.isNone && s.goAngle.any fun a => !r.required.above a

theorem isCandidate_iff (s : State) (n : Nat) (d : Dir) :
    s.IsCandidate n d ↔ n ∈ s.opening.group ∧ (s.dirRec d).inService = true ∧ s.candidateTest d n = true := by
  unfold IsCandidate candidateTest
  simp only [inService_iff, Option.any_eq_true, Bool.and_eq_true, beq_iff_eq, Option.isNone_iff_eq_none, angleReached_iff, and_assoc]

theorem candidate_eq_some_iff (s : State) (d : Dir) (n : Nat) : s.candidate d = some n ↔ s.FirstCandidate n d := by
  unfold FirstCandidate
  simp only [isCandidate_iff]
  unfold candidate
  split
  next service =>
    refine List.find?_eq_some_iff_append.trans ?_
    simp only [service, true_and, Bool.not_eq_true']
    constructor
    · rintro ⟨test, xs, ys, split, none_⟩
      refine ⟨⟨by rw [split]; simp, test⟩, xs, ys, split, fun k hk is => ?_⟩
      rw [show s.candidateTest d k = false from none_ k hk] at is
      cases is.2
    · rintro ⟨⟨-, test⟩, xs, ys, split, none_⟩
      refine ⟨test, xs, ys, split, fun k hk => ?_⟩
      rw [← Bool.not_eq_true]
      exact fun is => none_ k hk ⟨by rw [split]; simp [hk], is⟩
  next off => simp [off]

theorem candidate_eq_none_iff (s : State) (d : Dir) : s.candidate d = none ↔ ∀ n, ¬s.IsCandidate n d := by
  simp only [isCandidate_iff]
  unfold candidate
  split
  next service =>
    rw [List.find?_eq_none]
    simp only [service, true_and, not_and]
    rfl
  next off => simp [off]

end Sys2Proof.Machine.State
end

section
/-!
SUPPORT. The call at the end of a gap timer (R121, R122): the first round of the settling makes it, and the others keep it.
-/

namespace Sys2Proof.Machine

open Sys2Proof

namespace State

theorem channelStage_lead {s : State} (lead : s.role ≠ .follow) : s.channelStage = s.driftStage.callStage := by
  unfold channelStage
  exact if_neg (by simpa using lead)

theorem callStage_undue {s : State} (h : s.callDue = false) : s.callStage = s := by
  unfold callStage
  exact if_neg (by simp [h])

theorem CallIsDue.uncalled {s : State} (due : s.CallIsDue) : s.calledRec = none := by
  refine Option.eq_none_iff_forall_ne_some.mpr fun r is => ?_
  obtain ⟨-, found, called⟩ := (calledRec_eq_some_iff s r).mp is
  exact (due.2.2.2.2.2.2 r (findRec_mem found).1).1 called

/-- A due call in the serving direction: its first candidate is called where the gap timer is stopped (R120). -/
theorem channelStage_first {s : State} (due : s.CallIsDue) {d : Dir} (serving : s.signals.call.serving = some d) {n : Nat}
    (first : s.FirstCandidate n d) : s.channelStage = if (s.dirRec d).gap = .stopped then s.call n else s := by
  rw [channelStage_lead due.1, driftStage_uncalled due.uncalled]
  unfold callStage
  rw [if_pos ((callDue_iff due.1).mpr due), serving]
  dsimp only [Option.getD_some]
  rw [(candidate_eq_some_iff s d n).mpr first]
  dsimp only [callIfReady]
  simp only [beq_iff_eq]

theorem aspectStage_eq (s : State) : s.aspectStage = { s with signals := { s.signals with
    inbound := { s.signals.inbound with aspect := s.aspectOf .inbound },
    outbound := { s.signals.outbound with aspect := s.aspectOf .outbound } } } := rfl

theorem aspectStage_idem (s : State) : s.aspectStage.aspectStage = s.aspectStage := by
  refine (aspectStage_eq s.aspectStage).trans ?_
  rw [aspectStage_aspectOf, aspectStage_aspectOf]
  rfl

theorem aspectStage_dirRec (s : State) (d : Dir) :
    s.aspectStage.dirRec d = { s.dirRec d with aspect := s.aspectOf d } := by
  cases d <;> rfl

theorem aspectOf_called {s : State} {r : Rec} (lead : s.role ≠ .follow) (called : s.calledRec = some r)
    (go : s.goConditions r = true) : s.aspectOf r.dir = .go := by
  have parts := go
  simp only [goConditions, Bool.and_eq_true, Bool.not_eq_true'] at parts
  obtain ⟨⟨⟨⟨⟨run, -⟩, -⟩, -⟩, -⟩, service⟩ := parts
  unfold aspectOf
  rw [if_neg (by simp [lead, run]), if_neg (by simp [service]), called, if_pos (by simp [go])]

/-! ### A call as it is made (R121) -/

theorem call_dirRec (s : State) (n : Nat) (d : Dir) : (s.call n).dirRec d = s.dirRec d := by cases d <;> rfl

/-- A candidate called: its record, which may stand as called. -/
theorem call_record {s : State} {n : Nat} {d : Dir} (is : s.IsCandidate n d) : ∃ r, (s.call n).calledRec = some r ∧
    r.number = n ∧ r.changed = true ∧ r.dir = d ∧ s.AngleReached r ∧ (s.call n).CallHolds r := by
  obtain ⟨-, red, green, r, found, -, rfl, -, reached⟩ := is
  obtain ⟨-, rfl⟩ := findRec_mem found
  let q : Rec := { r with state := .called, changed := true }
  have found' : (s.call r.number).findRec q.number = some q := findRec_setRecState_same found .called
  refine ⟨q, (calledRec_eq_some_iff _ q).mpr ⟨rfl, found', rfl⟩, rfl, rfl, rfl, reached, ?_, ?_, ?_⟩
  · rw [call_dirRec]
    exact red
  · rw [call_dirRec]
    exact green
  · obtain ⟨a, required, own, view⟩ := reached
    refine ⟨a, required, own, fun lead _ v shown => ?_⟩
    have lead : s.role = .lead := lead
    obtain ⟨-, v', shown', below⟩ := view fun sole => by cases sole.symm.trans lead
    obtain rfl := Option.some.inj (shown.symm.trans shown')
    exact below

theorem CallHolds.aspectStage {s : State} {r : Rec} (h : s.CallHolds r) : s.aspectStage.CallHolds r := by
  unfold CallHolds
  rw [aspectStage_dirRec]
  exact h

section Call

variable {s : State} (settled : s.Settled) (due : s.CallIsDue) {d : Dir} (serving : s.signals.call.serving = some d) {n : Nat}
  (first : s.FirstCandidate n d)

/-- The state in which a due call is made: the gap timer of the serving direction is stopped. -/
def gapEnded (s : State) (d : Dir) : State := s.setGap d .stopped

theorem gapEnded_eq (s : State) (d : Dir) : s.gapEnded d = s.aside s.book (s.gapEnded d).signals := by
  cases d <;> rfl

/-- The call is made in a state that waits for it. -/
def calledState (s : State) (d : Dir) (n : Nat) : State := (s.gapEnded d).call n

theorem calledState_eq (s : State) (d : Dir) (n : Nat) : s.calledState d n =
    s.aside (s.setRecState n .called).book (s.calledState d n).signals := by
  cases d <;> rfl

theorem calledState_signals (s : State) (d : Dir) (n : Nat) : (s.calledState d n).signals.call = { s.signals.call with
    called := some n, callTimer := Timer.startS s.items.channel.callTime } := by
  cases d <;> rfl

theorem gapEnded_isCandidate (k : Nat) : (s.gapEnded d).IsCandidate k d ↔ s.IsCandidate k d := by cases d <;> rfl

include first in
theorem gapEnded_first : (s.gapEnded d).FirstCandidate n d := by
  obtain ⟨candidate, xs, ys, split, none_⟩ := first
  refine ⟨(gapEnded_isCandidate n).mpr candidate, xs, ys, ?_, fun k hk => mt (gapEnded_isCandidate k).mp (none_ k hk)⟩
  rw [gapEnded_eq]
  exact split

include settled due serving first

/-- The first round makes the call, and forms its aspect. -/
theorem gapEnded_round : (s.gapEnded d).round = (s.calledState d n).aspectStage := by
  have lamps (x : Dir) : (s.aside s.book (s.gapEnded d).signals).signalFailed x = s.signalFailed x := by
    cases d <;> cases x <;> rfl
  have round := held_round settled due lamps
  have waits : (s.gapEnded d).CallIsDue := by
    rw [gapEnded_eq]
    exact due
  have first' := gapEnded_first first
  have channel : (s.gapEnded d).channelStage = s.calledState d n := by
    refine (channelStage_first waits (d := d) ?_ first').trans (if_pos ?_)
    · cases d <;> exact serving
    · cases d <;> rfl
  rw [← gapEnded_eq, channel] at round
  rw [round]
  have out := held_outputs settled due (s.setRecState n .called).book (s.calledState d n).signals
  rw [← calledState_eq] at out
  rw [out]
  cases d <;> rfl

omit settled serving in
/-- The record of the call, as it stands once called. -/
theorem calledState_record : ∃ r, (s.calledState d n).calledRec = some r ∧ r.number = n ∧ r.changed = true ∧ r.dir = d ∧
    (s.calledState d n).goConditions r = true ∧ (s.calledState d n).aspectStage.CallHolds r := by
  obtain ⟨r, called, number, changed, dir, reached, holds⟩ := call_record (gapEnded_first first).1
  obtain ⟨lead, -, -, run, holding, twin, -⟩ := due
  refine ⟨r, called, number, changed, dir, ?_, holds.aspectStage⟩
  have form := calledState_eq s d n
  have fresh : s.freshOrSole = true := (freshOrSole_iff s).mpr fun other => by
    obtain ⟨a, -, -, view⟩ := reached
    rw [gapEnded_eq] at view
    exact (view other).1
  have partner : s.partnerHolds = true := (partnerHolds_iff lead).mpr twin
  have reaches : (s.goAngle.any fun a => !r.required.above a) = true := by
    rw [gapEnded_eq] at reached
    exact (goAngle_reaches s r.required).mpr reached
  have service : ((s.calledState d n).dirRec r.dir).inService = true := (inService_iff _).mpr ⟨holds.1, holds.2.1⟩
  unfold goConditions
  rw [service, form]
  show (!s.faults.halted && s.motion.state == .holding && s.freshOrSole && s.partnerHolds &&
    (s.goAngle.any fun a => !r.required.above a) && true) = true
  rw [run, holding, fresh, partner, reaches]
  rfl

/-- A call that stands stays through every later round. -/
theorem calledState_round : (s.calledState d n).aspectStage.round = (s.calledState d n).aspectStage := by
  obtain ⟨r, called, -, -, -, -, holds⟩ := calledState_record due first
  have form : (s.calledState d n).aspectStage =
      s.aside (s.setRecState n .called).book (s.calledState d n).aspectStage.signals := by cases d <;> rfl
  have lamps (x : Dir) : (s.aside (s.setRecState n .called).book (s.calledState d n).aspectStage.signals).signalFailed x =
      s.signalFailed x := by cases d <;> cases x <;> rfl
  have round := held_round settled due lamps
  have out := held_outputs settled due (s.setRecState n .called).book (s.calledState d n).aspectStage.signals
  have called' : (s.calledState d n).aspectStage.calledRec = some r := called
  have lead : (s.calledState d n).aspectStage.role ≠ .follow := by
    rw [form]
    exact due.1
  rw [← form] at round out
  rw [round, channelStage_lead lead, (driftStage_called lead called').1 holds]
  have undue : (s.calledState d n).aspectStage.callDue = false := by
    rw [← Bool.not_eq_true, callDue_iff lead]
    intro due'
    obtain ⟨-, found, is⟩ := (calledRec_eq_some_iff _ r).mp called'
    exact (due'.2.2.2.2.2.2 r (findRec_mem found).1).1 is
  rw [callStage_undue undue, out, aspectStage_idem, ← form]

/-- Once the event has settled the first candidate is CALLED and its direction shows GO (R121). -/
theorem gapEnded_settle : (s.gapEnded d).settle = (s.calledState d n).aspectStage := by
  have stays := calledState_round settled due serving first
  have more (k : Nat) : rounds k (s.calledState d n).aspectStage = (s.calledState d n).aspectStage := by
    induction k with
    | zero => rfl
    | succ k ih => exact (congrArg (rounds k) stays).trans ih
  refine Eq.trans ?_ (more 7)
  exact congrArg (rounds 7) (gapEnded_round settled due serving first)

end Call

end State

theorem exec_gapTimerExpiry (s : State) (d : Dir) : exec (.gapTimerExpiry d) s = .next (s.wake.gapEnded d).settle := rfl

/-- The call at the end of a gap timer (R120 to R122). -/
theorem exec_gapTimerExpiry_calls {s : State} (settled : s.Settled) (due : s.CallIsDue) {d : Dir}
    (serving : s.signals.call.serving = some d) {n : Nat} (first : s.FirstCandidate n d) :
    ∃ t, exec (.gapTimerExpiry d) s = .next t ∧ (t.dirRec d).aspect = .go ∧
      t.signals.call = { s.signals.call with
        called := some n, callTimer := .running (s.items.channel.callTime * 1000).toNat } ∧
      ∃ r, t.findRec n = some r ∧ r.state = .called ∧ r.changed = true := by
  obtain ⟨r, called, number, changed, dir, go, -⟩ := State.calledState_record due first
  obtain ⟨-, found, state⟩ := (State.calledRec_eq_some_iff _ r).mp called
  have lead : (s.calledState d n).role ≠ .follow := by
    rw [State.calledState_eq]
    exact due.1
  refine ⟨(s.calledState d n).aspectStage, ?_, ?_, State.calledState_signals s d n, r, number ▸ found, state, changed⟩
  · rw [exec_gapTimerExpiry, State.wake_of_not_justReset s settled.1, State.gapEnded_settle settled due serving first]
  · have aspect := State.aspectOf_called lead called go
    rw [dir] at aspect
    rw [State.aspectStage_dirRec]
    exact aspect

end Sys2Proof.Machine
end

section
/-!
SUPPORT. What every event leaves of the calls (R115, R120, R124): no call that may not stand, and no due call unmade.
-/

namespace Sys2Proof.Machine.State

open Sys2Proof

/-- Every call of a state may stand. -/
def CallsHold (s : State) : Prop := ∀ r, s.calledRec = some r → s.CallHolds r

/-- No due call waits but for the gap timer of the serving direction (R120). -/
def CallsMade (s : State) : Prop :=
  s.CallIsDue → ∀ d, s.signals.call.serving = some d →
    (∀ n, s.FirstCandidate n d → (s.dirRec d).gap ≠ .stopped) ∧
      ((∀ n, ¬s.IsCandidate n d) → ∀ n, ¬s.IsCandidate n d.other)

theorem CallsHold.of_uncalled {s : State} (h : s.signals.call.called = none) : s.CallsHold := fun r called => by
  obtain ⟨named, -⟩ := (calledRec_eq_some_iff s r).mp called
  cases h.symm.trans named

theorem driftStage_callsHold {s : State} (lead : s.role ≠ .follow) : s.driftStage.CallsHold := by
  cases called : s.calledRec with
  | none =>
    rw [driftStage_uncalled called]
    intro r is
    cases called.symm.trans is
  | some r =>
    obtain ⟨stays, revoked⟩ := driftStage_called lead called
    by_cases holds : s.CallHolds r
    · rw [stays holds]
      intro q is
      obtain rfl := Option.some.inj (called.symm.trans is)
      exact holds
    · rw [revoked holds]
      exact .of_uncalled (by rw [revoke, callEnd_signals]; rfl)

theorem serve_isCandidate (s : State) (e d : Dir) (n : Nat) : (s.serve e).IsCandidate n d ↔ s.IsCandidate n d := by
  cases d <;> rfl

theorem serve_dirRec (s : State) (e d : Dir) : (s.serve e).dirRec d = s.dirRec d := by cases d <;> rfl

theorem call_callsHold {s : State} {n : Nat} {d : Dir} (is : s.IsCandidate n d) : (s.call n).CallsHold := by
  obtain ⟨r, called, -, -, -, -, holds⟩ := call_record is
  intro q is'
  obtain rfl := Option.some.inj (called.symm.trans is')
  exact holds

/-- A state that has called is due no call (R121). -/
theorem call_not_due {s : State} {n : Nat} {d : Dir} (is : s.IsCandidate n d) : ¬(s.call n).CallIsDue := fun due => by
  obtain ⟨r, called, -⟩ := call_record is
  cases due.uncalled.symm.trans called

/-- What the examination of the list for a call does (R120): nothing, the call of the first candidate of the serving direction, or of the
other, or the change of the serving direction alone. -/
theorem callStage_cases {s : State} (lead : s.role ≠ .follow) :
    ¬s.CallIsDue ∧ s.callStage = s ∨
    (∃ n, s.FirstCandidate n (s.signals.call.serving.getD .inbound) ∧
      s.callStage = s.callIfReady (s.signals.call.serving.getD .inbound) n) ∨
    (∃ n, s.FirstCandidate n (s.signals.call.serving.getD .inbound).other ∧
      s.callStage = (s.serve (s.signals.call.serving.getD .inbound).other).callIfReady
        (s.signals.call.serving.getD .inbound).other n) ∨
    (∀ n, ¬s.IsCandidate n (s.signals.call.serving.getD .inbound)) ∧
      (∀ n, ¬s.IsCandidate n (s.signals.call.serving.getD .inbound).other) ∧ s.callStage = s := by
  unfold callStage
  split
  next due =>
    refine .inr ?_
    dsimp only
    split
    next n first => exact .inl ⟨n, (candidate_eq_some_iff _ _ _).mp first, rfl⟩
    next none_ =>
      refine .inr ?_
      split
      next n first => exact .inl ⟨n, (candidate_eq_some_iff _ _ _).mp first, rfl⟩
      next none' => exact .inr ⟨(candidate_eq_none_iff _ _).mp none_, (candidate_eq_none_iff _ _).mp none', rfl⟩
  next undue => exact .inl ⟨mt (callDue_iff lead).mpr undue, rfl⟩

theorem callIfReady_cases (s : State) (d : Dir) (n : Nat) :
    s.callIfReady d n = s.call n ∨ (s.dirRec d).gap ≠ .stopped ∧ s.callIfReady d n = s := by
  unfold callIfReady
  split
  next => exact .inl rfl
  next running => exact .inr ⟨by simpa using running, rfl⟩

theorem callStage_callsHold {s : State} (lead : s.role ≠ .follow) (holds : s.CallsHold) : s.callStage.CallsHold := by
  rcases callStage_cases lead with ⟨-, same⟩ | ⟨n, first, made⟩ | ⟨n, first, made⟩ | ⟨-, -, same⟩
  · rwa [same]
  · rcases callIfReady_cases s (s.signals.call.serving.getD .inbound) n with ready | ⟨-, waits⟩
    · rw [made, ready]
      exact call_callsHold first.1
    · rwa [made, waits]
  · rcases callIfReady_cases (s.serve (s.signals.call.serving.getD .inbound).other) (s.signals.call.serving.getD .inbound).other n with
      ready | ⟨-, waits⟩
    · rw [made, ready]
      exact call_callsHold ((serve_isCandidate ..).mpr first.1)
    · rw [made, waits]
      intro r called
      have stands := holds r called
      unfold CallHolds
      rw [serve_dirRec]
      exact stands
  · rwa [same]

theorem callStage_callsMade {s : State} (lead : s.role ≠ .follow) : s.callStage.CallsMade := by
  rcases callStage_cases lead with ⟨undue, same⟩ | ⟨n, first, made⟩ | ⟨n, first, made⟩ | ⟨none_, none', same⟩
  · rw [same]
    exact fun due => absurd due undue
  · rcases callIfReady_cases s (s.signals.call.serving.getD .inbound) n with ready | ⟨running, waits⟩
    · rw [made, ready]
      exact fun due => absurd due (call_not_due first.1)
    · rw [made, waits]
      intro due d serving
      rw [serving] at first running
      exact ⟨fun _ _ => running, fun none_ => absurd first.1 (none_ n)⟩
  · have is := (serve_isCandidate s (s.signals.call.serving.getD .inbound).other (s.signals.call.serving.getD .inbound).other n).mpr first.1
    rcases callIfReady_cases (s.serve (s.signals.call.serving.getD .inbound).other) (s.signals.call.serving.getD .inbound).other n with
      ready | ⟨running, waits⟩
    · rw [made, ready]
      exact fun due => absurd due (call_not_due is)
    · rw [made, waits]
      intro due d serving
      obtain rfl : (s.signals.call.serving.getD .inbound).other = d := Option.some.inj serving
      exact ⟨fun _ _ => running, fun none_ => absurd is (none_ n)⟩
  · rw [same]
    intro due d serving
    rw [serving] at none_ none'
    exact ⟨fun n first => absurd first.1 (none_ n), fun _ => none'⟩

/-! ### The outputs look on -/

/-- The outputs write the aspects, the lamps of the road and the drive. -/
theorem outputs_frame (s : State) : s.outputs = { s.aspectStage with
    apA := s.outputs.apA, apB := s.outputs.apB, motion := s.outputs.motion } := by
  show s.aspectStage.lampStage.outputStage = { s.aspectStage with
    apA := s.aspectStage.lampStage.apA, apB := s.aspectStage.lampStage.apB, motion := s.aspectStage.lampStage.outputStage.motion }
  rw [lampStage_frame]
  rfl

theorem CallsHold.outputs {s : State} (h : s.CallsHold) : s.outputs.CallsHold := by
  rw [outputs_frame]
  intro r called
  exact (h r called).aspectStage

theorem CallsMade.outputs {s : State} (h : s.CallsMade) : s.outputs.CallsMade := by
  have motion := outputs_motion_state s
  rw [outputs_frame]
  intro due d serving
  obtain ⟨lead, held, going, run, holding, twin, none_⟩ := due
  have is (n : Nat) (e : Dir) : ({ s.aspectStage with
      apA := s.outputs.apA, apB := s.outputs.apB, motion := s.outputs.motion } : State).IsCandidate n e ↔ s.IsCandidate n e := by
    cases e <;> rfl
  obtain ⟨waits, other⟩ := h ⟨lead, held, going, run, motion ▸ holding, twin, none_⟩ d serving
  refine ⟨fun n first => ?_, fun off n => ?_⟩
  · have gap := waits n ⟨(is n d).mp first.1, first.2.imp fun xs => Exists.imp fun ys ⟨split, early⟩ =>
      ⟨split, fun k hk => mt (is k d).mpr (early k hk)⟩⟩
    cases d <;> exact gap
  · rw [is]
    exact other (fun k => mt (is k d).mpr (off k)) n

theorem settle_calls {u : State} (lead : u.role ≠ .follow) : u.settle.CallsHold ∧ u.settle.CallsMade := by
  have last : u.settle = (rounds 7 u).beforeRoad.roadStage.startTest.advancePhase.channelStage.outputs :=
    (settle_round u).trans (round_eq _)
  have role : (rounds 7 u).beforeRoad.roadStage.startTest.advancePhase.role = u.role := by
    have kept : (rounds 7 u).beforeRoad.roadStage.startTest.advancePhase.kept = u.kept := by
      rw [advancePhase_kept, startTest_kept, roadStage_kept, beforeRoad_kept, rounds_kept]
    rw [← State.kept_role, kept]
    rfl
  generalize (rounds 7 u).beforeRoad.roadStage.startTest.advancePhase = z at last role
  have lead' : z.role ≠ .follow := role ▸ lead
  have drifted : z.driftStage.role ≠ .follow := by rw [driftStage_frame]; exact lead'
  rw [last, channelStage_lead lead']
  exact ⟨(callStage_callsHold drifted (driftStage_callsHold lead')).outputs, (callStage_callsMade drifted).outputs⟩

end Sys2Proof.Machine.State
end

section
/-!
PROOFS. The gap timers with the calls they bring, the revocations, the signal lamps and the beams of the channel (O57).
-/

namespace Sys2Proof.Machine

open Sys2Proof

namespace State

/-! ### The beams (R116 to R118) -/

theorem passingRec_eq_some_iff (s : State) (r : Rec) :
    s.passingRec = some r ↔ s.signals.call.passing = some r.number ∧ s.findRec r.number = some r ∧ r.state = .passing := by
  unfold passingRec
  split
  next n named =>
    rw [Option.filter_eq_some_iff, beq_iff_eq]
    constructor
    · rintro ⟨found, state⟩
      obtain ⟨-, rfl⟩ := findRec_mem found
      exact ⟨named, found, state⟩
    · rintro ⟨named', found, state⟩
      obtain rfl := Option.some.inj (named.symm.trans named')
      exact ⟨found, state⟩
  next none_ => simp [none_]

theorem wake_beam (s : State) (b : Beam) : s.wake.beam b = s.beam b := by
  have beams := s.wake_beams
  cases b
  exacts [congrArg Prod.fst beams, congrArg Prod.snd beams]

/-- The direction that enters at a beam (R116). -/
def entryDir : Beam → Dir
  | .downstream => .inbound
  | .upstream => .outbound

theorem entryBeam_iff (d : Dir) (b : Beam) : (entryBeam d == b) = true ↔ d = entryDir b := by
  cases d <;> cases b <;> decide

theorem exitBeam_iff (d : Dir) (b : Beam) : (exitBeam d == b) = true ↔ d = (entryDir b).other := by
  cases d <;> cases b <;> decide

/-- The record called in at a beam (R117). -/
def CalledIn (s : State) (b : Beam) (r : Rec) : Prop :=
  s.signals.call.called = some r.number ∧ s.findRec r.number = some r ∧ r.state = .called ∧ r.dir = entryDir b

/-- The record that passes. -/
def Passes (s : State) (r : Rec) : Prop :=
  s.signals.call.passing = some r.number ∧ s.findRec r.number = some r ∧ r.state = .passing

theorem calledRec_setBeam (s : State) (b : Beam) (v : Bool) : (s.setBeam b v).calledRec = s.calledRec := by cases b <;> rfl

theorem passingRec_setBeam (s : State) (b : Beam) (v : Bool) : (s.setBeam b v).passingRec = s.passingRec := by cases b <;> rfl

theorem calledIn_iff (s : State) (b : Beam) (v : Bool) (r : Rec) :
    (s.setBeam b v).calledRec.filter (fun r => entryBeam r.dir == b) = some r ↔ s.CalledIn b r := by
  rw [calledRec_setBeam, Option.filter_eq_some_iff, calledRec_eq_some_iff, entryBeam_iff]
  unfold CalledIn
  simp only [and_assoc]

theorem passesOut_iff (s : State) (b : Beam) (v : Bool) (r : Rec) :
    (s.setBeam b v).passingRec.filter (fun r => exitBeam r.dir == b) = some r ↔ s.Passes r ∧ r.dir = (entryDir b).other := by
  rw [passingRec_setBeam, Option.filter_eq_some_iff, passingRec_eq_some_iff, exitBeam_iff]
  rfl

section Break

variable {s : State} {b : Beam}

theorem attributeBreak_entry {r : Rec} (is : s.CalledIn b r) :
    (s.setBeam b true).attributeBreak b = (s.setBeam b true).enterVessel r := by
  unfold attributeBreak
  rw [(calledIn_iff s b true r).mpr is]

theorem uncalled_filter (no : ∀ q, ¬s.CalledIn b q) :
    (s.setBeam b true).calledRec.filter (fun r => entryBeam r.dir == b) = none :=
  Option.eq_none_iff_forall_ne_some.mpr fun q h => no q ((calledIn_iff s b true q).mp h)

theorem attributeBreak_exit {r : Rec} (no : ∀ q, ¬s.CalledIn b q) (is : s.Passes r) (dir : r.dir = (entryDir b).other) :
    (s.setBeam b true).attributeBreak b = (s.setBeam b true).modCall fun c => { c with exitSeen := true } := by
  unfold attributeBreak
  rw [uncalled_filter no, (passesOut_iff s b true r).mpr ⟨is, dir⟩]

theorem attributeBreak_unannounced (no : ∀ q, ¬s.CalledIn b q) (other : ∀ r, s.Passes r → r.dir ≠ (entryDir b).other) :
    (s.setBeam b true).attributeBreak b = (s.setBeam b true).raise .unannouncedVessel := by
  have out : (s.setBeam b true).passingRec.filter (fun r => exitBeam r.dir == b) = none :=
    Option.eq_none_iff_forall_ne_some.mpr fun q h => by
      obtain ⟨is, dir⟩ := (passesOut_iff s b true q).mp h
      exact other q is dir
  unfold attributeBreak
  rw [uncalled_filter no, out]

end Break

/-- A clear that completes no passage changes the reading alone (R118). -/
theorem completePassage_not {s : State} {b : Beam}
    (no : ∀ r, s.Passes r → s.signals.call.exitSeen = true →
      ¬((s.setBeam b false).signals.downstream = some false ∧ (s.setBeam b false).signals.upstream = some false)) :
    (s.setBeam b false).completePassage = s.setBeam b false := by
  have call : (s.setBeam b false).signals.call = s.signals.call := by cases b <;> rfl
  unfold completePassage
  split
  next r passing =>
    refine if_neg fun h => ?_
    rw [passingRec_setBeam, passingRec_eq_some_iff] at passing
    simp only [Bool.and_eq_true, beq_iff_eq, call] at h
    obtain ⟨⟨seen, down⟩, up⟩ := h
    exact no r passing seen ⟨down, up⟩
  · rfl

end State

/-! ### The events -/

theorem exec_beamEstablished (s : State) (b : Beam) (on : Bool) : exec (.beamEstablished b on) s =
    .next (if s.wake.role != .follow && (s.wake.beam b).isNone then s.wake.setBeam b on else s.wake).settle := rfl

theorem exec_beamBreak (s : State) (b : Beam) : exec (.beamBreak b) s =
    .next (if s.wake.role != .follow && s.wake.beam b == some false then (s.wake.setBeam b true).attributeBreak b
      else s.wake).settle := rfl

theorem exec_signalLampProvingSpan (s : State) (d : Dir) (k : Colour) (p : Proving) : exec (.signalLampProvingSpan d k p) s =
    .next (if s.wake.role == .follow then s.wake else s.wake.setDirRec d ((s.wake.dirRec d).judge k p)).settle := rfl

/-- The heads and the beams of a FOLLOW are out of service (R127). -/
theorem exec_channel_follow {s : State} (follow : s.role = .follow) (d : Dir) (k : Colour) (p : Proving) (b : Beam) (on : Bool) :
    exec (.signalLampProvingSpan d k p) s = .next s.wake.settle ∧ exec (.beamEstablished b on) s = .next s.wake.settle ∧
      exec (.beamBreak b) s = .next s.wake.settle ∧ exec (.beamClear b) s = .next s.wake.settle := by
  rw [exec_signalLampProvingSpan, exec_beamEstablished, exec_beamBreak, exec_beamClear, if_pos (by simp [follow]),
    if_neg (by simp [follow]), if_neg (by simp [follow]), if_neg (by simp [follow])]
  exact ⟨rfl, rfl, rfl, rfl⟩

/-- A beam that is not there to be read so changes nothing (R116). -/
theorem exec_beam_unread {s : State} (b : Beam) (on : Bool) :
    (s.beam b ≠ none → exec (.beamEstablished b on) s = .next s.wake.settle) ∧
      (s.beam b ≠ some false → exec (.beamBreak b) s = .next s.wake.settle) ∧
      (s.beam b ≠ some true → exec (.beamClear b) s = .next s.wake.settle) := by
  rw [exec_beamEstablished, exec_beamBreak, exec_beamClear, s.wake_beam]
  refine ⟨fun known => ?_, fun other => ?_, fun other => ?_⟩
  · rw [if_neg (by simp [Option.isNone_iff_eq_none, known])]
  · rw [if_neg (by simp [other])]
  · rw [if_neg (by simp [other])]

/-- A beam of a LEAD or SOLE part that is there to be read so (R116 to R118). -/
theorem exec_beam_read {s : State} (lead : s.role ≠ .follow) (b : Beam) (on : Bool) :
    (s.beam b = none → exec (.beamEstablished b on) s = .next (s.wake.setBeam b on).settle) ∧
      (s.beam b = some false → exec (.beamBreak b) s = .next ((s.wake.setBeam b true).attributeBreak b).settle) ∧
      (s.beam b = some true → exec (.beamClear b) s = .next (s.wake.setBeam b false).completePassage.settle) := by
  rw [exec_beamEstablished, exec_beamBreak, exec_beamClear, s.wake_beam]
  refine ⟨fun seen => ?_, fun seen => ?_, fun seen => ?_⟩ <;> rw [if_pos (by simp [lead, seen])]

/-- When a signal lamp is meant to be lit (R114). -/
theorem Aspect.lit_eq (a : Aspect) : a.lit .red = decide (a ≠ .go) ∧ a.lit .amber = decide (a = .prepare) ∧
    a.lit .green = decide (a = .go) := by
  cases a <;> decide

/-- Settles O57: what every settling leaves of the calls, the revocation in a round, the call at the end of a gap timer, and the lamps
and the beams event by event. -/
theorem channelEvents : Obligations.ChannelEvents := by
  refine ⟨fun u lead => ?_, fun s r lead called found state => ?_,
    fun s n d settled due serving first => exec_gapTimerExpiry_calls settled due serving first, ?_⟩
  · obtain ⟨hold, made⟩ := State.settle_calls lead
    exact ⟨fun r called found state => hold r ((State.calledRec_eq_some_iff _ r).mpr ⟨called, found, state⟩), made⟩
  · intro reaches keeps
    obtain ⟨stays, revoked⟩ := State.driftStage_called lead ((State.calledRec_eq_some_iff s r).mpr ⟨called, found, state⟩)
    refine ⟨stays, fun drifts => (revoked drifts).trans ?_⟩
    rw [State.revoke, State.callEnd_eq, State.setRecState, State.modRec]
    simp only [beq_iff_eq]
    rfl
  · intro s w call
    refine ⟨fun d => rfl, fun follow => exec_channel_follow follow, ?_, ?_⟩
    · intro lead d p r judged
      have lamp (h : Health) (on : Bool) : h.judge on p = judged h on := h.judge_eq on p
      obtain ⟨red, amber, green⟩ := r.aspect.lit_eq
      have on : ¬(s.wake.role == .follow) = true := by simpa using lead
      rw [exec_signalLampProvingSpan, exec_signalLampProvingSpan, exec_signalLampProvingSpan, if_neg on, if_neg on, if_neg on,
        ← lamp, ← lamp, ← lamp, ← red, ← amber, ← green]
      exact ⟨rfl, rfl, rfl⟩
    · intro lead b on now across taken entry calledIn passes
      have seen : s.beam b = now := by cases b <;> rfl
      have take (v : Bool) : w.setBeam b v = { w with signals := taken v } := by cases b <;> rfl
      have dir : State.entryDir b = entry := by cases b <;> rfl
      have in_iff (r : Rec) : calledIn r ↔ w.CalledIn b r := by
        unfold State.CalledIn
        rw [dir]
      obtain ⟨known, unbroken, unclear⟩ := exec_beam_unread (s := s) b on
      obtain ⟨established, breaks, clears⟩ := exec_beam_read lead b on
      rw [seen] at known unbroken unclear established breaks clears
      refine ⟨fun h => ?_, known, unbroken, unclear, fun h => ⟨fun r is => ?_, fun r no is out => ?_, fun no other => ?_⟩,
        fun h no => ?_⟩
      · rw [established h]
        exact congrArg (fun u : State => Host.Outcome.next u.settle) (take on)
      · have entered := State.attributeBreak_entry ((in_iff r).mp is)
        have run := breaks h
        rw [entered] at run
        have kept : ((w.setBeam b true).enterVessel r).kept = (w.setBeam b true).kept :=
          (State.modCall_kept _ _).trans (State.setRecState_kept ..)
        have found : (w.setBeam b true).findRec r.number = some r := by
          rw [take]
          exact is.2.1
        refine ⟨(w.setBeam b true).enterVessel r, run, ?_, ?_, _, State.findRec_setRecState_same found .passing, rfl, rfl⟩
        · cases b <;> rfl
        · rw [kept]
          cases b <;> rfl
      · have left := State.attributeBreak_exit (fun q => mt (in_iff q).mpr (no q)) is (by rw [dir]; exact out)
        rw [breaks h, left]
        exact congrArg (fun u : State => Host.Outcome.next u.settle) (by cases b <;> rfl)
      · have alien := State.attributeBreak_unannounced (fun q => mt (in_iff q).mpr (no q)) fun r is => by rw [dir]; exact other r is
        have run := breaks h
        rw [alien, take] at run
        have cls : FaultId.unannouncedVessel.cls ≠ .halt := by simp [FaultId.cls]
        refine ⟨_, run, State.raise_frame _ _ cls, fun f => State.raise_fault cls _ f, fun mask => ?_⟩
        exact State.raise_settle_latched _ _ ((s.wake_mask _).trans mask)
      · rw [clears h, State.completePassage_not fun r is exitSeen => ?_, take]
        intro ⟨down, up⟩
        refine no r is exitSeen ?_
        have beams := s.wake_beams
        cases b
        exacts [(congrArg Prod.snd beams).symm.trans up, (congrArg Prod.fst beams).symm.trans down]

end Sys2Proof.Machine
end
